-- ==== Sys2Proof/Word.lean ====
section
/-! DEFINITION. The plain data types the model is built from: words, access sizes, byte lanes, unit and register
names, the names of host locals, fault codes, and the moves of the schedule. No behaviour. -/
namespace Sys2Proof

/-- A bus address, a register or a host local: 32 bits (00_scope.md R9, 40_bus.md R402). -/
abbrev Word := BitVec 32

/-- A byte of memory. -/
abbrev Byte := BitVec 8

/-- The size of a bus transaction: 1, 2 or 4 bytes (20_memory.md R206). -/
inductive Size where
  | b1 | b2 | b4
  deriving DecidableEq, Repr, Inhabited

/-- Which bytes of a 32-bit register a read takes: the word, one of two halfwords, one of four bytes
(20_memory.md R208). Only naturally aligned lanes exist (R207). -/
inductive Lane where
  | word | half0 | half1 | byte0 | byte1 | byte2 | byte3
  deriving DecidableEq, Repr, Inhabited

/-- The two ADC units (42_adc.md). -/
inductive AdcUnit where
  | one | two
  deriving DecidableEq, Repr, Inhabited

/-- Registers of the PWM unit (10_state.md R110). -/
inductive PwmReg where
  | cr1 | cr2 | sr | egr | ccmr | ccer | cnt | psc | arr | rcr | ccr1 | ccr2 | ccr3 | ccr4 | ccr5 | bdtr
  deriving DecidableEq, Repr, Inhabited

/-- Registers of an ADC unit (10_state.md R120). -/
inductive AdcReg where
  | isr | ier | cr | cfgr | smpr1 | smpr2 | sqr1 | dr | jsqr | jdr1 | jdr2 | jdr3 | jdr4
  deriving DecidableEq, Repr, Inhabited

/-- Registers of a DMA channel (10_state.md R130). -/
inductive DmaReg where
  | ccr | cndtr | cpar | cmar | cisr | cifcr
  deriving DecidableEq, Repr, Inhabited

/-- Registers of the CORDIC unit (10_state.md R140). -/
inductive CordicReg where
  | csr | wdata | rdata
  deriving DecidableEq, Repr, Inhabited

/-- Registers of the transform unit (10_state.md R143). -/
inductive XformReg where
  | ctrl | in0 | in1 | in2 | in3 | out0 | out1 | out2 | out3
  deriving DecidableEq, Repr, Inhabited

/-- Registers of the interrupt dispatcher (10_state.md R144). -/
inductive IntcReg where
  | ctrl | ier | ipr | iabr | curpri | eoi | active
  deriving DecidableEq, Repr, Inhabited

/-- Every mapped register of the block (10_state.md sections 4 to 8). -/
inductive Reg where
  | pwm (r : PwmReg)
  | adc (u : AdcUnit) (r : AdcReg)
  | dma (c : Fin 16) (r : DmaReg)
  | dmamux (c : Fin 16)
  | cordic (r : CordicReg)
  | xform (r : XformReg)
  | intc (r : IntcReg)
  deriving DecidableEq, Repr, Inhabited

/-- An interrupt line of the dispatcher, 0..16 (60_exceptions.md R1020). -/
abbrev Line := Fin 17

/-- The name of a host local (40_bus.md R402). `user n` are a program's own names, numbered; the others are the
locals of the driver operations, each prefixed by its operation's name (R427). -/
inductive LocalName where
  | user (n : Nat)
  | pwmConfigureDt | pwmDeadtimeTicksDt | pwmEnableOutputsB | pwmSetDutyR | pwmSetDutyN
  | adcEnableC | adcStartC
  | adcConfigureProductionS1 | adcConfigureProductionS2 | adcConfigureProductionE
  | adcOneShotC | adcOneShotQ | adcOneShotM1 | adcOneShotM2 | adcOneShotG | adcOneShotE | adcOneShotC2
  | adcOneShotD | adcOneShotAcc | adcOneShotI | adcOneShotAvg
  | adcGetAverageAvg
  | adcReferenceVoltageC | adcReferenceVoltageRef
  | adcVrefCalibrateRef | adcVrefCalibrateAvg | adcVrefCalibrateVrefCal
  | adcReadInjectedFlagF | adcReadInjectedFlagFlag | adcReadInjectedDataD | adcReadInjectedDataCode
  | adcRawDrAddressA
  | dmaStartR | dmaStopR | dmaTcF | dmaTcFlag
  | floatToQ31Q | q31ToFloatF
  | cordicInitD1 | cordicInitD2
  | cordicComputeQ | cordicComputeR1 | cordicComputeR2 | cordicComputeS | cordicComputeC
  | cordicRequestQ
  | cordicCollectR1 | cordicCollectR2 | cordicCollectS | cordicCollectC
  | xfRunY0 | xfRunY1 | xfRunY2 | xfRunY3
  deriving DecidableEq, Repr, Inhabited

/-- The fatal fault codes, every one of 60_exceptions.md R1002. -/
inductive FaultCode where
  | busUnmapped | busAlign | busWidth | busRo
  | pwmArrRun | pwmCmsRun | pwmOcmRsv | pwmBadArg | pwmCcrRange
  | adcSeq | adcRun | adcBadChannel | adcBadTrigger | adcOneshotRun | adcVrefZero | adcBadRank
  | dmaReconfig | dmaBadConfig | dmaBadChannel | dmamuxBadId | dmamuxReconfig
  | cordicNoResult | cordicOverrun | cordicBusy | cordicBadFunc | q31Domain
  | xformBadOp
  | intcBadEoi | intcNoEoi | intcNoHandler
  | hwTimeout | hostUndefLocal | hostPcRange
  deriving DecidableEq, Repr, Inhabited

/-- The `info` component of a fault (60_exceptions.md R1002): a number (address, value, operand, channel, unit, line),
a local, or none. -/
inductive FaultInfo where
  | num (v : Int)
  | loc (x : LocalName)
  | none
  deriving DecidableEq, Repr, Inhabited

/-- What `h.fault` records: `(code, info)` (10_state.md R102, 60_exceptions.md R1001). -/
structure FaultRecord where
  code : FaultCode
  info : FaultInfo
  deriving DecidableEq, Repr, Inhabited

/-- Operators of one operand in expressions (40_bus.md R424): `~`, `not`, `f32()` of an integer, `cvt_u()`, `neg()`, and the
two conversions 44_cordic.md R820 and R821 write inside a LET. -/
inductive UnOp where
  | bitNot | boolNot | f32OfInt | cvtU | fNeg | q31OfF32 | f32OfQ31
  deriving DecidableEq, Repr, Inhabited

/-- Operators of two operands in expressions (40_bus.md R424): exact integer arithmetic, shifts, bit operations, comparisons,
`min`, `max`, `and`, `or`, then binary32 arithmetic and comparisons. DESIGN CHOICE, safe: R424 says "comparisons" and "comparison of
binary32 values with IEEE semantics, where a comparison with NaN is false", and lists no comparison signs. The model takes =, !=, <,
<=, > and >= of integers, and =, <, <=, > and >= of binary32 values, each false with NaN. It has no != of binary32 values: IEEE 754
would make it true with NaN, the rule's words false. A program writes the one reading as `not (a = b)`, the other as
`(a < b) or (a > b)` (log entry 35). -/
inductive BinOp where
  | add | sub | mul | div | mod | shl | shr | bitAnd | bitOr | bitXor
  | eq | ne | lt | le | gt | ge | min | max | boolAnd | boolOr
  | fAdd | fSub | fMul | fDiv | fEq | fLt | fLe | fGt | fGe
  deriving DecidableEq, Repr, Inhabited

/-- Expressions of host programs over locals, numerals and parameters (30_encoding.md R332, 40_bus.md R424). A parameter stands
as the numeral of its value. `cond c a b` is `c ? a : b`. -/
inductive Expr where
  | num (v : Int)
  | loc (x : LocalName)
  | un (op : UnOp) (a : Expr)
  | bin (op : BinOp) (a b : Expr)
  | cond (c a b : Expr)
  deriving DecidableEq, Repr, Inhabited

/-- A move of the schedule: which step of which agent comes next (10_state.md R100, R101). -/
inductive Move where
  /-- HOST executes a statement (40_bus.md R403). -/
  | statement
  /-- HOST takes an interrupt entry (60_exceptions.md R1030). -/
  | entry
  /-- PWM tick (41_pwm.md R520). -/
  | tick
  /-- Regulator ready (42_adc.md R630). -/
  | regulator (u : AdcUnit)
  /-- Calibration done (42_adc.md R631). -/
  | calibrated (u : AdcUnit)
  /-- Enable done (42_adc.md R632). -/
  | enabled (u : AdcUnit)
  /-- Regular conversion (42_adc.md R642). -/
  | regular (u : AdcUnit)
  /-- Injected conversion of one unit (42_adc.md R647). -/
  | injected (u : AdcUnit)
  /-- Lock-step injected conversion, agent ADCPAIR (42_adc.md R648). -/
  | pair
  /-- DMA stop acknowledgement of channel c (43_dma.md R712). -/
  | stopAck (c : Fin 16)
  /-- DMA beat (43_dma.md R730). -/
  | beat
  /-- CORDIC completion (44_cordic.md R812). -/
  | cordic
  deriving DecidableEq, Repr, Inhabited

/-- A bus transaction `(kind, n, a, d)`; data is present for a write only (30_encoding.md R300). -/
inductive Transaction where
  | rd (n : Size) (a : Word)
  | wr (n : Size) (a d : Word)
  deriving DecidableEq, Repr, Inhabited

end Sys2Proof
end

