-- ==== Sys2Proof/Config.lean ====
section
/-! DEFINITION. The parameters of 00_scope.md R8 (a record the machine is launched with, its defaults, and the OPEN ones as constants
without a body), the named constants, and the free values: the schedule, the draws, and results the spec does not state. -/
namespace Sys2Proof

/-! ### The parameters (R8)

The model takes them as arguments: a value of `Params` is part of the state, and a run is launched with any (State.launch;
70_reset_and_hazards.md R1134, `PARAMS`). TRIM_VALUE is the launch input `State.trim`; CORDIC_SIN and CORDIC_COS, which are functions,
are the constants without a body below. -/

/-- The parameters of 00_scope.md R8, under their names. -/
structure Params where
  /-- `F_TIM`, timer kernel clock in Hz -/
  fTim : Nat
  /-- `PWM_BASE` -/
  pwmBase : Nat
  /-- `ADC1_BASE` -/
  adc1Base : Nat
  /-- `ADC2_BASE` -/
  adc2Base : Nat
  /-- `DMA_BASE` -/
  dmaBase : Nat
  /-- `DMAMUX_BASE` -/
  dmamuxBase : Nat
  /-- `CORDIC_BASE` -/
  cordicBase : Nat
  /-- `XFORM_BASE` -/
  xformBase : Nat
  /-- `INTC_BASE` -/
  intcBase : Nat
  /-- `WIN`, size of each unit window in bytes -/
  win : Nat
  /-- `RAM_BASE` -/
  ramBase : Nat
  /-- `RAM_SIZE`, bytes of RAM -/
  ramSize : Nat
  /-- `TRIM_ADDR`, address of the factory trim halfword -/
  trimAddr : Nat
  /-- `VREF_CAL_MIN`, inclusive lower bound of the valid trim range (OPEN) -/
  vrefCalMin : BitVec 16
  /-- `VREF_CAL_MAX`, inclusive upper bound of the valid trim range (OPEN) -/
  vrefCalMax : BitVec 16
  /-- `CH_MAX`, highest valid ADC channel number -/
  chMax : Nat
  /-- `CH_VREFINT`, ADC1 channel of the internal reference -/
  chVrefint : Nat
  /-- `SMP_LONG`, sampling-time code for "long" sampling -/
  smpLong : Nat
  /-- `SMP_MAX`, the "maximum sampling time" code -/
  smpMax : Nat
  /-- `SMP_SHORT`, "the shortest supported" code; the code of a channel no operation programs, which rule R663 writes as 0 -/
  smpShort : Nat
  /-- `ADC_BITS`, conversion resolution -/
  adcBits : Nat
  /-- `N_DMA`, DMA channels and router slots -/
  nDma : Nat
  /-- `CORDIC_PRECISION`, precision field value used by init -/
  cordicPrecision : Nat
  /-- `CORDIC_TOL`, bound in LSB between a result and the ideal value (OPEN; 44_cordic.md R813) -/
  cordicTol : Nat
  /-- `POLL_LIMIT` (OPEN): `none` is infinity, `some n` a bound of n failed reads (40_bus.md R422). `some 0`, which is no positive
  integer and which `Params.wf` excludes, would never be reached by the count (log entry 13). -/
  pollLimit : Option Nat
  /-- `SETTLE`, host wait units after regulator ready (OPEN; 40_bus.md R423) -/
  settle : Nat
  /-- `DT_NS`, default dead time in ns -/
  dtNs : Nat
  /-- `REF_FALLBACK`, default reference voltage, binary32 -/
  refFallback : Word
  /-- `REF_CAL_V`, reference calibration voltage, binary32 -/
  refCalV : Word
  deriving DecidableEq, Repr

/-! ### OPEN parameters and launch inputs: constants without a body (R8, D70 to D75; log entry 23) -/

/-- `TRIM_VALUE`, any 16-bit value. -/
opaque Config.trimValue : BitVec 16
/-- `VREF_CAL_MIN`. -/
opaque Config.vrefCalMin : BitVec 16
/-- `VREF_CAL_MAX`. -/
opaque Config.vrefCalMax : BitVec 16
/-- `CORDIC_SIN (x, m, precision)`, a total function (44_cordic.md R813). -/
opaque Config.cordicSin : Word → Word → BitVec 4 → Word
/-- `CORDIC_COS (x, m, precision)`, a total function (44_cordic.md R813). -/
opaque Config.cordicCos : Word → Word → BitVec 4 → Word
/-- `CORDIC_TOL`. -/
opaque Config.cordicTol : Nat
/-- `POLL_LIMIT`, a positive integer or infinity: `none` is infinity and `some n` the limit n + 1. -/
opaque Config.pollLimit : Option Nat
/-- `SETTLE`. -/
opaque Config.settle : Nat

/-- The spec's defaults (R8, D2, D24, D32, D35, D38, D44, D67); the OPEN parameters are constants without a body. -/
def Params.default : Params where
  fTim := 170000000
  pwmBase := 0x40000000
  adc1Base := 0x40000400
  adc2Base := 0x40000800
  dmaBase := 0x40000C00
  dmamuxBase := 0x40001000
  cordicBase := 0x40001400
  xformBase := 0x40001800
  intcBase := 0x40001C00
  win := 0x400
  ramBase := 0x20000000
  ramSize := 0x8000
  trimAddr := 0x1FFF75AA
  vrefCalMin := Config.vrefCalMin
  vrefCalMax := Config.vrefCalMax
  chMax := 18
  chVrefint := 18
  smpLong := 7
  smpMax := 7
  smpShort := 0
  adcBits := 12
  nDma := 16
  cordicPrecision := 6
  cordicTol := Config.cordicTol
  pollLimit := Config.pollLimit.map (· + 1)
  settle := Config.settle
  dtNs := 500
  refFallback := 0x3F9B22D1#32
  refCalV := 0x40400000#32

/-- The bases of the eight unit windows (20_memory.md R201). -/
def Params.bases (p : Params) : List Nat :=
  [p.pwmBase, p.adc1Base, p.adc2Base, p.dmaBase, p.dmamuxBase, p.cordicBase, p.xformBase, p.intcBase]

/-- The regions of the address space, base and size (20_memory.md R201). -/
def Params.regions (p : Params) : List (Nat × Nat) := (p.ramBase, p.ramSize) :: (p.trimAddr, 2) :: p.bases.map (·, p.win)

/-- Two regions share no address. -/
def apart (r q : Nat × Nat) : Bool := r.1 + r.2 ≤ q.1 || q.1 + q.2 ≤ r.1

/-- No two regions of a list share an address. -/
def allApart : List (Nat × Nat) → Bool
  | [] => true
  | r :: rest => rest.all (apart r) && allApart rest

/-- The values a machine may be launched with. Regions lie in the 32-bit address space and share no address (20_memory.md R200,
R201); bases are aligned to words and the trim halfword to halfwords, and a window holds every register of its unit; codes fit their
fields (00_scope.md R9, 30_encoding.md R322, R323, R327) and counts do not exceed what the state holds (log entry 22). -/
def Params.wf (p : Params) : Bool :=
  allApart p.regions && p.regions.all (fun r => r.1 + r.2 ≤ 2 ^ 32) && p.bases.all (· % 4 == 0) && p.ramBase % 4 == 0 &&
  p.trimAddr % 2 == 0 && 0x200 ≤ p.win && p.chMax ≤ 18 && p.chVrefint ≤ p.chMax && p.smpLong ≤ 7 && p.smpMax ≤ 7 &&
  p.smpShort == 0 && p.adcBits ≤ 16 && p.nDma ≤ 16 && 1 ≤ p.cordicPrecision && p.cordicPrecision ≤ 15 && p.pollLimit != some 0

/-! ### binary32 constants (R13) -/

/-- 1.7320508 rounded. -/
def Config.sqrt3 : Word := 0x3FDDB3D7#32
/-- sqrt(3)/2 rounded. -/
def Config.sqrt3Half : Word := 0x3F5DB3D7#32
/-- 0.5 -/
def Config.half : Word := 0x3F000000#32
/-- 1.0 -/
def Config.one : Word := 0x3F800000#32
/-- 4095.0 -/
def Config.f4095 : Word := 0x457FF000#32
/-- 3.3 rounded (F3_3). -/
def Config.f33 : Word := 0x40533333#32

/-! ### Free values: the schedule and the draws (10_state.md R101, R156; 42_adc.md R631, R640; log entries 1 to 3, 12, 18) -/

/-- The move the schedule picks first, in the state `State.reset` (10_state.md R101; log entry 1). -/
opaque Config.firstMove : Move
/-- The move the schedule picks after step number n (10_state.md R101). -/
opaque Config.freeMove : Nat → Move
/-- The analog draw of a conversion by a unit in step number n, reduced to a code of `ADC_BITS` bits by `State.draw` (42_adc.md R640). -/
opaque Config.freeCode : Nat → AdcUnit → Nat
/-- The calibration draw of a unit in step number n (42_adc.md R631). -/
opaque Config.freeCal : Nat → AdcUnit → Nat
/-- The draw of a read, in step number n, of the RAM byte at an address no agent has written (70_reset_and_hazards.md R1100). -/
opaque Config.freeByte : Nat → Nat → Byte
/-- `a div b` where the spec states no quotient: b = 0 or an operand negative. -/
opaque Config.freeDiv : Int → Int → Int
/-- `a mod b` where the spec states no remainder: b = 0 or an operand negative. -/
opaque Config.freeMod : Int → Int → Int
/-- `a << b` with b negative. -/
opaque Config.freeShl : Int → Int → Int
/-- `a >> b` with b negative. -/
opaque Config.freeShr : Int → Int → Int

end Sys2Proof
end

