-- ==== Sys2Proof/Syntax.lean ====
section
/-! DEFINITION. The instructions: one constructor per row of spec/opcode_table.json. A register read carries the byte lane it
takes (20_memory.md R208); a register write carries the whole data word, RSV bits included (30_encoding.md R301); DMA and
router rows carry the channel index c; RAM and TRIM rows the byte offset; the XFORM.CTRL writes the 29 RSV bits above OP; a
driver operation carries its operands, as the expressions the call substitutes (30_encoding.md R330), or the unit u. -/
namespace Sys2Proof

/-- An instruction of the ufoc CORE: a bus transaction that matches a table row, or a driver operation
(30_encoding.md R303, R330, R333). -/
inductive Instr where
  /-- `PWM.CR1.RD`, 41_pwm.md R500. -/
  | pwmCr1Rd (lane : Lane)
  /-- `PWM.CR1.WR`, 41_pwm.md R501. -/
  | pwmCr1Wr (v : Word)
  /-- `PWM.CR2.RD`, 41_pwm.md R500. -/
  | pwmCr2Rd (lane : Lane)
  /-- `PWM.CR2.WR`, 41_pwm.md R502. -/
  | pwmCr2Wr (v : Word)
  /-- `PWM.SR.RD`, 41_pwm.md R500. -/
  | pwmSrRd (lane : Lane)
  /-- `PWM.SR.WR`, 41_pwm.md R503. -/
  | pwmSrWr (v : Word)
  /-- `PWM.EGR.RD`, 41_pwm.md R500. -/
  | pwmEgrRd (lane : Lane)
  /-- `PWM.EGR.WR`, 41_pwm.md R512. -/
  | pwmEgrWr (v : Word)
  /-- `PWM.CCMR.RD`, 41_pwm.md R500. -/
  | pwmCcmrRd (lane : Lane)
  /-- `PWM.CCMR.WR`, 41_pwm.md R504. -/
  | pwmCcmrWr (v : Word)
  /-- `PWM.CCER.RD`, 41_pwm.md R500. -/
  | pwmCcerRd (lane : Lane)
  /-- `PWM.CCER.WR`, 41_pwm.md R505. -/
  | pwmCcerWr (v : Word)
  /-- `PWM.CNT.RD`, 41_pwm.md R500. -/
  | pwmCntRd (lane : Lane)
  /-- `PWM.CNT.WR`, 41_pwm.md R506. -/
  | pwmCntWr (v : Word)
  /-- `PWM.PSC.RD`, 41_pwm.md R500. -/
  | pwmPscRd (lane : Lane)
  /-- `PWM.PSC.WR`, 41_pwm.md R507. -/
  | pwmPscWr (v : Word)
  /-- `PWM.ARR.RD`, 41_pwm.md R500. -/
  | pwmArrRd (lane : Lane)
  /-- `PWM.ARR.WR`, 41_pwm.md R508. -/
  | pwmArrWr (v : Word)
  /-- `PWM.RCR.RD`, 41_pwm.md R500. -/
  | pwmRcrRd (lane : Lane)
  /-- `PWM.RCR.WR`, 41_pwm.md R509. -/
  | pwmRcrWr (v : Word)
  /-- `PWM.CCR1.RD`, 41_pwm.md R500. -/
  | pwmCcr1Rd (lane : Lane)
  /-- `PWM.CCR1.WR`, 41_pwm.md R510. -/
  | pwmCcr1Wr (v : Word)
  /-- `PWM.CCR2.RD`, 41_pwm.md R500. -/
  | pwmCcr2Rd (lane : Lane)
  /-- `PWM.CCR2.WR`, 41_pwm.md R510. -/
  | pwmCcr2Wr (v : Word)
  /-- `PWM.CCR3.RD`, 41_pwm.md R500. -/
  | pwmCcr3Rd (lane : Lane)
  /-- `PWM.CCR3.WR`, 41_pwm.md R510. -/
  | pwmCcr3Wr (v : Word)
  /-- `PWM.CCR4.RD`, 41_pwm.md R500. -/
  | pwmCcr4Rd (lane : Lane)
  /-- `PWM.CCR4.WR`, 41_pwm.md R510. -/
  | pwmCcr4Wr (v : Word)
  /-- `PWM.CCR5.RD`, 41_pwm.md R500. -/
  | pwmCcr5Rd (lane : Lane)
  /-- `PWM.CCR5.WR`, 41_pwm.md R510. -/
  | pwmCcr5Wr (v : Word)
  /-- `PWM.BDTR.RD`, 41_pwm.md R500. -/
  | pwmBdtrRd (lane : Lane)
  /-- `PWM.BDTR.WR`, 41_pwm.md R511. -/
  | pwmBdtrWr (v : Word)
  /-- `ADC1.ISR.RD`, 42_adc.md R600. -/
  | adc1IsrRd (lane : Lane)
  /-- `ADC1.ISR.WR`, 42_adc.md R601. -/
  | adc1IsrWr (v : Word)
  /-- `ADC1.IER.RD`, 42_adc.md R600. -/
  | adc1IerRd (lane : Lane)
  /-- `ADC1.IER.WR`, 42_adc.md R602. -/
  | adc1IerWr (v : Word)
  /-- `ADC1.CR.RD`, 42_adc.md R600. -/
  | adc1CrRd (lane : Lane)
  /-- `ADC1.CR.WR`, 42_adc.md R603. -/
  | adc1CrWr (v : Word)
  /-- `ADC1.CFGR.RD`, 42_adc.md R600. -/
  | adc1CfgrRd (lane : Lane)
  /-- `ADC1.CFGR.WR`, 42_adc.md R604. -/
  | adc1CfgrWr (v : Word)
  /-- `ADC1.SMPR1.RD`, 42_adc.md R600. -/
  | adc1Smpr1Rd (lane : Lane)
  /-- `ADC1.SMPR1.WR`, 42_adc.md R605. -/
  | adc1Smpr1Wr (v : Word)
  /-- `ADC1.SMPR2.RD`, 42_adc.md R600. -/
  | adc1Smpr2Rd (lane : Lane)
  /-- `ADC1.SMPR2.WR`, 42_adc.md R605. -/
  | adc1Smpr2Wr (v : Word)
  /-- `ADC1.SQR1.RD`, 42_adc.md R600. -/
  | adc1Sqr1Rd (lane : Lane)
  /-- `ADC1.SQR1.WR`, 42_adc.md R606. -/
  | adc1Sqr1Wr (v : Word)
  /-- `ADC1.DR.RD`, 42_adc.md R621. -/
  | adc1DrRd (lane : Lane)
  /-- `ADC1.DR.WR`, 42_adc.md R601. -/
  | adc1DrWr (v : Word)
  /-- `ADC1.JSQR.RD`, 42_adc.md R600. -/
  | adc1JsqrRd (lane : Lane)
  /-- `ADC1.JSQR.WR`, 42_adc.md R607. -/
  | adc1JsqrWr (v : Word)
  /-- `ADC1.JDR1.RD`, 42_adc.md R600. -/
  | adc1Jdr1Rd (lane : Lane)
  /-- `ADC1.JDR1.WR`, 42_adc.md R601. -/
  | adc1Jdr1Wr (v : Word)
  /-- `ADC1.JDR2.RD`, 42_adc.md R600. -/
  | adc1Jdr2Rd (lane : Lane)
  /-- `ADC1.JDR2.WR`, 42_adc.md R601. -/
  | adc1Jdr2Wr (v : Word)
  /-- `ADC1.JDR3.RD`, 42_adc.md R600. -/
  | adc1Jdr3Rd (lane : Lane)
  /-- `ADC1.JDR3.WR`, 42_adc.md R601. -/
  | adc1Jdr3Wr (v : Word)
  /-- `ADC1.JDR4.RD`, 42_adc.md R600. -/
  | adc1Jdr4Rd (lane : Lane)
  /-- `ADC1.JDR4.WR`, 42_adc.md R601. -/
  | adc1Jdr4Wr (v : Word)
  /-- `ADC2.ISR.RD`, 42_adc.md R600. -/
  | adc2IsrRd (lane : Lane)
  /-- `ADC2.ISR.WR`, 42_adc.md R601. -/
  | adc2IsrWr (v : Word)
  /-- `ADC2.IER.RD`, 42_adc.md R600. -/
  | adc2IerRd (lane : Lane)
  /-- `ADC2.IER.WR`, 42_adc.md R602. -/
  | adc2IerWr (v : Word)
  /-- `ADC2.CR.RD`, 42_adc.md R600. -/
  | adc2CrRd (lane : Lane)
  /-- `ADC2.CR.WR`, 42_adc.md R603. -/
  | adc2CrWr (v : Word)
  /-- `ADC2.CFGR.RD`, 42_adc.md R600. -/
  | adc2CfgrRd (lane : Lane)
  /-- `ADC2.CFGR.WR`, 42_adc.md R604. -/
  | adc2CfgrWr (v : Word)
  /-- `ADC2.SMPR1.RD`, 42_adc.md R600. -/
  | adc2Smpr1Rd (lane : Lane)
  /-- `ADC2.SMPR1.WR`, 42_adc.md R605. -/
  | adc2Smpr1Wr (v : Word)
  /-- `ADC2.SMPR2.RD`, 42_adc.md R600. -/
  | adc2Smpr2Rd (lane : Lane)
  /-- `ADC2.SMPR2.WR`, 42_adc.md R605. -/
  | adc2Smpr2Wr (v : Word)
  /-- `ADC2.SQR1.RD`, 42_adc.md R600. -/
  | adc2Sqr1Rd (lane : Lane)
  /-- `ADC2.SQR1.WR`, 42_adc.md R606. -/
  | adc2Sqr1Wr (v : Word)
  /-- `ADC2.DR.RD`, 42_adc.md R621. -/
  | adc2DrRd (lane : Lane)
  /-- `ADC2.DR.WR`, 42_adc.md R601. -/
  | adc2DrWr (v : Word)
  /-- `ADC2.JSQR.RD`, 42_adc.md R600. -/
  | adc2JsqrRd (lane : Lane)
  /-- `ADC2.JSQR.WR`, 42_adc.md R607. -/
  | adc2JsqrWr (v : Word)
  /-- `ADC2.JDR1.RD`, 42_adc.md R600. -/
  | adc2Jdr1Rd (lane : Lane)
  /-- `ADC2.JDR1.WR`, 42_adc.md R601. -/
  | adc2Jdr1Wr (v : Word)
  /-- `ADC2.JDR2.RD`, 42_adc.md R600. -/
  | adc2Jdr2Rd (lane : Lane)
  /-- `ADC2.JDR2.WR`, 42_adc.md R601. -/
  | adc2Jdr2Wr (v : Word)
  /-- `ADC2.JDR3.RD`, 42_adc.md R600. -/
  | adc2Jdr3Rd (lane : Lane)
  /-- `ADC2.JDR3.WR`, 42_adc.md R601. -/
  | adc2Jdr3Wr (v : Word)
  /-- `ADC2.JDR4.RD`, 42_adc.md R600. -/
  | adc2Jdr4Rd (lane : Lane)
  /-- `ADC2.JDR4.WR`, 42_adc.md R601. -/
  | adc2Jdr4Wr (v : Word)
  /-- `DMA.CCR[c].RD`, 43_dma.md R700. -/
  | dmaCcrRd (c : Fin 16) (lane : Lane)
  /-- `DMA.CCR[c].WR`, 43_dma.md R710. -/
  | dmaCcrWr (c : Fin 16) (v : Word)
  /-- `DMA.CNDTR[c].RD`, 43_dma.md R700. -/
  | dmaCndtrRd (c : Fin 16) (lane : Lane)
  /-- `DMA.CNDTR[c].WR`, 43_dma.md R711. -/
  | dmaCndtrWr (c : Fin 16) (v : Word)
  /-- `DMA.CPAR[c].RD`, 43_dma.md R700. -/
  | dmaCparRd (c : Fin 16) (lane : Lane)
  /-- `DMA.CPAR[c].WR`, 43_dma.md R711. -/
  | dmaCparWr (c : Fin 16) (v : Word)
  /-- `DMA.CMAR[c].RD`, 43_dma.md R700. -/
  | dmaCmarRd (c : Fin 16) (lane : Lane)
  /-- `DMA.CMAR[c].WR`, 43_dma.md R711. -/
  | dmaCmarWr (c : Fin 16) (v : Word)
  /-- `DMA.CISR[c].RD`, 43_dma.md R700. -/
  | dmaCisrRd (c : Fin 16) (lane : Lane)
  /-- `DMA.CISR[c].WR`, 43_dma.md R700. -/
  | dmaCisrWr (c : Fin 16) (v : Word)
  /-- `DMA.CIFCR[c].RD`, 43_dma.md R700. -/
  | dmaCifcrRd (c : Fin 16) (lane : Lane)
  /-- `DMA.CIFCR[c].WR`, 43_dma.md R714. -/
  | dmaCifcrWr (c : Fin 16) (v : Word)
  /-- `DMAMUX.CxCR[c].RD`, 43_dma.md R740. -/
  | dmamuxCxcrRd (c : Fin 16) (lane : Lane)
  /-- `DMAMUX.CxCR[c].WR`, 43_dma.md R741. -/
  | dmamuxCxcrWr (c : Fin 16) (v : Word)
  /-- `CORDIC.CSR.RD`, 44_cordic.md R800. -/
  | cordicCsrRd (lane : Lane)
  /-- `CORDIC.CSR.WR`, 44_cordic.md R801. -/
  | cordicCsrWr (v : Word)
  /-- `CORDIC.WDATA.RD`, 44_cordic.md R800. -/
  | cordicWdataRd (lane : Lane)
  /-- `CORDIC.WDATA.WR`, 44_cordic.md R810. -/
  | cordicWdataWr (v : Word)
  /-- `CORDIC.RDATA.RD`, 44_cordic.md R814. -/
  | cordicRdataRd (lane : Lane)
  /-- `CORDIC.RDATA.WR`, 44_cordic.md R800. -/
  | cordicRdataWr (v : Word)
  /-- `XFORM.CTRL.RD`, 45_xform.md R850. -/
  | xformCtrlRd (lane : Lane)
  /-- `XFORM.CTRL.WR.NOP`, 45_xform.md R860. -/
  | xformCtrlWrNop (hi : BitVec 29)
  /-- `XFORM.CTRL.WR.CLARKE`, 45_xform.md R861. -/
  | xformCtrlWrClarke (hi : BitVec 29)
  /-- `XFORM.CTRL.WR.PARK`, 45_xform.md R862. -/
  | xformCtrlWrPark (hi : BitVec 29)
  /-- `XFORM.CTRL.WR.IPARK`, 45_xform.md R863. -/
  | xformCtrlWrIpark (hi : BitVec 29)
  /-- `XFORM.CTRL.WR.SVPWM`, 45_xform.md R864. -/
  | xformCtrlWrSvpwm (hi : BitVec 29)
  /-- `XFORM.CTRL.WR.CLARKE_PARK`, 45_xform.md R865. -/
  | xformCtrlWrClarkePark (hi : BitVec 29)
  /-- `XFORM.IN0.RD`, 45_xform.md R850. -/
  | xformIn0Rd (lane : Lane)
  /-- `XFORM.IN0.WR`, 45_xform.md R852. -/
  | xformIn0Wr (v : Word)
  /-- `XFORM.IN1.RD`, 45_xform.md R850. -/
  | xformIn1Rd (lane : Lane)
  /-- `XFORM.IN1.WR`, 45_xform.md R852. -/
  | xformIn1Wr (v : Word)
  /-- `XFORM.IN2.RD`, 45_xform.md R850. -/
  | xformIn2Rd (lane : Lane)
  /-- `XFORM.IN2.WR`, 45_xform.md R852. -/
  | xformIn2Wr (v : Word)
  /-- `XFORM.IN3.RD`, 45_xform.md R850. -/
  | xformIn3Rd (lane : Lane)
  /-- `XFORM.IN3.WR`, 45_xform.md R852. -/
  | xformIn3Wr (v : Word)
  /-- `XFORM.OUT0.RD`, 45_xform.md R850. -/
  | xformOut0Rd (lane : Lane)
  /-- `XFORM.OUT0.WR`, 45_xform.md R850. -/
  | xformOut0Wr (v : Word)
  /-- `XFORM.OUT1.RD`, 45_xform.md R850. -/
  | xformOut1Rd (lane : Lane)
  /-- `XFORM.OUT1.WR`, 45_xform.md R850. -/
  | xformOut1Wr (v : Word)
  /-- `XFORM.OUT2.RD`, 45_xform.md R850. -/
  | xformOut2Rd (lane : Lane)
  /-- `XFORM.OUT2.WR`, 45_xform.md R850. -/
  | xformOut2Wr (v : Word)
  /-- `XFORM.OUT3.RD`, 45_xform.md R850. -/
  | xformOut3Rd (lane : Lane)
  /-- `XFORM.OUT3.WR`, 45_xform.md R850. -/
  | xformOut3Wr (v : Word)
  /-- `INTC.CTRL.RD`, 60_exceptions.md R1010. -/
  | intcCtrlRd (lane : Lane)
  /-- `INTC.CTRL.WR`, 60_exceptions.md R1011. -/
  | intcCtrlWr (v : Word)
  /-- `INTC.IER.RD`, 60_exceptions.md R1010. -/
  | intcIerRd (lane : Lane)
  /-- `INTC.IER.WR`, 60_exceptions.md R1012. -/
  | intcIerWr (v : Word)
  /-- `INTC.IPR.RD`, 60_exceptions.md R1010. -/
  | intcIprRd (lane : Lane)
  /-- `INTC.IPR.WR`, 60_exceptions.md R1010. -/
  | intcIprWr (v : Word)
  /-- `INTC.IABR.RD`, 60_exceptions.md R1010. -/
  | intcIabrRd (lane : Lane)
  /-- `INTC.IABR.WR`, 60_exceptions.md R1010. -/
  | intcIabrWr (v : Word)
  /-- `INTC.CURPRI.RD`, 60_exceptions.md R1010. -/
  | intcCurpriRd (lane : Lane)
  /-- `INTC.CURPRI.WR`, 60_exceptions.md R1010. -/
  | intcCurpriWr (v : Word)
  /-- `INTC.EOI.RD`, 60_exceptions.md R1010. -/
  | intcEoiRd (lane : Lane)
  /-- `INTC.EOI.WR`, 60_exceptions.md R1032. -/
  | intcEoiWr (v : Word)
  /-- `INTC.ACTIVE.RD`, 60_exceptions.md R1010. -/
  | intcActiveRd (lane : Lane)
  /-- `INTC.ACTIVE.WR`, 60_exceptions.md R1010. -/
  | intcActiveWr (v : Word)
  /-- `RAM.RD8`, 20_memory.md R205. -/
  | ramRd8 (off : BitVec 32)
  /-- `RAM.RD16`, 20_memory.md R205. -/
  | ramRd16 (off : BitVec 32)
  /-- `RAM.RD32`, 20_memory.md R205. -/
  | ramRd32 (off : BitVec 32)
  /-- `RAM.WR8`, 20_memory.md R206. -/
  | ramWr8 (off : BitVec 32) (d : Word)
  /-- `RAM.WR16`, 20_memory.md R206. -/
  | ramWr16 (off : BitVec 32) (d : Word)
  /-- `RAM.WR32`, 20_memory.md R206. -/
  | ramWr32 (off : BitVec 32) (d : Word)
  /-- `TRIM.RD8`, 20_memory.md R205. -/
  | trimRd8 (off : BitVec 1)
  /-- `TRIM.RD16`, 20_memory.md R205. -/
  | trimRd16
  /-- `PWM_CONFIGURE`, 41_pwm.md R550. -/
  | pwmConfigure (p : Expr)
  /-- `PWM_DEADTIME_TICKS`, 41_pwm.md R552. -/
  | pwmDeadtimeTicks
  /-- `PWM_ENABLE_OUTPUTS`, 41_pwm.md R553. -/
  | pwmEnableOutputs
  /-- `PWM_SET_DUTY`, 41_pwm.md R554. -/
  | pwmSetDuty (a : Expr) (b : Expr) (c : Expr)
  /-- `ADC_POWERUP_CALIBRATE`, 42_adc.md R660. -/
  | adcPowerupCalibrate (u : AdcUnit)
  /-- `ADC_ENABLE`, 42_adc.md R661. -/
  | adcEnable (u : AdcUnit)
  /-- `ADC_START`, 42_adc.md R662. -/
  | adcStart (u : AdcUnit)
  /-- `ADC_CONFIGURE_PRODUCTION`, 42_adc.md R663. -/
  | adcConfigureProduction (u : AdcUnit) (rch : Expr) (j1 : Expr) (j2 : Expr)
  /-- `ADC_ONE_SHOT`, 42_adc.md R664. -/
  | adcOneShot (u : AdcUnit) (ch : Expr) (n : Expr) (smp : Expr)
  /-- `ADC_GET_AVERAGE`, 42_adc.md R665. -/
  | adcGetAverage (u : AdcUnit) (ch : Expr)
  /-- `ADC_REFERENCE_VOLTAGE`, 42_adc.md R666. -/
  | adcReferenceVoltage
  /-- `ADC_VREF_CALIBRATE`, 42_adc.md R667. -/
  | adcVrefCalibrate
  /-- `ADC_CLEAR_INJECTED_FLAG`, 42_adc.md R668. -/
  | adcClearInjectedFlag (u : AdcUnit)
  /-- `ADC_READ_INJECTED_FLAG`, 42_adc.md R669. -/
  | adcReadInjectedFlag (u : AdcUnit)
  /-- `ADC_READ_INJECTED_DATA`, 42_adc.md R670. -/
  | adcReadInjectedData (u : AdcUnit) (k : Expr)
  /-- `ADC_RAW_DR_ADDRESS`, 42_adc.md R671. -/
  | adcRawDrAddress (u : AdcUnit)
  /-- `DMAMUX_MAP`, 43_dma.md R750. -/
  | dmamuxMap (c : Expr) (rid : Expr)
  /-- `DMA_BIND`, 43_dma.md R751. -/
  | dmaBind (c : Expr) (pa : Expr)
  /-- `DMA_START`, 43_dma.md R752. -/
  | dmaStart (c : Expr) (buf : Expr) (len : Expr)
  /-- `DMA_STOP`, 43_dma.md R753. -/
  | dmaStop (c : Expr)
  /-- `DMA_TC`, 43_dma.md R754. -/
  | dmaTc (c : Expr)
  /-- `DMA_CLEAR_TC`, 43_dma.md R755. -/
  | dmaClearTc (c : Expr)
  /-- `DMA_CLEAR_ALL`, 43_dma.md R756. -/
  | dmaClearAll (c : Expr)
  /-- `FLOAT_TO_Q31`, 44_cordic.md R820. -/
  | floatToQ31 (v : Expr)
  /-- `Q31_TO_FLOAT`, 44_cordic.md R821. -/
  | q31ToFloat (q : Expr)
  /-- `CORDIC_INIT`, 44_cordic.md R830. -/
  | cordicInit
  /-- `CORDIC_COMPUTE`, 44_cordic.md R831. -/
  | cordicCompute (t : Expr)
  /-- `CORDIC_REQUEST`, 44_cordic.md R832. -/
  | cordicRequest (t : Expr)
  /-- `CORDIC_COLLECT`, 44_cordic.md R833. -/
  | cordicCollect
  /-- `XF_RUN`, 45_xform.md R870. -/
  | xfRun (op : Expr) (x0 : Expr) (x1 : Expr) (x2 : Expr) (x3 : Expr)
  deriving DecidableEq, Repr

end Sys2Proof
end

