-- ==== Sys2Proof/WellFormed.lean ====
section
/-! DEFINITION. Which instructions are well formed: an aligned RAM offset (20_memory.md R207), and numeral operands of
ADC_ONE_SHOT in the range its rule gives (42_adc.md R664). Which instructions are driver operations (30_encoding.md R330). -/
namespace Sys2Proof

/-- If the expression is a numeral, it meets the condition; an expression that is not a numeral is decided when it runs. -/
def Expr.numeralMeets (e : Expr) (ok : Int → Bool) : Bool :=
  match e with
  | .num v => ok v
  | .loc _ => true
  | .un _ _ => true
  | .bin _ _ _ => true
  | .cond _ _ _ => true

/-- Well-formedness of an instruction's operands. -/
def Instr.wf : Instr → Bool
  | .pwmCr1Rd _ => true
  | .pwmCr1Wr _ => true
  | .pwmCr2Rd _ => true
  | .pwmCr2Wr _ => true
  | .pwmSrRd _ => true
  | .pwmSrWr _ => true
  | .pwmEgrRd _ => true
  | .pwmEgrWr _ => true
  | .pwmCcmrRd _ => true
  | .pwmCcmrWr _ => true
  | .pwmCcerRd _ => true
  | .pwmCcerWr _ => true
  | .pwmCntRd _ => true
  | .pwmCntWr _ => true
  | .pwmPscRd _ => true
  | .pwmPscWr _ => true
  | .pwmArrRd _ => true
  | .pwmArrWr _ => true
  | .pwmRcrRd _ => true
  | .pwmRcrWr _ => true
  | .pwmCcr1Rd _ => true
  | .pwmCcr1Wr _ => true
  | .pwmCcr2Rd _ => true
  | .pwmCcr2Wr _ => true
  | .pwmCcr3Rd _ => true
  | .pwmCcr3Wr _ => true
  | .pwmCcr4Rd _ => true
  | .pwmCcr4Wr _ => true
  | .pwmCcr5Rd _ => true
  | .pwmCcr5Wr _ => true
  | .pwmBdtrRd _ => true
  | .pwmBdtrWr _ => true
  | .adc1IsrRd _ => true
  | .adc1IsrWr _ => true
  | .adc1IerRd _ => true
  | .adc1IerWr _ => true
  | .adc1CrRd _ => true
  | .adc1CrWr _ => true
  | .adc1CfgrRd _ => true
  | .adc1CfgrWr _ => true
  | .adc1Smpr1Rd _ => true
  | .adc1Smpr1Wr _ => true
  | .adc1Smpr2Rd _ => true
  | .adc1Smpr2Wr _ => true
  | .adc1Sqr1Rd _ => true
  | .adc1Sqr1Wr _ => true
  | .adc1DrRd _ => true
  | .adc1DrWr _ => true
  | .adc1JsqrRd _ => true
  | .adc1JsqrWr _ => true
  | .adc1Jdr1Rd _ => true
  | .adc1Jdr1Wr _ => true
  | .adc1Jdr2Rd _ => true
  | .adc1Jdr2Wr _ => true
  | .adc1Jdr3Rd _ => true
  | .adc1Jdr3Wr _ => true
  | .adc1Jdr4Rd _ => true
  | .adc1Jdr4Wr _ => true
  | .adc2IsrRd _ => true
  | .adc2IsrWr _ => true
  | .adc2IerRd _ => true
  | .adc2IerWr _ => true
  | .adc2CrRd _ => true
  | .adc2CrWr _ => true
  | .adc2CfgrRd _ => true
  | .adc2CfgrWr _ => true
  | .adc2Smpr1Rd _ => true
  | .adc2Smpr1Wr _ => true
  | .adc2Smpr2Rd _ => true
  | .adc2Smpr2Wr _ => true
  | .adc2Sqr1Rd _ => true
  | .adc2Sqr1Wr _ => true
  | .adc2DrRd _ => true
  | .adc2DrWr _ => true
  | .adc2JsqrRd _ => true
  | .adc2JsqrWr _ => true
  | .adc2Jdr1Rd _ => true
  | .adc2Jdr1Wr _ => true
  | .adc2Jdr2Rd _ => true
  | .adc2Jdr2Wr _ => true
  | .adc2Jdr3Rd _ => true
  | .adc2Jdr3Wr _ => true
  | .adc2Jdr4Rd _ => true
  | .adc2Jdr4Wr _ => true
  | .dmaCcrRd _ _ => true
  | .dmaCcrWr _ _ => true
  | .dmaCndtrRd _ _ => true
  | .dmaCndtrWr _ _ => true
  | .dmaCparRd _ _ => true
  | .dmaCparWr _ _ => true
  | .dmaCmarRd _ _ => true
  | .dmaCmarWr _ _ => true
  | .dmaCisrRd _ _ => true
  | .dmaCisrWr _ _ => true
  | .dmaCifcrRd _ _ => true
  | .dmaCifcrWr _ _ => true
  | .dmamuxCxcrRd _ _ => true
  | .dmamuxCxcrWr _ _ => true
  | .cordicCsrRd _ => true
  | .cordicCsrWr _ => true
  | .cordicWdataRd _ => true
  | .cordicWdataWr _ => true
  | .cordicRdataRd _ => true
  | .cordicRdataWr _ => true
  | .xformCtrlRd _ => true
  | .xformCtrlWrNop _ => true
  | .xformCtrlWrClarke _ => true
  | .xformCtrlWrPark _ => true
  | .xformCtrlWrIpark _ => true
  | .xformCtrlWrSvpwm _ => true
  | .xformCtrlWrClarkePark _ => true
  | .xformIn0Rd _ => true
  | .xformIn0Wr _ => true
  | .xformIn1Rd _ => true
  | .xformIn1Wr _ => true
  | .xformIn2Rd _ => true
  | .xformIn2Wr _ => true
  | .xformIn3Rd _ => true
  | .xformIn3Wr _ => true
  | .xformOut0Rd _ => true
  | .xformOut0Wr _ => true
  | .xformOut1Rd _ => true
  | .xformOut1Wr _ => true
  | .xformOut2Rd _ => true
  | .xformOut2Wr _ => true
  | .xformOut3Rd _ => true
  | .xformOut3Wr _ => true
  | .intcCtrlRd _ => true
  | .intcCtrlWr _ => true
  | .intcIerRd _ => true
  | .intcIerWr _ => true
  | .intcIprRd _ => true
  | .intcIprWr _ => true
  | .intcIabrRd _ => true
  | .intcIabrWr _ => true
  | .intcCurpriRd _ => true
  | .intcCurpriWr _ => true
  | .intcEoiRd _ => true
  | .intcEoiWr _ => true
  | .intcActiveRd _ => true
  | .intcActiveWr _ => true
  | .ramRd8 _ => true
  | .ramRd16 off => off.toNat % 2 == 0
  | .ramRd32 off => off.toNat % 4 == 0
  | .ramWr8 _ _ => true
  | .ramWr16 off _ => off.toNat % 2 == 0
  | .ramWr32 off _ => off.toNat % 4 == 0
  | .trimRd8 _ => true
  | .trimRd16 => true
  | .pwmConfigure _ => true
  | .pwmDeadtimeTicks => true
  | .pwmEnableOutputs => true
  | .pwmSetDuty _ _ _ => true
  | .adcPowerupCalibrate _ => true
  | .adcEnable _ => true
  | .adcStart _ => true
  | .adcConfigureProduction _ _ _ _ => true
  | .adcOneShot _ _ n smp => n.numeralMeets (1 ≤ ·) && smp.numeralMeets fun v => 0 ≤ v && v ≤ 7
  | .adcGetAverage _ _ => true
  | .adcReferenceVoltage => true
  | .adcVrefCalibrate => true
  | .adcClearInjectedFlag _ => true
  | .adcReadInjectedFlag _ => true
  | .adcReadInjectedData _ _ => true
  | .adcRawDrAddress _ => true
  | .dmamuxMap _ _ => true
  | .dmaBind _ _ => true
  | .dmaStart _ _ _ => true
  | .dmaStop _ => true
  | .dmaTc _ => true
  | .dmaClearTc _ => true
  | .dmaClearAll _ => true
  | .floatToQ31 _ => true
  | .q31ToFloat _ => true
  | .cordicInit => true
  | .cordicCompute _ => true
  | .cordicRequest _ => true
  | .cordicCollect => true
  | .xfRun _ _ _ _ _ => true

/-- The rows of format MACRO: the driver operations of the source (30_encoding.md R330). -/
def Instr.isOperation : Instr → Bool
  | .pwmCr1Rd _ => false
  | .pwmCr1Wr _ => false
  | .pwmCr2Rd _ => false
  | .pwmCr2Wr _ => false
  | .pwmSrRd _ => false
  | .pwmSrWr _ => false
  | .pwmEgrRd _ => false
  | .pwmEgrWr _ => false
  | .pwmCcmrRd _ => false
  | .pwmCcmrWr _ => false
  | .pwmCcerRd _ => false
  | .pwmCcerWr _ => false
  | .pwmCntRd _ => false
  | .pwmCntWr _ => false
  | .pwmPscRd _ => false
  | .pwmPscWr _ => false
  | .pwmArrRd _ => false
  | .pwmArrWr _ => false
  | .pwmRcrRd _ => false
  | .pwmRcrWr _ => false
  | .pwmCcr1Rd _ => false
  | .pwmCcr1Wr _ => false
  | .pwmCcr2Rd _ => false
  | .pwmCcr2Wr _ => false
  | .pwmCcr3Rd _ => false
  | .pwmCcr3Wr _ => false
  | .pwmCcr4Rd _ => false
  | .pwmCcr4Wr _ => false
  | .pwmCcr5Rd _ => false
  | .pwmCcr5Wr _ => false
  | .pwmBdtrRd _ => false
  | .pwmBdtrWr _ => false
  | .adc1IsrRd _ => false
  | .adc1IsrWr _ => false
  | .adc1IerRd _ => false
  | .adc1IerWr _ => false
  | .adc1CrRd _ => false
  | .adc1CrWr _ => false
  | .adc1CfgrRd _ => false
  | .adc1CfgrWr _ => false
  | .adc1Smpr1Rd _ => false
  | .adc1Smpr1Wr _ => false
  | .adc1Smpr2Rd _ => false
  | .adc1Smpr2Wr _ => false
  | .adc1Sqr1Rd _ => false
  | .adc1Sqr1Wr _ => false
  | .adc1DrRd _ => false
  | .adc1DrWr _ => false
  | .adc1JsqrRd _ => false
  | .adc1JsqrWr _ => false
  | .adc1Jdr1Rd _ => false
  | .adc1Jdr1Wr _ => false
  | .adc1Jdr2Rd _ => false
  | .adc1Jdr2Wr _ => false
  | .adc1Jdr3Rd _ => false
  | .adc1Jdr3Wr _ => false
  | .adc1Jdr4Rd _ => false
  | .adc1Jdr4Wr _ => false
  | .adc2IsrRd _ => false
  | .adc2IsrWr _ => false
  | .adc2IerRd _ => false
  | .adc2IerWr _ => false
  | .adc2CrRd _ => false
  | .adc2CrWr _ => false
  | .adc2CfgrRd _ => false
  | .adc2CfgrWr _ => false
  | .adc2Smpr1Rd _ => false
  | .adc2Smpr1Wr _ => false
  | .adc2Smpr2Rd _ => false
  | .adc2Smpr2Wr _ => false
  | .adc2Sqr1Rd _ => false
  | .adc2Sqr1Wr _ => false
  | .adc2DrRd _ => false
  | .adc2DrWr _ => false
  | .adc2JsqrRd _ => false
  | .adc2JsqrWr _ => false
  | .adc2Jdr1Rd _ => false
  | .adc2Jdr1Wr _ => false
  | .adc2Jdr2Rd _ => false
  | .adc2Jdr2Wr _ => false
  | .adc2Jdr3Rd _ => false
  | .adc2Jdr3Wr _ => false
  | .adc2Jdr4Rd _ => false
  | .adc2Jdr4Wr _ => false
  | .dmaCcrRd _ _ => false
  | .dmaCcrWr _ _ => false
  | .dmaCndtrRd _ _ => false
  | .dmaCndtrWr _ _ => false
  | .dmaCparRd _ _ => false
  | .dmaCparWr _ _ => false
  | .dmaCmarRd _ _ => false
  | .dmaCmarWr _ _ => false
  | .dmaCisrRd _ _ => false
  | .dmaCisrWr _ _ => false
  | .dmaCifcrRd _ _ => false
  | .dmaCifcrWr _ _ => false
  | .dmamuxCxcrRd _ _ => false
  | .dmamuxCxcrWr _ _ => false
  | .cordicCsrRd _ => false
  | .cordicCsrWr _ => false
  | .cordicWdataRd _ => false
  | .cordicWdataWr _ => false
  | .cordicRdataRd _ => false
  | .cordicRdataWr _ => false
  | .xformCtrlRd _ => false
  | .xformCtrlWrNop _ => false
  | .xformCtrlWrClarke _ => false
  | .xformCtrlWrPark _ => false
  | .xformCtrlWrIpark _ => false
  | .xformCtrlWrSvpwm _ => false
  | .xformCtrlWrClarkePark _ => false
  | .xformIn0Rd _ => false
  | .xformIn0Wr _ => false
  | .xformIn1Rd _ => false
  | .xformIn1Wr _ => false
  | .xformIn2Rd _ => false
  | .xformIn2Wr _ => false
  | .xformIn3Rd _ => false
  | .xformIn3Wr _ => false
  | .xformOut0Rd _ => false
  | .xformOut0Wr _ => false
  | .xformOut1Rd _ => false
  | .xformOut1Wr _ => false
  | .xformOut2Rd _ => false
  | .xformOut2Wr _ => false
  | .xformOut3Rd _ => false
  | .xformOut3Wr _ => false
  | .intcCtrlRd _ => false
  | .intcCtrlWr _ => false
  | .intcIerRd _ => false
  | .intcIerWr _ => false
  | .intcIprRd _ => false
  | .intcIprWr _ => false
  | .intcIabrRd _ => false
  | .intcIabrWr _ => false
  | .intcCurpriRd _ => false
  | .intcCurpriWr _ => false
  | .intcEoiRd _ => false
  | .intcEoiWr _ => false
  | .intcActiveRd _ => false
  | .intcActiveWr _ => false
  | .ramRd8 _ => false
  | .ramRd16 _ => false
  | .ramRd32 _ => false
  | .ramWr8 _ _ => false
  | .ramWr16 _ _ => false
  | .ramWr32 _ _ => false
  | .trimRd8 _ => false
  | .trimRd16 => false
  | .pwmConfigure _ => true
  | .pwmDeadtimeTicks => true
  | .pwmEnableOutputs => true
  | .pwmSetDuty _ _ _ => true
  | .adcPowerupCalibrate _ => true
  | .adcEnable _ => true
  | .adcStart _ => true
  | .adcConfigureProduction _ _ _ _ => true
  | .adcOneShot _ _ _ _ => true
  | .adcGetAverage _ _ => true
  | .adcReferenceVoltage => true
  | .adcVrefCalibrate => true
  | .adcClearInjectedFlag _ => true
  | .adcReadInjectedFlag _ => true
  | .adcReadInjectedData _ _ => true
  | .adcRawDrAddress _ => true
  | .dmamuxMap _ _ => true
  | .dmaBind _ _ => true
  | .dmaStart _ _ _ => true
  | .dmaStop _ => true
  | .dmaTc _ => true
  | .dmaClearTc _ => true
  | .dmaClearAll _ => true
  | .floatToQ31 _ => true
  | .q31ToFloat _ => true
  | .cordicInit => true
  | .cordicCompute _ => true
  | .cordicRequest _ => true
  | .cordicCollect => true
  | .xfRun _ _ _ _ _ => true

end Sys2Proof
end

