-- ==== Sys2Proof/Decode.lean ====
section
/-! DEFINITION. Decoding a bus transaction (30_encoding.md R302): the region and register an address names, the checks in the
order of 40_bus.md R410 and R411, the instruction, or a rejection by name; then the encoder, written from the same tables of
the spec, and the table word of R301. -/
namespace Sys2Proof

/-! ### Sizes, lanes and addresses -/

/-- The number of bytes of a size (20_memory.md R206). -/
def Size.bytes : Size → Nat
  | .b1 => 1
  | .b2 => 2
  | .b4 => 4

/-- The size of the read that takes a lane. -/
def Lane.size : Lane → Size
  | .word => .b4
  | .half0 => .b2
  | .half1 => .b2
  | .byte0 => .b1
  | .byte1 => .b1
  | .byte2 => .b1
  | .byte3 => .b1

/-- The byte of the register at which a lane starts, `(a - base) & 3` (20_memory.md R208). -/
def Lane.offset : Lane → Nat
  | .word => 0
  | .half0 => 0
  | .half1 => 2
  | .byte0 => 0
  | .byte1 => 1
  | .byte2 => 2
  | .byte3 => 3

/-- The aligned lane of a size at a byte of a register; none when it is not naturally aligned (20_memory.md R207). -/
def Lane.at? : Size → Nat → Option Lane
  | .b4, 0 => some .word
  | .b2, 0 => some .half0
  | .b2, 2 => some .half1
  | .b1, 0 => some .byte0
  | .b1, 1 => some .byte1
  | .b1, 2 => some .byte2
  | .b1, 3 => some .byte3
  | _, _ => none

/-- A natural number as a bus address. -/
def Word.ofAddr (a : Nat) : Word := BitVec.ofNat 32 a

/-! ### The register map (10_state.md) -/

/-- Offset of a PWM register (10_state.md R110). -/
def PwmReg.offset : PwmReg → Nat
  | .cr1 => 0x00
  | .cr2 => 0x04
  | .sr => 0x08
  | .egr => 0x0C
  | .ccmr => 0x10
  | .ccer => 0x14
  | .cnt => 0x18
  | .psc => 0x1C
  | .arr => 0x20
  | .rcr => 0x24
  | .ccr1 => 0x28
  | .ccr2 => 0x2C
  | .ccr3 => 0x30
  | .ccr4 => 0x34
  | .ccr5 => 0x38
  | .bdtr => 0x3C

/-- Offset of an ADC register (10_state.md R120). -/
def AdcReg.offset : AdcReg → Nat
  | .isr => 0x00
  | .ier => 0x04
  | .cr => 0x08
  | .cfgr => 0x0C
  | .smpr1 => 0x14
  | .smpr2 => 0x18
  | .sqr1 => 0x30
  | .dr => 0x40
  | .jsqr => 0x4C
  | .jdr1 => 0x80
  | .jdr2 => 0x84
  | .jdr3 => 0x88
  | .jdr4 => 0x8C

/-- Offset of a DMA register inside its channel (10_state.md R130). -/
def DmaReg.offset : DmaReg → Nat
  | .ccr => 0x00
  | .cndtr => 0x04
  | .cpar => 0x08
  | .cmar => 0x0C
  | .cisr => 0x10
  | .cifcr => 0x14

/-- Offset of a CORDIC register (10_state.md R140). -/
def CordicReg.offset : CordicReg → Nat
  | .csr => 0x00
  | .wdata => 0x04
  | .rdata => 0x08

/-- Offset of a transform-unit register (10_state.md R143). -/
def XformReg.offset : XformReg → Nat
  | .ctrl => 0x00
  | .in0 => 0x10
  | .in1 => 0x14
  | .in2 => 0x18
  | .in3 => 0x1C
  | .out0 => 0x20
  | .out1 => 0x24
  | .out2 => 0x28
  | .out3 => 0x2C

/-- Offset of a dispatcher register (10_state.md R144). -/
def IntcReg.offset : IntcReg → Nat
  | .ctrl => 0x00
  | .ier => 0x04
  | .ipr => 0x08
  | .iabr => 0x0C
  | .curpri => 0x10
  | .eoi => 0x14
  | .active => 0x18

/-- The unit windows (20_memory.md R201). -/
inductive Window where
  | pwm
  | adc (u : AdcUnit)
  | dma
  | dmamux
  | cordic
  | xform
  | intc
  deriving DecidableEq, Repr, Inhabited

/-- Every unit window, in the order of 20_memory.md R201. -/
def Window.all : List Window := [.pwm, .adc .one, .adc .two, .dma, .dmamux, .cordic, .xform, .intc]

/-- Base of a unit's window (20_memory.md R201). -/
def Window.base (p : Params) : Window → Nat
  | .pwm => p.pwmBase
  | .adc .one => p.adc1Base
  | .adc .two => p.adc2Base
  | .dma => p.dmaBase
  | .dmamux => p.dmamuxBase
  | .cordic => p.cordicBase
  | .xform => p.xformBase
  | .intc => p.intcBase

/-- The window a register lies in. -/
def Reg.window : Reg → Window
  | .pwm _ => .pwm
  | .adc u _ => .adc u
  | .dma _ _ => .dma
  | .dmamux _ => .dmamux
  | .cordic _ => .cordic
  | .xform _ => .xform
  | .intc _ => .intc

/-- Offset of a register in its window (10_state.md R110 to R144). -/
def Reg.offset : Reg → Nat
  | .pwm r => r.offset
  | .adc _ r => r.offset
  | .dma c r => 0x20 * c.val + r.offset
  | .dmamux c => 4 * c.val
  | .cordic r => r.offset
  | .xform r => r.offset
  | .intc r => r.offset

/-- The machine has the register: a DMA channel or a router slot only below `N_DMA` (10_state.md R130, R134). -/
def Reg.present (p : Params) : Reg → Bool
  | .pwm _ => true
  | .adc _ _ => true
  | .dma c _ => c.val < p.nDma
  | .dmamux c => c.val < p.nDma
  | .cordic _ => true
  | .xform _ => true
  | .intc _ => true

/-- The address of a register (30_encoding.md R303). -/
def Reg.address (p : Params) (r : Reg) : Nat := r.window.base p + r.offset

/-- The address of a register as a bus address. -/
def Reg.addr (p : Params) (r : Reg) : Word := Word.ofAddr (r.address p)

/-- The address of a lane of a register. -/
def Reg.laneAddr (p : Params) (r : Reg) (lane : Lane) : Word := Word.ofAddr (r.address p + lane.offset)

/-- The PWM register at an offset; every other offset is unmapped (10_state.md R110). -/
def PwmReg.at? : Nat → Option PwmReg
  | 0x00 => some .cr1
  | 0x04 => some .cr2
  | 0x08 => some .sr
  | 0x0C => some .egr
  | 0x10 => some .ccmr
  | 0x14 => some .ccer
  | 0x18 => some .cnt
  | 0x1C => some .psc
  | 0x20 => some .arr
  | 0x24 => some .rcr
  | 0x28 => some .ccr1
  | 0x2C => some .ccr2
  | 0x30 => some .ccr3
  | 0x34 => some .ccr4
  | 0x38 => some .ccr5
  | 0x3C => some .bdtr
  | _ => none

/-- The ADC register at an offset; every other offset is unmapped (10_state.md R120). -/
def AdcReg.at? : Nat → Option AdcReg
  | 0x00 => some .isr
  | 0x04 => some .ier
  | 0x08 => some .cr
  | 0x0C => some .cfgr
  | 0x14 => some .smpr1
  | 0x18 => some .smpr2
  | 0x30 => some .sqr1
  | 0x40 => some .dr
  | 0x4C => some .jsqr
  | 0x80 => some .jdr1
  | 0x84 => some .jdr2
  | 0x88 => some .jdr3
  | 0x8C => some .jdr4
  | _ => none

/-- The DMA register at an offset inside a channel; +0x18 and +0x1C are unmapped (10_state.md R130). -/
def DmaReg.at? : Nat → Option DmaReg
  | 0x00 => some .ccr
  | 0x04 => some .cndtr
  | 0x08 => some .cpar
  | 0x0C => some .cmar
  | 0x10 => some .cisr
  | 0x14 => some .cifcr
  | _ => none

/-- The CORDIC register at an offset (10_state.md R140). -/
def CordicReg.at? : Nat → Option CordicReg
  | 0x00 => some .csr
  | 0x04 => some .wdata
  | 0x08 => some .rdata
  | _ => none

/-- The transform-unit register at an offset (10_state.md R143). -/
def XformReg.at? : Nat → Option XformReg
  | 0x00 => some .ctrl
  | 0x10 => some .in0
  | 0x14 => some .in1
  | 0x18 => some .in2
  | 0x1C => some .in3
  | 0x20 => some .out0
  | 0x24 => some .out1
  | 0x28 => some .out2
  | 0x2C => some .out3
  | _ => none

/-- The dispatcher register at an offset (10_state.md R144). -/
def IntcReg.at? : Nat → Option IntcReg
  | 0x00 => some .ctrl
  | 0x04 => some .ier
  | 0x08 => some .ipr
  | 0x0C => some .iabr
  | 0x10 => some .curpri
  | 0x14 => some .eoi
  | 0x18 => some .active
  | _ => none

/-- The channel of a number below `N_DMA` (10_state.md R130, R134). -/
def channel? (p : Params) (c : Nat) : Option (Fin 16) := if h : c < 16 then if c < p.nDma then some ⟨c, h⟩ else none else none

/-- Whether `a .. a+n-1` lies inside the region of `size` bytes at `base` (20_memory.md R203). -/
def insideRegion (base size a n : Nat) : Bool := base ≤ a && a + n ≤ base + size

/-- The register at a word-aligned offset of a window; none where the offset is unmapped (20_memory.md R202). -/
def Window.reg? (p : Params) : Window → Nat → Option Reg
  | .pwm, o => (PwmReg.at? o).map .pwm
  | .adc u, o => (AdcReg.at? o).map (.adc u)
  | .dma, o =>
    match channel? p (o / 0x20) with
    | some c => (DmaReg.at? (o % 0x20)).map (.dma c)
    | none => none
  | .dmamux, o => (channel? p (o / 4)).map .dmamux
  | .cordic, o => (CordicReg.at? o).map .cordic
  | .xform, o => (XformReg.at? o).map .xform
  | .intc, o => (IntcReg.at? o).map .intc

/-- The unit window that `a .. a+n-1` lies inside (20_memory.md R201, R203). -/
def Params.window? (p : Params) (a n : Nat) : Option Window :=
  Window.all.find? fun w => insideRegion (w.base p) p.win a n

/-! ### The bus checks -/

/-- Why a transaction is rejected: a failed bus check of 40_bus.md R410 and R411, or a write of a reserved XFORM operation
code, which no table row matches (30_encoding.md R328). -/
inductive Reject where
  /-- Outside every region, past a region's end, or an unmapped register offset: `BUS_UNMAPPED` (20_memory.md R203). -/
  | unmapped (a : Word)
  /-- Not naturally aligned: `BUS_ALIGN` (20_memory.md R207). -/
  | misaligned (a : Word)
  /-- A write to TRIM: `BUS_RO` (20_memory.md R209). -/
  | readOnly (a : Word)
  /-- A 1- or 2-byte write to a unit window: `BUS_WIDTH` (20_memory.md R210). -/
  | subWordWrite (a : Word)
  /-- A CTRL write with OP 6 or 7: `XFORM_BAD_OP` (45_xform.md R851). -/
  | reservedOp (op : BitVec 3)
  deriving DecidableEq, Repr

/-- What an accepted address names: a RAM offset, a TRIM offset, or a lane of a register. -/
inductive Target where
  | ram (off : BitVec 32)
  | trim (off : BitVec 1)
  | reg (r : Reg) (lane : Lane)
  deriving DecidableEq, Repr

/-- The region, offset and alignment checks, in this order (40_bus.md R410, 20_memory.md R202, R203, R207). -/
def locate (p : Params) (n : Size) (a : Word) : Except Reject Target :=
  let x := a.toNat
  let k := n.bytes
  if insideRegion p.ramBase p.ramSize x k then
    if x % k = 0 then .ok (.ram (BitVec.ofNat 32 (x - p.ramBase))) else .error (.misaligned a)
  else if insideRegion p.trimAddr 2 x k then
    if x % k = 0 then .ok (.trim (BitVec.ofNat 1 (x - p.trimAddr))) else .error (.misaligned a)
  else
    match p.window? x k with
    | none => .error (.unmapped a)
    | some w =>
      let o := x - w.base p
      match w.reg? p (o - o % 4) with
      | none => .error (.unmapped a)
      | some r =>
        match Lane.at? n (o % 4) with
        | some lane => .ok (.reg r lane)
        | none => .error (.misaligned a)

/-! ### Decode -/

/-- The read row of a register (30_encoding.md R303). -/
def Reg.rdInstr (r : Reg) (lane : Lane) : Instr :=
  match r with
  | .pwm .cr1 => .pwmCr1Rd lane
  | .pwm .cr2 => .pwmCr2Rd lane
  | .pwm .sr => .pwmSrRd lane
  | .pwm .egr => .pwmEgrRd lane
  | .pwm .ccmr => .pwmCcmrRd lane
  | .pwm .ccer => .pwmCcerRd lane
  | .pwm .cnt => .pwmCntRd lane
  | .pwm .psc => .pwmPscRd lane
  | .pwm .arr => .pwmArrRd lane
  | .pwm .rcr => .pwmRcrRd lane
  | .pwm .ccr1 => .pwmCcr1Rd lane
  | .pwm .ccr2 => .pwmCcr2Rd lane
  | .pwm .ccr3 => .pwmCcr3Rd lane
  | .pwm .ccr4 => .pwmCcr4Rd lane
  | .pwm .ccr5 => .pwmCcr5Rd lane
  | .pwm .bdtr => .pwmBdtrRd lane
  | .adc .one .isr => .adc1IsrRd lane
  | .adc .one .ier => .adc1IerRd lane
  | .adc .one .cr => .adc1CrRd lane
  | .adc .one .cfgr => .adc1CfgrRd lane
  | .adc .one .smpr1 => .adc1Smpr1Rd lane
  | .adc .one .smpr2 => .adc1Smpr2Rd lane
  | .adc .one .sqr1 => .adc1Sqr1Rd lane
  | .adc .one .dr => .adc1DrRd lane
  | .adc .one .jsqr => .adc1JsqrRd lane
  | .adc .one .jdr1 => .adc1Jdr1Rd lane
  | .adc .one .jdr2 => .adc1Jdr2Rd lane
  | .adc .one .jdr3 => .adc1Jdr3Rd lane
  | .adc .one .jdr4 => .adc1Jdr4Rd lane
  | .adc .two .isr => .adc2IsrRd lane
  | .adc .two .ier => .adc2IerRd lane
  | .adc .two .cr => .adc2CrRd lane
  | .adc .two .cfgr => .adc2CfgrRd lane
  | .adc .two .smpr1 => .adc2Smpr1Rd lane
  | .adc .two .smpr2 => .adc2Smpr2Rd lane
  | .adc .two .sqr1 => .adc2Sqr1Rd lane
  | .adc .two .dr => .adc2DrRd lane
  | .adc .two .jsqr => .adc2JsqrRd lane
  | .adc .two .jdr1 => .adc2Jdr1Rd lane
  | .adc .two .jdr2 => .adc2Jdr2Rd lane
  | .adc .two .jdr3 => .adc2Jdr3Rd lane
  | .adc .two .jdr4 => .adc2Jdr4Rd lane
  | .dma c .ccr => .dmaCcrRd c lane
  | .dma c .cndtr => .dmaCndtrRd c lane
  | .dma c .cpar => .dmaCparRd c lane
  | .dma c .cmar => .dmaCmarRd c lane
  | .dma c .cisr => .dmaCisrRd c lane
  | .dma c .cifcr => .dmaCifcrRd c lane
  | .dmamux c => .dmamuxCxcrRd c lane
  | .cordic .csr => .cordicCsrRd lane
  | .cordic .wdata => .cordicWdataRd lane
  | .cordic .rdata => .cordicRdataRd lane
  | .xform .ctrl => .xformCtrlRd lane
  | .xform .in0 => .xformIn0Rd lane
  | .xform .in1 => .xformIn1Rd lane
  | .xform .in2 => .xformIn2Rd lane
  | .xform .in3 => .xformIn3Rd lane
  | .xform .out0 => .xformOut0Rd lane
  | .xform .out1 => .xformOut1Rd lane
  | .xform .out2 => .xformOut2Rd lane
  | .xform .out3 => .xformOut3Rd lane
  | .intc .ctrl => .intcCtrlRd lane
  | .intc .ier => .intcIerRd lane
  | .intc .ipr => .intcIprRd lane
  | .intc .iabr => .intcIabrRd lane
  | .intc .curpri => .intcCurpriRd lane
  | .intc .eoi => .intcEoiRd lane
  | .intc .active => .intcActiveRd lane

/-- The write row of a register; XFORM.CTRL has one row for each valid OP (30_encoding.md R303, R328). -/
def Reg.wrInstr (r : Reg) (v : Word) : Except Reject Instr :=
  match r with
  | .pwm .cr1 => .ok (.pwmCr1Wr v)
  | .pwm .cr2 => .ok (.pwmCr2Wr v)
  | .pwm .sr => .ok (.pwmSrWr v)
  | .pwm .egr => .ok (.pwmEgrWr v)
  | .pwm .ccmr => .ok (.pwmCcmrWr v)
  | .pwm .ccer => .ok (.pwmCcerWr v)
  | .pwm .cnt => .ok (.pwmCntWr v)
  | .pwm .psc => .ok (.pwmPscWr v)
  | .pwm .arr => .ok (.pwmArrWr v)
  | .pwm .rcr => .ok (.pwmRcrWr v)
  | .pwm .ccr1 => .ok (.pwmCcr1Wr v)
  | .pwm .ccr2 => .ok (.pwmCcr2Wr v)
  | .pwm .ccr3 => .ok (.pwmCcr3Wr v)
  | .pwm .ccr4 => .ok (.pwmCcr4Wr v)
  | .pwm .ccr5 => .ok (.pwmCcr5Wr v)
  | .pwm .bdtr => .ok (.pwmBdtrWr v)
  | .adc .one .isr => .ok (.adc1IsrWr v)
  | .adc .one .ier => .ok (.adc1IerWr v)
  | .adc .one .cr => .ok (.adc1CrWr v)
  | .adc .one .cfgr => .ok (.adc1CfgrWr v)
  | .adc .one .smpr1 => .ok (.adc1Smpr1Wr v)
  | .adc .one .smpr2 => .ok (.adc1Smpr2Wr v)
  | .adc .one .sqr1 => .ok (.adc1Sqr1Wr v)
  | .adc .one .dr => .ok (.adc1DrWr v)
  | .adc .one .jsqr => .ok (.adc1JsqrWr v)
  | .adc .one .jdr1 => .ok (.adc1Jdr1Wr v)
  | .adc .one .jdr2 => .ok (.adc1Jdr2Wr v)
  | .adc .one .jdr3 => .ok (.adc1Jdr3Wr v)
  | .adc .one .jdr4 => .ok (.adc1Jdr4Wr v)
  | .adc .two .isr => .ok (.adc2IsrWr v)
  | .adc .two .ier => .ok (.adc2IerWr v)
  | .adc .two .cr => .ok (.adc2CrWr v)
  | .adc .two .cfgr => .ok (.adc2CfgrWr v)
  | .adc .two .smpr1 => .ok (.adc2Smpr1Wr v)
  | .adc .two .smpr2 => .ok (.adc2Smpr2Wr v)
  | .adc .two .sqr1 => .ok (.adc2Sqr1Wr v)
  | .adc .two .dr => .ok (.adc2DrWr v)
  | .adc .two .jsqr => .ok (.adc2JsqrWr v)
  | .adc .two .jdr1 => .ok (.adc2Jdr1Wr v)
  | .adc .two .jdr2 => .ok (.adc2Jdr2Wr v)
  | .adc .two .jdr3 => .ok (.adc2Jdr3Wr v)
  | .adc .two .jdr4 => .ok (.adc2Jdr4Wr v)
  | .dma c .ccr => .ok (.dmaCcrWr c v)
  | .dma c .cndtr => .ok (.dmaCndtrWr c v)
  | .dma c .cpar => .ok (.dmaCparWr c v)
  | .dma c .cmar => .ok (.dmaCmarWr c v)
  | .dma c .cisr => .ok (.dmaCisrWr c v)
  | .dma c .cifcr => .ok (.dmaCifcrWr c v)
  | .dmamux c => .ok (.dmamuxCxcrWr c v)
  | .cordic .csr => .ok (.cordicCsrWr v)
  | .cordic .wdata => .ok (.cordicWdataWr v)
  | .cordic .rdata => .ok (.cordicRdataWr v)
  | .xform .ctrl =>
    let hi := v.extractLsb' 3 29
    match v.extractLsb' 0 3 with
    | 0#3 => .ok (.xformCtrlWrNop hi)
    | 1#3 => .ok (.xformCtrlWrClarke hi)
    | 2#3 => .ok (.xformCtrlWrPark hi)
    | 3#3 => .ok (.xformCtrlWrIpark hi)
    | 4#3 => .ok (.xformCtrlWrSvpwm hi)
    | 5#3 => .ok (.xformCtrlWrClarkePark hi)
    | op => .error (.reservedOp op)
  | .xform .in0 => .ok (.xformIn0Wr v)
  | .xform .in1 => .ok (.xformIn1Wr v)
  | .xform .in2 => .ok (.xformIn2Wr v)
  | .xform .in3 => .ok (.xformIn3Wr v)
  | .xform .out0 => .ok (.xformOut0Wr v)
  | .xform .out1 => .ok (.xformOut1Wr v)
  | .xform .out2 => .ok (.xformOut2Wr v)
  | .xform .out3 => .ok (.xformOut3Wr v)
  | .intc .ctrl => .ok (.intcCtrlWr v)
  | .intc .ier => .ok (.intcIerWr v)
  | .intc .ipr => .ok (.intcIprWr v)
  | .intc .iabr => .ok (.intcIabrWr v)
  | .intc .curpri => .ok (.intcCurpriWr v)
  | .intc .eoi => .ok (.intcEoiWr v)
  | .intc .active => .ok (.intcActiveWr v)

/-- The RAM read row of a size. -/
def ramRdInstr : Size → BitVec 32 → Instr
  | .b1, off => .ramRd8 off
  | .b2, off => .ramRd16 off
  | .b4, off => .ramRd32 off

/-- The RAM write row of a size. -/
def ramWrInstr : Size → BitVec 32 → Word → Instr
  | .b1, off, d => .ramWr8 off d
  | .b2, off, d => .ramWr16 off d
  | .b4, off, d => .ramWr32 off d

/-- The TRIM read row of a size; a 4-byte read runs past TRIM and never comes here. -/
def trimRdInstr : Size → BitVec 1 → Instr
  | .b1, off => .trimRd8 off
  | .b2, _ => .trimRd16
  | .b4, _ => .trimRd16

/-- Decode a transaction: total, an instruction or a rejection by name (30_encoding.md R302). -/
def decode (p : Params) : Transaction → Except Reject Instr
  | .rd n a =>
    match locate p n a with
    | .error e => .error e
    | .ok (.ram off) => .ok (ramRdInstr n off)
    | .ok (.trim off) => .ok (trimRdInstr n off)
    | .ok (.reg r lane) => .ok (r.rdInstr lane)
  | .wr n a d =>
    match locate p n a with
    | .error e => .error e
    | .ok (.ram off) => .ok (ramWrInstr n off d)
    | .ok (.trim _) => .error (.readOnly a)
    | .ok (.reg r _) => if n = .b4 then r.wrInstr d else .error (.subWordWrite a)

/-! ### Encode -/

/-- The read of a lane of a register the machine has. -/
def Reg.rdTransaction (p : Params) (r : Reg) (lane : Lane) : Option Transaction :=
  if r.present p then some (.rd lane.size (r.laneAddr p lane)) else none

/-- The write of a register the machine has. -/
def Reg.wrTransaction (p : Params) (r : Reg) (v : Word) : Option Transaction :=
  if r.present p then some (.wr .b4 (r.addr p) v) else none

/-- The read of n bytes of RAM at an offset inside it. -/
def ramRdTransaction (p : Params) (n : Size) (off : BitVec 32) : Option Transaction :=
  if off.toNat + n.bytes ≤ p.ramSize then some (.rd n (Word.ofAddr (p.ramBase + off.toNat))) else none

/-- The write of n bytes of RAM at an offset inside it. -/
def ramWrTransaction (p : Params) (n : Size) (off : BitVec 32) (d : Word) : Option Transaction :=
  if off.toNat + n.bytes ≤ p.ramSize then some (.wr n (Word.ofAddr (p.ramBase + off.toNat)) d) else none

/-- The transaction of an instruction (30_encoding.md R301, R303); a driver operation is a sequence of transactions and has
none of its own, and a register or a byte of RAM that the machine does not have (`N_DMA`, `RAM_SIZE`) has none. -/
def encode (p : Params) : Instr → Option Transaction
  | .pwmCr1Rd lane => Reg.rdTransaction p (.pwm .cr1) lane
  | .pwmCr1Wr v => Reg.wrTransaction p (.pwm .cr1) v
  | .pwmCr2Rd lane => Reg.rdTransaction p (.pwm .cr2) lane
  | .pwmCr2Wr v => Reg.wrTransaction p (.pwm .cr2) v
  | .pwmSrRd lane => Reg.rdTransaction p (.pwm .sr) lane
  | .pwmSrWr v => Reg.wrTransaction p (.pwm .sr) v
  | .pwmEgrRd lane => Reg.rdTransaction p (.pwm .egr) lane
  | .pwmEgrWr v => Reg.wrTransaction p (.pwm .egr) v
  | .pwmCcmrRd lane => Reg.rdTransaction p (.pwm .ccmr) lane
  | .pwmCcmrWr v => Reg.wrTransaction p (.pwm .ccmr) v
  | .pwmCcerRd lane => Reg.rdTransaction p (.pwm .ccer) lane
  | .pwmCcerWr v => Reg.wrTransaction p (.pwm .ccer) v
  | .pwmCntRd lane => Reg.rdTransaction p (.pwm .cnt) lane
  | .pwmCntWr v => Reg.wrTransaction p (.pwm .cnt) v
  | .pwmPscRd lane => Reg.rdTransaction p (.pwm .psc) lane
  | .pwmPscWr v => Reg.wrTransaction p (.pwm .psc) v
  | .pwmArrRd lane => Reg.rdTransaction p (.pwm .arr) lane
  | .pwmArrWr v => Reg.wrTransaction p (.pwm .arr) v
  | .pwmRcrRd lane => Reg.rdTransaction p (.pwm .rcr) lane
  | .pwmRcrWr v => Reg.wrTransaction p (.pwm .rcr) v
  | .pwmCcr1Rd lane => Reg.rdTransaction p (.pwm .ccr1) lane
  | .pwmCcr1Wr v => Reg.wrTransaction p (.pwm .ccr1) v
  | .pwmCcr2Rd lane => Reg.rdTransaction p (.pwm .ccr2) lane
  | .pwmCcr2Wr v => Reg.wrTransaction p (.pwm .ccr2) v
  | .pwmCcr3Rd lane => Reg.rdTransaction p (.pwm .ccr3) lane
  | .pwmCcr3Wr v => Reg.wrTransaction p (.pwm .ccr3) v
  | .pwmCcr4Rd lane => Reg.rdTransaction p (.pwm .ccr4) lane
  | .pwmCcr4Wr v => Reg.wrTransaction p (.pwm .ccr4) v
  | .pwmCcr5Rd lane => Reg.rdTransaction p (.pwm .ccr5) lane
  | .pwmCcr5Wr v => Reg.wrTransaction p (.pwm .ccr5) v
  | .pwmBdtrRd lane => Reg.rdTransaction p (.pwm .bdtr) lane
  | .pwmBdtrWr v => Reg.wrTransaction p (.pwm .bdtr) v
  | .adc1IsrRd lane => Reg.rdTransaction p (.adc .one .isr) lane
  | .adc1IsrWr v => Reg.wrTransaction p (.adc .one .isr) v
  | .adc1IerRd lane => Reg.rdTransaction p (.adc .one .ier) lane
  | .adc1IerWr v => Reg.wrTransaction p (.adc .one .ier) v
  | .adc1CrRd lane => Reg.rdTransaction p (.adc .one .cr) lane
  | .adc1CrWr v => Reg.wrTransaction p (.adc .one .cr) v
  | .adc1CfgrRd lane => Reg.rdTransaction p (.adc .one .cfgr) lane
  | .adc1CfgrWr v => Reg.wrTransaction p (.adc .one .cfgr) v
  | .adc1Smpr1Rd lane => Reg.rdTransaction p (.adc .one .smpr1) lane
  | .adc1Smpr1Wr v => Reg.wrTransaction p (.adc .one .smpr1) v
  | .adc1Smpr2Rd lane => Reg.rdTransaction p (.adc .one .smpr2) lane
  | .adc1Smpr2Wr v => Reg.wrTransaction p (.adc .one .smpr2) v
  | .adc1Sqr1Rd lane => Reg.rdTransaction p (.adc .one .sqr1) lane
  | .adc1Sqr1Wr v => Reg.wrTransaction p (.adc .one .sqr1) v
  | .adc1DrRd lane => Reg.rdTransaction p (.adc .one .dr) lane
  | .adc1DrWr v => Reg.wrTransaction p (.adc .one .dr) v
  | .adc1JsqrRd lane => Reg.rdTransaction p (.adc .one .jsqr) lane
  | .adc1JsqrWr v => Reg.wrTransaction p (.adc .one .jsqr) v
  | .adc1Jdr1Rd lane => Reg.rdTransaction p (.adc .one .jdr1) lane
  | .adc1Jdr1Wr v => Reg.wrTransaction p (.adc .one .jdr1) v
  | .adc1Jdr2Rd lane => Reg.rdTransaction p (.adc .one .jdr2) lane
  | .adc1Jdr2Wr v => Reg.wrTransaction p (.adc .one .jdr2) v
  | .adc1Jdr3Rd lane => Reg.rdTransaction p (.adc .one .jdr3) lane
  | .adc1Jdr3Wr v => Reg.wrTransaction p (.adc .one .jdr3) v
  | .adc1Jdr4Rd lane => Reg.rdTransaction p (.adc .one .jdr4) lane
  | .adc1Jdr4Wr v => Reg.wrTransaction p (.adc .one .jdr4) v
  | .adc2IsrRd lane => Reg.rdTransaction p (.adc .two .isr) lane
  | .adc2IsrWr v => Reg.wrTransaction p (.adc .two .isr) v
  | .adc2IerRd lane => Reg.rdTransaction p (.adc .two .ier) lane
  | .adc2IerWr v => Reg.wrTransaction p (.adc .two .ier) v
  | .adc2CrRd lane => Reg.rdTransaction p (.adc .two .cr) lane
  | .adc2CrWr v => Reg.wrTransaction p (.adc .two .cr) v
  | .adc2CfgrRd lane => Reg.rdTransaction p (.adc .two .cfgr) lane
  | .adc2CfgrWr v => Reg.wrTransaction p (.adc .two .cfgr) v
  | .adc2Smpr1Rd lane => Reg.rdTransaction p (.adc .two .smpr1) lane
  | .adc2Smpr1Wr v => Reg.wrTransaction p (.adc .two .smpr1) v
  | .adc2Smpr2Rd lane => Reg.rdTransaction p (.adc .two .smpr2) lane
  | .adc2Smpr2Wr v => Reg.wrTransaction p (.adc .two .smpr2) v
  | .adc2Sqr1Rd lane => Reg.rdTransaction p (.adc .two .sqr1) lane
  | .adc2Sqr1Wr v => Reg.wrTransaction p (.adc .two .sqr1) v
  | .adc2DrRd lane => Reg.rdTransaction p (.adc .two .dr) lane
  | .adc2DrWr v => Reg.wrTransaction p (.adc .two .dr) v
  | .adc2JsqrRd lane => Reg.rdTransaction p (.adc .two .jsqr) lane
  | .adc2JsqrWr v => Reg.wrTransaction p (.adc .two .jsqr) v
  | .adc2Jdr1Rd lane => Reg.rdTransaction p (.adc .two .jdr1) lane
  | .adc2Jdr1Wr v => Reg.wrTransaction p (.adc .two .jdr1) v
  | .adc2Jdr2Rd lane => Reg.rdTransaction p (.adc .two .jdr2) lane
  | .adc2Jdr2Wr v => Reg.wrTransaction p (.adc .two .jdr2) v
  | .adc2Jdr3Rd lane => Reg.rdTransaction p (.adc .two .jdr3) lane
  | .adc2Jdr3Wr v => Reg.wrTransaction p (.adc .two .jdr3) v
  | .adc2Jdr4Rd lane => Reg.rdTransaction p (.adc .two .jdr4) lane
  | .adc2Jdr4Wr v => Reg.wrTransaction p (.adc .two .jdr4) v
  | .dmaCcrRd c lane => Reg.rdTransaction p (.dma c .ccr) lane
  | .dmaCcrWr c v => Reg.wrTransaction p (.dma c .ccr) v
  | .dmaCndtrRd c lane => Reg.rdTransaction p (.dma c .cndtr) lane
  | .dmaCndtrWr c v => Reg.wrTransaction p (.dma c .cndtr) v
  | .dmaCparRd c lane => Reg.rdTransaction p (.dma c .cpar) lane
  | .dmaCparWr c v => Reg.wrTransaction p (.dma c .cpar) v
  | .dmaCmarRd c lane => Reg.rdTransaction p (.dma c .cmar) lane
  | .dmaCmarWr c v => Reg.wrTransaction p (.dma c .cmar) v
  | .dmaCisrRd c lane => Reg.rdTransaction p (.dma c .cisr) lane
  | .dmaCisrWr c v => Reg.wrTransaction p (.dma c .cisr) v
  | .dmaCifcrRd c lane => Reg.rdTransaction p (.dma c .cifcr) lane
  | .dmaCifcrWr c v => Reg.wrTransaction p (.dma c .cifcr) v
  | .dmamuxCxcrRd c lane => Reg.rdTransaction p (.dmamux c) lane
  | .dmamuxCxcrWr c v => Reg.wrTransaction p (.dmamux c) v
  | .cordicCsrRd lane => Reg.rdTransaction p (.cordic .csr) lane
  | .cordicCsrWr v => Reg.wrTransaction p (.cordic .csr) v
  | .cordicWdataRd lane => Reg.rdTransaction p (.cordic .wdata) lane
  | .cordicWdataWr v => Reg.wrTransaction p (.cordic .wdata) v
  | .cordicRdataRd lane => Reg.rdTransaction p (.cordic .rdata) lane
  | .cordicRdataWr v => Reg.wrTransaction p (.cordic .rdata) v
  | .xformCtrlRd lane => Reg.rdTransaction p (.xform .ctrl) lane
  | .xformIn0Rd lane => Reg.rdTransaction p (.xform .in0) lane
  | .xformIn0Wr v => Reg.wrTransaction p (.xform .in0) v
  | .xformIn1Rd lane => Reg.rdTransaction p (.xform .in1) lane
  | .xformIn1Wr v => Reg.wrTransaction p (.xform .in1) v
  | .xformIn2Rd lane => Reg.rdTransaction p (.xform .in2) lane
  | .xformIn2Wr v => Reg.wrTransaction p (.xform .in2) v
  | .xformIn3Rd lane => Reg.rdTransaction p (.xform .in3) lane
  | .xformIn3Wr v => Reg.wrTransaction p (.xform .in3) v
  | .xformOut0Rd lane => Reg.rdTransaction p (.xform .out0) lane
  | .xformOut0Wr v => Reg.wrTransaction p (.xform .out0) v
  | .xformOut1Rd lane => Reg.rdTransaction p (.xform .out1) lane
  | .xformOut1Wr v => Reg.wrTransaction p (.xform .out1) v
  | .xformOut2Rd lane => Reg.rdTransaction p (.xform .out2) lane
  | .xformOut2Wr v => Reg.wrTransaction p (.xform .out2) v
  | .xformOut3Rd lane => Reg.rdTransaction p (.xform .out3) lane
  | .xformOut3Wr v => Reg.wrTransaction p (.xform .out3) v
  | .intcCtrlRd lane => Reg.rdTransaction p (.intc .ctrl) lane
  | .intcCtrlWr v => Reg.wrTransaction p (.intc .ctrl) v
  | .intcIerRd lane => Reg.rdTransaction p (.intc .ier) lane
  | .intcIerWr v => Reg.wrTransaction p (.intc .ier) v
  | .intcIprRd lane => Reg.rdTransaction p (.intc .ipr) lane
  | .intcIprWr v => Reg.wrTransaction p (.intc .ipr) v
  | .intcIabrRd lane => Reg.rdTransaction p (.intc .iabr) lane
  | .intcIabrWr v => Reg.wrTransaction p (.intc .iabr) v
  | .intcCurpriRd lane => Reg.rdTransaction p (.intc .curpri) lane
  | .intcCurpriWr v => Reg.wrTransaction p (.intc .curpri) v
  | .intcEoiRd lane => Reg.rdTransaction p (.intc .eoi) lane
  | .intcEoiWr v => Reg.wrTransaction p (.intc .eoi) v
  | .intcActiveRd lane => Reg.rdTransaction p (.intc .active) lane
  | .intcActiveWr v => Reg.wrTransaction p (.intc .active) v
  | .xformCtrlWrNop hi => Reg.wrTransaction p (.xform .ctrl) (hi ++ 0#3)
  | .xformCtrlWrClarke hi => Reg.wrTransaction p (.xform .ctrl) (hi ++ 1#3)
  | .xformCtrlWrPark hi => Reg.wrTransaction p (.xform .ctrl) (hi ++ 2#3)
  | .xformCtrlWrIpark hi => Reg.wrTransaction p (.xform .ctrl) (hi ++ 3#3)
  | .xformCtrlWrSvpwm hi => Reg.wrTransaction p (.xform .ctrl) (hi ++ 4#3)
  | .xformCtrlWrClarkePark hi => Reg.wrTransaction p (.xform .ctrl) (hi ++ 5#3)
  | .ramRd8 off => ramRdTransaction p .b1 off
  | .ramWr8 off d => ramWrTransaction p .b1 off d
  | .ramRd16 off => ramRdTransaction p .b2 off
  | .ramWr16 off d => ramWrTransaction p .b2 off d
  | .ramRd32 off => ramRdTransaction p .b4 off
  | .ramWr32 off d => ramWrTransaction p .b4 off d
  | .trimRd8 off => some (.rd .b1 (Word.ofAddr (p.trimAddr + off.toNat)))
  | .trimRd16 => some (.rd .b2 (Word.ofAddr p.trimAddr))
  | .pwmConfigure _ => none
  | .pwmDeadtimeTicks => none
  | .pwmEnableOutputs => none
  | .pwmSetDuty _ _ _ => none
  | .adcPowerupCalibrate _ => none
  | .adcEnable _ => none
  | .adcStart _ => none
  | .adcConfigureProduction _ _ _ _ => none
  | .adcOneShot _ _ _ _ => none
  | .adcGetAverage _ _ => none
  | .adcReferenceVoltage => none
  | .adcVrefCalibrate => none
  | .adcClearInjectedFlag _ => none
  | .adcReadInjectedFlag _ => none
  | .adcReadInjectedData _ _ => none
  | .adcRawDrAddress _ => none
  | .dmamuxMap _ _ => none
  | .dmaBind _ _ => none
  | .dmaStart _ _ _ => none
  | .dmaStop _ => none
  | .dmaTc _ => none
  | .dmaClearTc _ => none
  | .dmaClearAll _ => none
  | .floatToQ31 _ => none
  | .q31ToFloat _ => none
  | .cordicInit => none
  | .cordicCompute _ => none
  | .cordicRequest _ => none
  | .cordicCollect => none
  | .xfRun _ _ _ _ _ => none

/-! ### The table word (30_encoding.md R301) -/

/-- `TW = {a[31:0], d[31:0]}`; d is zero for a read. -/
def Transaction.tableWord : Transaction → BitVec 64
  | .rd _ a => a ++ 0#32
  | .wr _ a d => a ++ d

/-- The transaction a table word stands for. The 64 bits of R301 hold the address and the data and neither kind nor size, which
the table's `format` names. A word of more than 64 bits carries them in its ninth byte (1 RD32, 2 RD16, 3 RD8, 4 WR32,
5 WR16, 6 WR8). A word without a ninth byte is read as the 32-bit form, the first of the two rows it can match: the RD row,
whose mask needs d = 0, else the WR row; a TRIM address, which has no 32-bit row, as the halfword read; an XFORM.CTRL word with an
OP other than 0 is a write, as any word with d other than 0 (log entry 9). -/
def Transaction.ofTableWord (p : Params) (nbits w : Nat) : Option Transaction :=
  let w := w % 2 ^ nbits
  let a : Word := BitVec.ofNat 32 (w / 2 ^ 32)
  let d : Word := BitVec.ofNat 32 w
  match w / 2 ^ 64 with
  | 0 =>
    if d = 0#32 then
      if insideRegion p.trimAddr 2 a.toNat 2 then some (.rd .b2 a)
      else if insideRegion p.trimAddr 2 a.toNat 1 then some (.rd .b1 a)
      else some (.rd .b4 a)
    else some (.wr .b4 a d)
  | 1 => some (.rd .b4 a)
  | 2 => some (.rd .b2 a)
  | 3 => some (.rd .b1 a)
  | 4 => some (.wr .b4 a d)
  | 5 => some (.wr .b2 a d)
  | 6 => some (.wr .b1 a d)
  | _ => none

/-- The instruction the decoder reads from a table word, in the default layout (R301); none where it rejects it. -/
def decodeTableWord (nbits w : Nat) : Option Instr :=
  match Transaction.ofTableWord Params.default nbits w with
  | none => none
  | some t =>
    match decode Params.default t with
    | .ok i => some i
    | .error _ => none

end Sys2Proof
end

