-- ==== Sys2Proof/Machine/Program.lean ====
section
/-! DEFINITION. Host programs: statements, and the activities that run them (30_encoding.md R332, 40_bus.md R400 to R404). -/
namespace Sys2Proof.Machine

/-- A host statement (30_encoding.md R332). A label is the index of its statement in the same list (40_bus.md R404). -/
inductive Stmt where
  /-- `RD.W x, A` / `RD.H` / `RD.B` (40_bus.md R420). -/
  | rd (x : LocalName) (n : Size) (a : Expr)
  /-- `WR A, E` / `WR.H` / `WR.B` (40_bus.md R421). -/
  | wr (n : Size) (a e : Expr)
  /-- `POLL A, M, V` (40_bus.md R422). -/
  | poll (a m v : Expr)
  /-- `WAIT N` (40_bus.md R423). -/
  | wait (n : Nat)
  /-- `LET x = E` (40_bus.md R424). -/
  | set (x : LocalName) (e : Expr)
  /-- `BR C, L` (40_bus.md R425). -/
  | br (c : Expr) (l : Nat)
  /-- `BR C, FAULT(code, info)` (40_bus.md R425). -/
  | brFault (c : Expr) (code : FaultCode) (info : Expr)
  /-- `JMP L` (40_bus.md R425). -/
  | jmp (l : Nat)
  /-- `CALL M(args) -> (x1, ...)` (40_bus.md R427). -/
  | call (i : Instr) (dests : List LocalName)
  /-- `RET` (40_bus.md R426). -/
  | ret
  /-- `HALT` (40_bus.md R426). -/
  | halt
  deriving DecidableEq, Repr

/-- A list of statements (40_bus.md R400). -/
abbrev Prog := List Stmt

/-- Well-formedness of a statement in a program of `len` statements: a label of the same program, and CALL of a driver
operation with well-formed operands. -/
def Stmt.wf (len : Nat) : Stmt → Bool
  | .rd _ _ _ => true
  | .wr _ _ _ => true
  | .poll _ _ _ => true
  | .wait _ => true
  | .set _ _ => true
  | .br _ l => l ≤ len
  | .brFault _ _ _ => true
  | .jmp l => l ≤ len
  | .call i _ => i.isOperation && i.wf
  | .ret => true
  | .halt => true

/-- Well-formedness of a program. -/
def Prog.wf (p : Prog) : Bool := p.all (Stmt.wf p.length)

/-- A host program in execution, `(prog, pc, loc, lvl, line)` (40_bus.md R401). While a driver operation that a CALL expanded
runs, `prog` and `pc` are its statements and position, and `calls` holds the suspended callers, innermost first (R427; log
entry 7). `polls` counts the failed reads of the current POLL (R422) and `waits` the units a WAIT has passed (R423). -/
structure Activity where
  prog : Prog
  pc : Nat
  calls : List (Prog × Nat)
  loc : List (LocalName × Word)
  lvl : Nat
  line : Option Line
  polls : Nat
  waits : Nat
  deriving DecidableEq, Repr

end Sys2Proof.Machine
end

