-- ==== Sys2Proof/Machine/State.lean ====
section
/-! DEFINITION. The machine's state as plain data, holding everything the spec gives the machine; the reasons a step can stop;
the state right after reset (10_state.md; 70_reset_and_hazards.md R1100 to R1102). -/
namespace Sys2Proof.Machine

/-- Regulator state `h.ADCu.vreg` (10_state.md R152). -/
inductive Vreg where
  | off | starting | ready
  deriving DecidableEq, Repr

/-- Calibration state `h.ADCu.cal` (10_state.md R152). -/
inductive CalState where
  | idle | running
  deriving DecidableEq, Repr

/-- Enable-handshake state `h.ADCu.en` (10_state.md R152). -/
inductive EnState where
  | off | enabling | ready
  deriving DecidableEq, Repr

/-- PWM registers (10_state.md R110 to R118) and hidden state (R151). Index k-1 of a vector is channel k. RSV bits are not
stored. -/
structure Pwm where
  /-- CR1.CEN -/
  cen : Bool
  /-- CR1.CMS -/
  cms : Bool
  /-- CR2: bit 0 TRGA_EN, 1 TRGA_DIR, 2 TRGB_EN, 3 TRGB_DIR -/
  cr2 : BitVec 4
  /-- SR.UIF -/
  uif : Bool
  /-- CCMR, laid out as R115 -/
  ccmr : BitVec 14
  /-- CCER, laid out as R116 -/
  ccer : BitVec 6
  cnt : BitVec 16
  /-- PSC, the preload value -/
  psc : BitVec 16
  arr : BitVec 16
  rcr : BitVec 8
  /-- CCR1..CCR5, the preload values -/
  ccr : Vector (BitVec 16) 5
  /-- BDTR.DTG -/
  dtg : BitVec 8
  /-- BDTR.OSSI -/
  ossi : Bool
  /-- BDTR.MOE -/
  moe : Bool
  /-- h.PWM.dir: false up, true down -/
  dir : Bool
  /-- h.PWM.psc_act -/
  pscAct : BitVec 16
  /-- h.PWM.psc_cnt -/
  pscCnt : BitVec 16
  /-- h.PWM.rep -/
  rep : BitVec 8
  /-- h.PWM.ccr_act -/
  ccrAct : Vector (BitVec 16) 5
  /-- h.PWM.ocref -/
  ocref : Vector Bool 3
  /-- h.PWM.dtc -/
  dtc : Vector (BitVec 8) 3
  /-- h.PWM.trga -/
  trga : Bool
  /-- h.PWM.trgb -/
  trgb : Bool
  deriving DecidableEq, Repr

/-- The six flags of ADC `ISR` (10_state.md R121) or enables of `IER` (R122), one layout. -/
structure AdcFlags where
  adrdy : Bool
  eoc : Bool
  eos : Bool
  ovr : Bool
  jeoc : Bool
  jeos : Bool
  deriving DecidableEq, Repr

/-- Registers (10_state.md R120 to R129) and hidden state (R152) of one ADC unit. Index r-1 of a vector is rank r. -/
structure Adc where
  isr : AdcFlags
  ier : AdcFlags
  /-- CR.ADEN -/
  aden : Bool
  /-- CR.ADSTART -/
  adstart : Bool
  /-- CR.JADSTART -/
  jadstart : Bool
  /-- CR.ADVREGEN -/
  advregen : Bool
  /-- CR.DEEPPWD -/
  deeppwd : Bool
  /-- CR.ADCALDIF -/
  adcaldif : Bool
  /-- CR.ADCAL -/
  adcal : Bool
  /-- CFGR.DMAEN -/
  dmaen : Bool
  /-- CFGR.OVRMOD -/
  ovrmod : Bool
  /-- CFGR.CONT -/
  cont : Bool
  /-- SMPR1: SMP0 to SMP9, three bits each -/
  smpr1 : BitVec 30
  /-- SMPR2: SMP10 to SMP18, three bits each -/
  smpr2 : BitVec 27
  /-- SQR1.L -/
  sqLen : BitVec 2
  /-- SQR1.SQ1..SQ4 -/
  sq : Vector (BitVec 5) 4
  /-- DR.RDATA -/
  dr : BitVec 16
  /-- JSQR.JL -/
  jsqLen : BitVec 2
  /-- JSQR.JEXTSEL -/
  jextsel : BitVec 5
  /-- JSQR.JEXTEN -/
  jexten : BitVec 2
  /-- JSQR.JSQ1..JSQ4 -/
  jsq : Vector (BitVec 5) 4
  /-- JDR1..JDR4.JDATA -/
  jdr : Vector (BitVec 16) 4
  vreg : Vreg
  cal : CalState
  en : EnState
  /-- h.ADCu.rrank, 0-based index of the next regular rank -/
  rrank : BitVec 2
  /-- h.ADCu.jact -/
  jact : Bool
  /-- h.ADCu.jrank, 0-based index of the next injected rank -/
  jrank : BitVec 2
  /-- h.ADCu.calfact, an abstract value no rule reads (R152; log entry 18) -/
  calfact : Nat
  deriving DecidableEq, Repr

/-- Registers (10_state.md R130 to R133) and hidden state (R153) of one DMA channel. -/
structure DmaChannel where
  /-- CCR.EN -/
  en : Bool
  /-- CCR bits 11:1 as they stand: TCIE is bit 0 here, MSIZE bits 10:9 -/
  cfg : BitVec 11
  cndtr : BitVec 16
  cpar : Word
  cmar : Word
  tcif : Bool
  htif : Bool
  teif : Bool
  /-- h.DMA[c].init -/
  init : BitVec 16
  /-- h.DMA[c].pptr -/
  pptr : Word
  /-- h.DMA[c].mptr -/
  mptr : Word
  /-- h.DMA[c].stopping -/
  stopping : Bool
  deriving DecidableEq, Repr

/-- CORDIC registers (10_state.md R140 to R142) and hidden state (R154). -/
structure Cordic where
  func : BitVec 4
  precision : BitVec 4
  nres : Bool
  nargs : Bool
  arg1 : Word
  latched : Bool
  busy : Bool
  x : Word
  m : Word
  res1 : Word
  res2 : Word
  /-- h.COR.left, results not yet read -/
  left : BitVec 2
  /-- h.COR.next, index of the next result; 3 after the second read (44_cordic.md R814) -/
  next : BitVec 2
  deriving DecidableEq, Repr

/-- Transform-unit registers (10_state.md R143). -/
structure Xform where
  op : BitVec 3
  inp : Vector Word 4
  out : Vector Word 4
  deriving DecidableEq, Repr

/-- Dispatcher registers (10_state.md R144) and hidden state (R155): `stack` holds the lines of the handlers entered and not
yet ended, most recent first. -/
structure Intc where
  gen : Bool
  ier : BitVec 17
  stack : List Line
  deriving DecidableEq, Repr

/-- RAM as (bus address, byte) pairs in canonical form: addresses strictly rising. A byte not listed has been written by no agent
since reset and holds no defined value (10_state.md R156; log entry 3). -/
abbrev Memory := List Host.Cell

/-- The state of the block and its host. -/
structure State where
  pwm : Pwm
  adc1 : Adc
  adc2 : Adc
  /-- h.ADC.paired (10_state.md R152) -/
  adcPaired : Bool
  /-- DMA channels 0..15 (10_state.md R130) -/
  dma : Vector DmaChannel 16
  /-- DMAMUX.CxCR[c].REQID (10_state.md R134) -/
  dmamux : Vector (BitVec 7) 16
  cordic : Cordic
  xform : Xform
  intc : Intc
  ram : Memory
  /-- The flash trim halfword (10_state.md R156) -/
  trim : BitVec 16
  /-- h.fault (10_state.md R102) -/
  fault : Option FaultRecord
  /-- The background activity, at the bottom of the activity stack (40_bus.md R401) -/
  bg : Activity
  /-- The handler activities above it, most recent first (40_bus.md R401) -/
  handlers : List Activity
  /-- The background has executed HALT or run off its end (40_bus.md R404, R426) -/
  halted : Bool
  /-- VEC(0..16): the handler program of each line, or none (40_bus.md R400); a launch input -/
  vec : Vector (Option Prog) 17
  /-- The parameters the machine was launched with, fixed for its run (00_scope.md R8; 70_reset_and_hazards.md R1134) -/
  params : Params
  /-- The model's own: the u32 result of the last read transaction (30_encoding.md R300; log entry 8) -/
  busData : Word
  /-- The model's own: the move the schedule has picked for the next step (10_state.md R101; log entry 1) -/
  turn : Move
  /-- The model's own: how many steps have been taken; the free values are drawn with it (log entry 2) -/
  stepNo : Nat
  deriving DecidableEq, Repr

/-- The reasons a step stops the machine. -/
inductive Fault where
  /-- Raised by `step` alone, in a state whose `h.fault` is recorded: no agent has any further step (60_exceptions.md R1001).
  The recorded code and info are carried out. No instruction raises it: raising a fatal fault is a next state with the record
  set. Safe: the machine stops where the spec says it stops. -/
  | quiescent (code : FaultCode) (info : FaultInfo)
  deriving DecidableEq, Repr

/-- The reasons an instruction has no meaning. -/
inductive Refusal where
  /-- Raised by `exec` alone, for an instruction whose meaning is not written yet. Safe. No arm raises it now. -/
  | notModelled (mnemonic : String)
  deriving DecidableEq, Repr

/-! ### Reset (70_reset_and_hazards.md R1100 to R1102) -/

/-- PWM at reset: ARR = 0xFFFF, all else 0. -/
def Pwm.reset : Pwm where
  cen := false
  cms := false
  cr2 := 0
  uif := false
  ccmr := 0
  ccer := 0
  cnt := 0
  psc := 0
  arr := 0xFFFF#16
  rcr := 0
  ccr := Vector.replicate 5 0
  dtg := 0
  ossi := false
  moe := false
  dir := false
  pscAct := 0
  pscCnt := 0
  rep := 0
  ccrAct := Vector.replicate 5 0
  ocref := Vector.replicate 3 false
  dtc := Vector.replicate 3 0
  trga := false
  trgb := false

/-- No flag set, or no interrupt enabled. -/
def AdcFlags.clear : AdcFlags := ⟨false, false, false, false, false, false⟩

/-- An ADC unit at reset: CR.DEEPPWD = 1, all else 0, regulator OFF, calibration IDLE, enable OFF. -/
def Adc.reset : Adc where
  isr := AdcFlags.clear
  ier := AdcFlags.clear
  aden := false
  adstart := false
  jadstart := false
  advregen := false
  deeppwd := true
  adcaldif := false
  adcal := false
  dmaen := false
  ovrmod := false
  cont := false
  smpr1 := 0
  smpr2 := 0
  sqLen := 0
  sq := Vector.replicate 4 0
  dr := 0
  jsqLen := 0
  jextsel := 0
  jexten := 0
  jsq := Vector.replicate 4 0
  jdr := Vector.replicate 4 0
  vreg := .off
  cal := .idle
  en := .off
  rrank := 0
  jact := false
  jrank := 0
  calfact := 0

/-- A DMA channel at reset: all 0. -/
def DmaChannel.reset : DmaChannel := ⟨false, 0, 0, 0, 0, false, false, false, 0, 0, 0, false⟩

/-- CORDIC at reset: CSR = 0x50 (PRECISION 5), next = 1, all else 0. -/
def Cordic.reset : Cordic where
  func := 0
  precision := 5#4
  nres := false
  nargs := false
  arg1 := 0
  latched := false
  busy := false
  x := 0
  m := 0
  res1 := 0
  res2 := 0
  left := 0
  next := 1#2

/-- The transform unit at reset: all 0. -/
def Xform.reset : Xform := ⟨0, Vector.replicate 4 0, Vector.replicate 4 0⟩

/-- The dispatcher at reset: GEN = 0, IER = 0, no handler entered. -/
def Intc.reset : Intc := ⟨false, 0, []⟩

/-- The background activity `(PROG_BG, 0, {}, 2, none)` (40_bus.md R401). -/
def Activity.background (prog : Prog) : Activity := ⟨prog, 0, [], [], 2, none, 0, 0⟩

/-- The machine right after reset, with the default parameters. The programs are launch inputs and none is loaded (log entry 6);
`trim` is the launch input TRIM_VALUE, and the first move is the schedule's (10_state.md R101; log entry 1). -/
def State.reset : State where
  pwm := Pwm.reset
  adc1 := Adc.reset
  adc2 := Adc.reset
  adcPaired := false
  dma := Vector.replicate 16 DmaChannel.reset
  dmamux := Vector.replicate 16 0
  cordic := Cordic.reset
  xform := Xform.reset
  intc := Intc.reset
  ram := []
  trim := Config.trimValue
  fault := none
  bg := Activity.background []
  handlers := []
  halted := false
  vec := Vector.replicate 17 none
  params := Params.default
  busData := 0
  turn := Config.firstMove
  stepNo := 0

/-- The reset state of a run launched with parameters, TRIM_VALUE, its programs PROG_BG and VEC(0..16), and the first move of its
schedule, which may be any agent's (00_scope.md R8, 10_state.md R101, 40_bus.md R400, 70_reset_and_hazards.md R1102, R1134). -/
def State.launch (p : Params) (trimValue : BitVec 16) (progBg : Prog) (vec : Vector (Option Prog) 17) (first : Move) : State :=
  { State.reset with params := p, trim := trimValue, bg := Activity.background progBg, vec := vec, turn := first }

end Sys2Proof.Machine
end

