-- ==== Sys2Proof/Machine/Ops.lean ====
section
/-! DEFINITION. The named operations over the state: bits of a word, memory, the fault record, activities and locals, taking an
interrupt and returning from one. -/
namespace Sys2Proof.Machine

/-! ### Bits -/

/-- `v[hi:lo]` read as an unsigned number of the given width (00_scope.md R10). -/
def Word.field (v : Word) (lo width : Nat) : BitVec width := v.extractLsb' lo width

/-- `v[i]` as a Boolean. -/
def Word.bit (v : Word) (i : Nat) : Bool := v.getLsbD i

/-- A Boolean placed at bit `i` of a word, zeros elsewhere. -/
def Word.ofBit (i : Nat) (b : Bool) : Word := if b then 1#32 <<< i else 0

/-- A field placed at bit `lo` of a word, zeros elsewhere. -/
def Word.ofField {w : Nat} (lo : Nat) (x : BitVec w) : Word := (x.setWidth 32) <<< lo

/-- `sext_32` read as an integer: the two's-complement value of a word (00_scope.md R10). -/
def Word.signed (v : Word) : Int := v.toInt

/-- An integer reduced modulo 2^32 (40_bus.md R402). -/
def Word.ofInt (v : Int) : Word := BitVec.ofInt 32 v

/-! ### Fault codes (60_exceptions.md R1002) -/

/-- The number of a fault code. -/
def FaultCode.num : FaultCode → Nat
  | .busUnmapped => 0x01
  | .busAlign => 0x02
  | .busWidth => 0x03
  | .busRo => 0x04
  | .pwmArrRun => 0x10
  | .pwmCmsRun => 0x11
  | .pwmOcmRsv => 0x12
  | .pwmBadArg => 0x13
  | .pwmCcrRange => 0x14
  | .adcSeq => 0x20
  | .adcRun => 0x21
  | .adcBadChannel => 0x22
  | .adcBadTrigger => 0x23
  | .adcOneshotRun => 0x24
  | .adcVrefZero => 0x25
  | .adcBadRank => 0x26
  | .dmaReconfig => 0x30
  | .dmaBadConfig => 0x31
  | .dmaBadChannel => 0x32
  | .dmamuxBadId => 0x33
  | .dmamuxReconfig => 0x34
  | .cordicNoResult => 0x40
  | .cordicOverrun => 0x41
  | .cordicBusy => 0x42
  | .cordicBadFunc => 0x43
  | .q31Domain => 0x44
  | .xformBadOp => 0x50
  | .intcBadEoi => 0x60
  | .intcNoEoi => 0x61
  | .intcNoHandler => 0x62
  | .hwTimeout => 0x70
  | .hostUndefLocal => 0x71
  | .hostPcRange => 0x72

/-- A fault whose info is a word: an address, a value or an operand. -/
def FaultRecord.ofWord (code : FaultCode) (v : Word) : FaultRecord := ⟨code, .num v.toNat⟩

/-- A fault whose info is a number: a channel, a unit, a code or a rank. -/
def FaultRecord.ofNat (code : FaultCode) (n : Nat) : FaultRecord := ⟨code, .num n⟩

/-- The fault a rejected transaction raises (40_bus.md R410, R411; 45_xform.md R851). -/
def rejectFault : Reject → FaultRecord
  | .unmapped a => FaultRecord.ofWord .busUnmapped a
  | .misaligned a => FaultRecord.ofWord .busAlign a
  | .readOnly a => FaultRecord.ofWord .busRo a
  | .subWordWrite a => FaultRecord.ofWord .busWidth a
  | .reservedOp op => FaultRecord.ofNat .xformBadOp op.toNat

/-- `raise Fault(code, info)`: the record takes the value and nothing else changes (60_exceptions.md R1001). -/
def State.raise (s : State) (f : FaultRecord) : State := { s with fault := some f }

/-! ### Memory (20_memory.md R204, R205) -/

/-- The byte listed at an address, none when no agent has written it. -/
def Memory.find : Memory → Nat → Option Byte
  | [], _ => none
  | (k, b) :: rest, a => if k = a then some b else Memory.find rest a

/-- Sets one byte, keeping the addresses strictly rising. -/
def Memory.write : Memory → Nat → Byte → Memory
  | [], a, b => [(a, b)]
  | (k, c) :: rest, a, b =>
    if a < k then (a, b) :: (k, c) :: rest
    else if a = k then (a, b) :: rest
    else (k, c) :: Memory.write rest a b

/-- `MemWrite(a, n, v)`: n bytes, least significant first (20_memory.md R205). -/
def Memory.writeN (m : Memory) (a v : Nat) : Nat → Memory
  | 0 => m
  | n + 1 => Memory.writeN (m.write a (BitVec.ofNat 8 v)) (a + 1) (v / 256) n

/-- Whether an address is listed above a bound. -/
def Memory.above (lo : Nat) : Memory → Bool
  | [] => true
  | (k, _) :: _ => lo < k

/-- The canonical form: addresses strictly rising. An unlisted byte has no fixed value, so no listed value is redundant (log
entry 3). -/
def Memory.wf : Memory → Bool
  | [] => true
  | (k, _) :: rest => Memory.above k rest && Memory.wf rest

/-- Every listed address lies in RAM (20_memory.md R201). -/
def Memory.inRam (p : Params) (m : Memory) : Bool :=
  m.all fun c => p.ramBase ≤ c.1 && c.1 < p.ramBase + p.ramSize

/-- `byte(x)` for x in RAM: the byte written there last, else a free value drawn in this step
(70_reset_and_hazards.md R1100; log entry 3). -/
def State.byteAt (s : State) (a : Nat) : Byte :=
  match s.ram.find a with
  | some b => b
  | none => Config.freeByte s.stepNo a

/-- The number read from n bytes at an address, least significant first (20_memory.md R205). -/
def State.memNat (s : State) (a : Nat) : Nat → Nat
  | 0 => 0
  | n + 1 => (s.byteAt a).toNat + 256 * State.memNat s (a + 1) n

/-- `MemRead(a, n)` for a..a+n-1 inside RAM (20_memory.md R205). -/
def State.memRead (s : State) (n : Size) (a : Nat) : Word := BitVec.ofNat 32 (s.memNat a n.bytes)

/-- `MemWrite(a, n, v)` for a..a+n-1 inside RAM (20_memory.md R205). -/
def State.memWrite (s : State) (n : Size) (a : Nat) (v : Word) : State :=
  { s with ram := s.ram.writeN a v.toNat n.bytes }

/-- `MemRead` inside TRIM: byte `off` or the halfword of `TRIM_VALUE`, little-endian (20_memory.md R205). -/
def State.trimRead (s : State) (n : Size) (off : BitVec 1) : Word :=
  match n with
  | .b1 => (s.trim.extractLsb' (8 * off.toNat) 8).setWidth 32
  | .b2 => s.trim.setWidth 32
  | .b4 => s.trim.setWidth 32

/-- The RAM address of an offset. -/
def State.ramAddr (s : State) (off : BitVec 32) : Nat := s.params.ramBase + off.toNat

/-! ### Activities (40_bus.md R401 to R404, R427) -/

/-- The top activity: the only one that executes statements. -/
def State.top (s : State) : Activity :=
  match s.handlers with
  | [] => s.bg
  | h :: _ => h

/-- Replaces the top activity. -/
def State.setTop (s : State) (a : Activity) : State :=
  { s with
    bg := match s.handlers with
      | [] => a
      | _ :: _ => s.bg
    handlers := match s.handlers with
      | [] => []
      | _ :: rest => a :: rest }

/-- The statement at an activity's position, none past the end of its list. -/
def Activity.current (a : Activity) : Option Stmt := a.prog[a.pc]?

/-- The position after `pc` in `prog`: when an expansion is at its end, the statement after the CALL in its caller (40_bus.md
R427; log entry 7). -/
def unwind (prog : Prog) (pc : Nat) : List (Prog × Nat) → Prog × Nat × List (Prog × Nat)
  | [] => (prog, pc, [])
  | (p, q) :: rest =>
    if pc < prog.length then (prog, pc, (p, q) :: rest) else unwind p (q + 1) rest

/-- `pc <- L` in the list of the current statement (40_bus.md R404). -/
def Activity.jump (a : Activity) (l : Nat) : Activity :=
  let u := unwind a.prog l a.calls
  { a with prog := u.1, pc := u.2.1, calls := u.2.2, polls := 0, waits := 0 }

/-- `pc <- pc + 1` (40_bus.md R404). -/
def Activity.next (a : Activity) : Activity := a.jump (a.pc + 1)

/-- Enters an expansion: its statements run as those of the calling activity (40_bus.md R427; log entry 7). -/
def Activity.expand (a : Activity) (body : Prog) : Activity :=
  { a with prog := body, pc := 0, calls := (a.prog, a.pc) :: a.calls, polls := 0, waits := 0 }

/-- The value of a local, none when the activity has not written it (40_bus.md R402). -/
def findLocal : List (LocalName × Word) → LocalName → Option Word
  | [], _ => none
  | (y, v) :: rest, x => if y = x then some v else findLocal rest x

/-- Writes a local in a list of locals. -/
def writeLocal : List (LocalName × Word) → LocalName → Word → List (LocalName × Word)
  | [], x, v => [(x, v)]
  | (y, w) :: rest, x, v => if y = x then (y, v) :: rest else (y, w) :: writeLocal rest x v

/-- `x[i] <- v` (40_bus.md R402). -/
def Activity.setLocal (a : Activity) (x : LocalName) (v : Word) : Activity :=
  { a with loc := writeLocal a.loc x v }

/-- The top activity moves to its next statement. -/
def State.advance (s : State) : State := s.setTop s.top.next

/-! ### Interrupt levels, entry and return (60_exceptions.md R1020, R1030, R1033) -/

/-- The fixed level of a line: 0 for line 0, 1 for the DMA lines (60_exceptions.md R1020). -/
def Line.level (k : Line) : Nat := if k.val = 0 then 0 else 1

/-- The activity `(VEC(k), 0, {}, level(k), k)` (60_exceptions.md R1030). A line without a handler program gets an empty list;
rule R1012 lets no such line be enabled (log entry 21). -/
def State.handlerActivity (s : State) (k : Line) : Activity where
  prog := s.vec[k].getD []
  pc := 0
  calls := []
  loc := []
  lvl := Line.level k
  line := some k
  polls := 0
  waits := 0

/-- Interrupt entry at line k: its number on `h.INTC.stack`, its activity on the host's stack; nothing else is saved
(60_exceptions.md R1030). -/
def State.enterLine (s : State) (k : Line) : State :=
  { s with
    intc := { s.intc with stack := k :: s.intc.stack }
    handlers := s.handlerActivity k :: s.handlers }

/-- `RET` (60_exceptions.md R1033, 40_bus.md R426): in the background it is out of range; in a handler of line k it needs its
EOI written, then pops the activity. -/
def State.leaveHandler (s : State) : Except FaultRecord State :=
  match s.handlers with
  | [] => .error ⟨.hostPcRange, .none⟩
  | h :: rest =>
    match h.line with
    | some k => if s.intc.stack.head? = some k then .error (FaultRecord.ofNat .intcNoEoi k.val)
                else .ok { s with handlers := rest }
    | none => .ok { s with handlers := rest }

/-- The info `line or none` of `HOST_PC_RANGE` (60_exceptions.md R1002). -/
def lineInfo : Option Line → FaultInfo
  | some k => .num k.val
  | none => .none

/-! ### ADC units by number -/

/-- ADC unit u. -/
def State.adc (s : State) : AdcUnit → Adc
  | .one => s.adc1
  | .two => s.adc2

/-- Replaces ADC unit u. -/
def State.setAdc (s : State) (u : AdcUnit) (a : Adc) : State :=
  { s with
    adc1 := match u with
      | .one => a
      | .two => s.adc1
    adc2 := match u with
      | .one => s.adc2
      | .two => a }

/-- The number u of a unit. -/
def AdcUnit.num : AdcUnit → Nat
  | .one => 1
  | .two => 2

/-- Replaces DMA channel c. -/
def State.setDma (s : State) (c : Fin 16) (d : DmaChannel) : State := { s with dma := s.dma.set c d }

/-! ### Outcomes -/

/-- What performing one host statement gives. -/
inductive StmtResult where
  /-- The statement's step, or one unit of it, is done. -/
  | done (s : State)
  /-- The operation has no step in this state (00_scope.md R11). -/
  | hold
  /-- It raises a fatal fault. -/
  | fault (f : FaultRecord)
  deriving DecidableEq, Repr

/-- What reading a register gives (40_bus.md R410). -/
inductive ReadResult where
  /-- The register's 32-bit read value, and the state with the read's side effect. -/
  | value (v : Word) (s : State)
  /-- The read holds (44_cordic.md R814). -/
  | hold
  /-- The read raises a fault. -/
  | fault (f : FaultRecord)
  deriving DecidableEq, Repr

/-- The outcome of a host statement in state s: a fault is the state before the step plus the record (60_exceptions.md R1001;
log entry 4), a hold leaves the state as it is (log entry 5). -/
def Cpu.outcome (s : State) : StmtResult → Host.Outcome State Fault Refusal
  | .done t => .next t
  | .hold => .next s
  | .fault f => .next (s.raise f)

end Sys2Proof.Machine
end

