-- ==== Sys2Proof/Machine/Float.lean ====
section
/-! DEFINITION. binary32 arithmetic (00_scope.md R12, R13; log entry 30): every operation computes the exact result over the
rationals and rounds it once, to nearest, ties to even, with subnormals kept. A finite value is held exactly as an integer
multiple of 2^-149. -/
namespace Sys2Proof.Machine

/-- The canonical quiet NaN (00_scope.md R12). -/
def F32.canonNan : Word := 0x7FC00000#32

/-- The biased exponent field. -/
def F32.expo (f : Word) : Nat := (f.toNat / 2 ^ 23) % 2 ^ 8

/-- The fraction field. -/
def F32.frac (f : Word) : Nat := f.toNat % 2 ^ 23

/-- The sign bit. -/
def F32.sign (f : Word) : Bool := f.msb

def F32.isNan (f : Word) : Bool := F32.expo f = 255 && F32.frac f ≠ 0

def F32.isInf (f : Word) : Bool := F32.expo f = 255 && F32.frac f = 0

/-- A finite value: neither NaN nor an infinity. -/
def F32.isFinite (f : Word) : Bool := F32.expo f ≠ 255

/-- The magnitude of a finite value in units of 2^-149, exactly. -/
def F32.mag (f : Word) : Nat :=
  if F32.expo f = 0 then F32.frac f else (F32.frac f + 2 ^ 23) * 2 ^ (F32.expo f - 1)

/-- `real(f)` of a finite value in units of 2^-149 (00_scope.md R12). -/
def F32.scaled (f : Word) : Int := if F32.sign f then -(F32.mag f : Int) else F32.mag f

/-- The bit pattern with a sign bit and a 31-bit magnitude. -/
def F32.pack (neg : Bool) (bits : Nat) : Word := BitVec.ofNat 32 (bits + if neg then 2 ^ 31 else 0)

/-- A signed infinity. -/
def F32.inf (neg : Bool) : Word := F32.pack neg 0x7F800000

/-- A signed zero. -/
def F32.zero (neg : Bool) : Word := F32.pack neg 0

/-- n/d to the nearest integer, ties to even. -/
def roundEven (n d : Nat) : Nat :=
  let q := n / d
  let r := n % d
  if d < 2 * r || (2 * r = d && q % 2 = 1) then q + 1 else q

/-- n/d to the nearest integer, halves away from zero, for n and d natural (`rha`, 00_scope.md R12). -/
def roundHalfAway (n d : Nat) : Nat := (2 * n + d) / (2 * d)

/-- The binary32 nearest the magnitude `num/den` units of 2^-149 with a sign, ties to even; a magnitude that rounds past the
largest finite value gives the infinity (00_scope.md R12). -/
def F32.round (neg : Bool) (num den : Nat) : Word :=
  let sh := (num / den).log2 - 23
  let bits := roundEven num (den * 2 ^ sh) + sh * 2 ^ 23
  F32.pack neg (min bits 0x7F800000)

/-- `neg(f)`: flips the sign bit (00_scope.md R12). -/
def F32.neg (f : Word) : Word := f ^^^ 0x80000000#32

/-- `a (+) b` (00_scope.md R12). -/
def F32.add (a b : Word) : Word :=
  if F32.isNan a || F32.isNan b then F32.canonNan
  else if F32.isInf a then
    if F32.isInf b && F32.sign a != F32.sign b then F32.canonNan else a
  else if F32.isInf b then b
  else
    let r := F32.scaled a + F32.scaled b
    if r = 0 then F32.zero (F32.sign a && F32.sign b) else F32.round (r < 0) r.natAbs 1

/-- `a (-) b` (00_scope.md R12). -/
def F32.sub (a b : Word) : Word := F32.add a (F32.neg b)

/-- `a (*) b` (00_scope.md R12). -/
def F32.mul (a b : Word) : Word :=
  let neg := F32.sign a != F32.sign b
  if F32.isNan a || F32.isNan b then F32.canonNan
  else if F32.isInf a then
    if F32.isFinite b && F32.mag b = 0 then F32.canonNan else F32.inf neg
  else if F32.isInf b then
    if F32.mag a = 0 then F32.canonNan else F32.inf neg
  else F32.round neg (F32.mag a * F32.mag b) (2 ^ 149)

/-- `a (/) b` (00_scope.md R12). -/
def F32.div (a b : Word) : Word :=
  let neg := F32.sign a != F32.sign b
  if F32.isNan a || F32.isNan b then F32.canonNan
  else if F32.isInf a then
    if F32.isInf b then F32.canonNan else F32.inf neg
  else if F32.isInf b then F32.zero neg
  else if F32.mag b = 0 then
    if F32.mag a = 0 then F32.canonNan else F32.inf neg
  else F32.round neg (F32.mag a * 2 ^ 149) (F32.mag b)

/-- The value of a number or an infinity as a key that orders as the value does: the exact multiple of 2^-149; 2^300,
above all of them, stands for an infinity. -/
def F32.key (f : Word) : Int :=
  if F32.isInf f then (if F32.sign f then -(2 ^ 150 * 2 ^ 150 : Int) else 2 ^ 150 * 2 ^ 150) else F32.scaled f

/-- IEEE `a < b`; false with a NaN (40_bus.md R424). -/
def F32.lt (a b : Word) : Bool := !F32.isNan a && !F32.isNan b && F32.key a < F32.key b

/-- IEEE `a <= b`; false with a NaN. -/
def F32.le (a b : Word) : Bool := !F32.isNan a && !F32.isNan b && F32.key a ≤ F32.key b

/-- IEEE `a = b`; false with a NaN, and the two zeros are equal. -/
def F32.eq (a b : Word) : Bool := !F32.isNan a && !F32.isNan b && F32.key a = F32.key b

/-- `f32(x)` of an integer (00_scope.md R12). -/
def F32.ofInt (x : Int) : Word := F32.round (x < 0) (x.natAbs * 2 ^ 149) 1

/-- `cvt_u(f)`: truncation with saturation (00_scope.md R12). -/
def F32.cvtU (f : Word) : Int :=
  if F32.isNan f then 0
  else if F32.key f ≤ 0 then 0
  else if F32.isInf f then 2 ^ 32 - 1
  else min (F32.mag f / 2 ^ 149 : Nat) (2 ^ 32 - 1 : Nat)

/-- `f32(sext_32(q) / 2^31)` (44_cordic.md R821). -/
def F32.ofQ31 (q : Word) : Word := F32.round (q.toInt < 0) (q.toInt.natAbs * 2 ^ 118) 1

/-- `q31(v)`: halves away from zero, saturated; none outside [-1, 1) and for NaN (44_cordic.md R820). -/
def F32.toQ31 (f : Word) : Option Word :=
  if F32.isNan f || F32.key f < -(2 ^ 149 : Int) || F32.key f ≥ 2 ^ 149 then none
  else
    let r := roundHalfAway (F32.mag f) (2 ^ 118)
    let v : Int := if F32.sign f then -(r : Int) else r
    some (BitVec.ofInt 32 (max (-(2 ^ 31 : Int)) (min v (2 ^ 31 - 1))))

/-- `clamp01(u)` (45_xform.md R864). -/
def F32.clamp01 (u : Word) : Word :=
  if F32.isNan u || F32.le u 0 then 0
  else if F32.le Config.one u then Config.one
  else u

/-- The larger of two under the IEEE order, NaN if either is NaN (45_xform.md R864). -/
def F32.max (a b : Word) : Word :=
  if F32.isNan a || F32.isNan b then F32.canonNan else if F32.lt a b then b else a

/-- The smaller of two under the IEEE order, NaN if either is NaN (45_xform.md R864). -/
def F32.min (a b : Word) : Word :=
  if F32.isNan a || F32.isNan b then F32.canonNan else if F32.lt b a then b else a

end Sys2Proof.Machine
end

