-- ==== Sys2Proof/Machine/Operands.lean ====
section
/-! DEFINITION. Operand forms: the byte lane of a register read (20_memory.md R208), the expressions of host programs
(40_bus.md R402, R424), and what a host read or write does with its result (40_bus.md R420 to R422). -/
namespace Sys2Proof.Machine

/-! ### Lanes -/

/-- `(v >> 8*((a - base) & 3)) & (2^(8n) - 1)` (20_memory.md R208). -/
def Lane.take : Lane → Word → Word
  | .word, v => v
  | .half0, v => (v.extractLsb' 0 16).setWidth 32
  | .half1, v => (v.extractLsb' 16 16).setWidth 32
  | .byte0, v => (v.extractLsb' 0 8).setWidth 32
  | .byte1, v => (v.extractLsb' 8 8).setWidth 32
  | .byte2, v => (v.extractLsb' 16 8).setWidth 32
  | .byte3, v => (v.extractLsb' 24 8).setWidth 32

/-- `v mod 2^(8n)` of the value a write of size n takes (40_bus.md R421). -/
def Size.trunc : Size → Word → Word
  | .b4, v => v
  | .b2, v => (v.extractLsb' 0 16).setWidth 32
  | .b1, v => (v.extractLsb' 0 8).setWidth 32

/-! ### Integer operators (40_bus.md R424, 00_scope.md R10)

The spec gives the bit operators no width: integers are exact, so the model takes a negative integer as its infinite two's complement,
and only what is stored is reduced modulo 2^32 (DESIGN CHOICE, log entry 33). -/

/-- 1 if P holds, else 0. -/
def Int.ofBool (b : Bool) : Int := if b then 1 else 0

/-- `m & ~n` on natural numbers. -/
def Nat.andNot (m n : Nat) : Nat := m ^^^ (m &&& n)

/-- `a & b`; a negative integer as its infinite two's complement (log entry 33). -/
def intAnd : Int → Int → Int
  | .ofNat m, .ofNat n => .ofNat (m &&& n)
  | .ofNat m, .negSucc n => .ofNat (Nat.andNot m n)
  | .negSucc m, .ofNat n => .ofNat (Nat.andNot n m)
  | .negSucc m, .negSucc n => .negSucc (m ||| n)

/-- `a | b`; a negative integer as its infinite two's complement (log entry 33). -/
def intOr : Int → Int → Int
  | .ofNat m, .ofNat n => .ofNat (m ||| n)
  | .ofNat m, .negSucc n => .negSucc (Nat.andNot n m)
  | .negSucc m, .ofNat n => .negSucc (Nat.andNot m n)
  | .negSucc m, .negSucc n => .negSucc (m &&& n)

/-- `a ^ b`; a negative integer as its infinite two's complement (log entry 33). -/
def intXor : Int → Int → Int
  | .ofNat m, .ofNat n => .ofNat (m ^^^ n)
  | .ofNat m, .negSucc n => .negSucc (m ^^^ n)
  | .negSucc m, .ofNat n => .negSucc (m ^^^ n)
  | .negSucc m, .negSucc n => .ofNat (m ^^^ n)

/-- `a div b`: floor division of non-negative integers; a free value elsewhere (00_scope.md R12; log entry 12). -/
def intDiv (a b : Int) : Int := if 0 ≤ a ∧ 0 < b then a / b else Config.freeDiv a b

/-- `a mod b` of non-negative integers; a free value elsewhere (log entry 12). -/
def intMod (a b : Int) : Int := if 0 ≤ a ∧ 0 < b then a % b else Config.freeMod a b

/-- `a << b`, exact; a free value for a negative amount (log entry 12). -/
def intShl (a b : Int) : Int := if 0 ≤ b then a * 2 ^ b.toNat else Config.freeShl a b

/-- `a >> b`, the floor of the quotient, also of a negative integer (log entry 33); a free value for a negative amount (log entry 12). -/
def intShr (a b : Int) : Int := if 0 ≤ b then a / 2 ^ b.toNat else Config.freeShr a b

/-- The operators of one operand; only `q31` can fault (44_cordic.md R820). `~a` is `-a - 1` on the exact integers, not a complement of
32 bits, so a later `>>` or comparison sees a negative integer (DESIGN CHOICE, log entry 33). A binary32 operand is the u32 bit pattern
(40_bus.md R402; log entry 16). -/
def evalUn : UnOp → Int → Except FaultRecord Int
  | .bitNot, a => .ok (-a - 1)
  | .boolNot, a => .ok (Int.ofBool (a == 0))
  | .f32OfInt, a => .ok (F32.ofInt a).toNat
  | .cvtU, a => .ok (F32.cvtU (Word.ofInt a))
  | .fNeg, a => .ok (F32.neg (Word.ofInt a)).toNat
  | .q31OfF32, a =>
    match F32.toQ31 (Word.ofInt a) with
    | some q => .ok q.toNat
    | none => .error (FaultRecord.ofWord .q31Domain (Word.ofInt a))
  | .f32OfQ31, a => .ok (F32.ofQ31 (Word.ofInt a)).toNat

/-- The operators of two operands (40_bus.md R424). Which comparisons there are is DESIGN CHOICE: see `BinOp` (log entry 35). -/
def evalBin : BinOp → Int → Int → Int
  | .add, a, b => a + b
  | .sub, a, b => a - b
  | .mul, a, b => a * b
  | .div, a, b => intDiv a b
  | .mod, a, b => intMod a b
  | .shl, a, b => intShl a b
  | .shr, a, b => intShr a b
  | .bitAnd, a, b => intAnd a b
  | .bitOr, a, b => intOr a b
  | .bitXor, a, b => intXor a b
  | .eq, a, b => Int.ofBool (a == b)
  | .ne, a, b => Int.ofBool (a != b)
  | .lt, a, b => Int.ofBool (decide (a < b))
  | .le, a, b => Int.ofBool (decide (a ≤ b))
  | .gt, a, b => Int.ofBool (decide (b < a))
  | .ge, a, b => Int.ofBool (decide (b ≤ a))
  | .min, a, b => if a ≤ b then a else b
  | .max, a, b => if a ≤ b then b else a
  | .boolAnd, a, b => Int.ofBool (a != 0 && b != 0)
  | .boolOr, a, b => Int.ofBool (a != 0 || b != 0)
  | .fAdd, a, b => (F32.add (Word.ofInt a) (Word.ofInt b)).toNat
  | .fSub, a, b => (F32.sub (Word.ofInt a) (Word.ofInt b)).toNat
  | .fMul, a, b => (F32.mul (Word.ofInt a) (Word.ofInt b)).toNat
  | .fDiv, a, b => (F32.div (Word.ofInt a) (Word.ofInt b)).toNat
  | .fEq, a, b => Int.ofBool (F32.eq (Word.ofInt a) (Word.ofInt b))
  | .fLt, a, b => Int.ofBool (F32.lt (Word.ofInt a) (Word.ofInt b))
  | .fLe, a, b => Int.ofBool (F32.le (Word.ofInt a) (Word.ofInt b))
  | .fGt, a, b => Int.ofBool (F32.lt (Word.ofInt b) (Word.ofInt a))
  | .fGe, a, b => Int.ofBool (F32.le (Word.ofInt b) (Word.ofInt a))

/-- The value of an expression over an activity's locals, exact over the integers; operands left to right, and only the chosen
arm of a conditional (40_bus.md R424; log entry 14). A local not written is the fault `HOST_UNDEF_LOCAL` (R402). -/
def Expr.eval (env : List (LocalName × Word)) : Expr → Except FaultRecord Int
  | .num v => .ok v
  | .loc x =>
    match findLocal env x with
    | some v => .ok v.toNat
    | none => .error ⟨.hostUndefLocal, .loc x⟩
  | .un op a =>
    match Expr.eval env a with
    | .error f => .error f
    | .ok v => evalUn op v
  | .bin op a b =>
    match Expr.eval env a with
    | .error f => .error f
    | .ok v =>
      match Expr.eval env b with
      | .error f => .error f
      | .ok w => .ok (evalBin op v w)
  | .cond c a b =>
    match Expr.eval env c with
    | .error f => .error f
    | .ok v => if v ≠ 0 then Expr.eval env a else Expr.eval env b

/-- The value of an expression in the top activity. -/
def State.eval (s : State) (e : Expr) : Except FaultRecord Int := Expr.eval s.top.loc e

/-- The u32 value of an expression in the top activity (log entry 14). -/
def State.evalWord (s : State) (e : Expr) : Except FaultRecord Word :=
  match s.eval e with
  | .error f => .error f
  | .ok v => .ok (Word.ofInt v)

/-! ### What a host read does with its result -/

/-- Where the result of the current statement's read goes (log entry 10). -/
inductive Sink where
  /-- `RD x, A`: into local x (40_bus.md R420). -/
  | store (x : LocalName)
  /-- `POLL A, M, V`: compared under the mask (40_bus.md R422). -/
  | poll (a m v : Word)
  /-- The current statement is no read: the result is only the transaction's. -/
  | drop
  deriving DecidableEq, Repr

/-- The destination the current statement names. -/
def State.sink (s : State) : Except FaultRecord Sink :=
  match s.top.current with
  | some (.rd x _ _) => .ok (.store x)
  | some (.poll a m v) =>
    match s.evalWord a with
    | .error f => .error f
    | .ok wa =>
      match s.evalWord m with
      | .error f => .error f
      | .ok wm =>
        match s.evalWord v with
        | .error f => .error f
        | .ok wv => .ok (.poll wa wm wv)
  | _ => .ok .drop

/-- Whether `POLL_LIMIT` is finite and equals n (40_bus.md R422). -/
def State.pollLimitReached (s : State) (n : Nat) : Bool := s.params.pollLimit == some n

/-- The read's result r reaches the host: `x[x] <- r; pc <- pc + 1` for a RD; for a POLL the position moves only when
`(r & M) == V`, otherwise the count goes up and the limit may be reached (40_bus.md R420, R422). -/
def State.absorb (s : State) (k : Sink) (r : Word) : StmtResult :=
  let t : State := { s with busData := r }
  match k with
  | .store x => .done ((t.setTop (t.top.setLocal x r)).advance)
  | .drop => .done t.advance
  | .poll a m v =>
    if r &&& m = v then .done t.advance
    else if s.pollLimitReached (s.top.polls + 1) then .fault (FaultRecord.ofWord .hwTimeout a)
    else .done (t.setTop { t.top with polls := t.top.polls + 1 })

/-- A host read of one lane of a register whose read gives `r`. -/
def Cpu.finishRead (s : State) (lane : Lane) (r : ReadResult) : StmtResult :=
  match s.sink with
  | .error f => .fault f
  | .ok k =>
    match r with
    | .hold => .hold
    | .fault f => .fault f
    | .value v t => t.absorb k (Lane.take lane v)

/-- A host write whose effect is `r`, then `pc <- pc + 1` (40_bus.md R421). -/
def Cpu.finishWrite (r : Except FaultRecord State) : StmtResult :=
  match r with
  | .error f => .fault f
  | .ok t => .done t.advance

/-- A host read of a register, as one step. -/
def Cpu.runRead (s : State) (lane : Lane) (r : ReadResult) : Host.Outcome State Fault Refusal :=
  Cpu.outcome s (Cpu.finishRead s lane r)

/-- A host write, as one step. -/
def Cpu.runWrite (s : State) (r : Except FaultRecord State) : Host.Outcome State Fault Refusal :=
  Cpu.outcome s (Cpu.finishWrite r)

end Sys2Proof.Machine
end

