-- ==== Sys2Proof/Machine/Flags.lean ====
section
/-! DEFINITION. The flags and views computed from other state: requests to DMA and to the dispatcher, line assertion, and the
line an entry takes (10_state.md R160; 42_adc.md R600, R643, R650; 43_dma.md R700, R742, R745; 44_cordic.md R800;
60_exceptions.md R1010, R1020, R1021, R1030). -/
namespace Sys2Proof.Machine

/-! ### ADC -/

/-- `ISR.LDORDY` (42_adc.md R600). -/
def Adc.ldordy (a : Adc) : Bool := a.vreg == .ready

/-- Unit u is Running (42_adc.md R608). -/
def Adc.running (a : Adc) : Bool := a.adstart || a.jadstart

/-- `dreq(u)` (42_adc.md R643). -/
def Adc.dreq (a : Adc) : Bool := a.dmaen && a.isr.eoc

/-- `irq(u)` (42_adc.md R650). -/
def Adc.irq (a : Adc) : Bool :=
  (a.isr.adrdy && a.ier.adrdy) || (a.isr.eoc && a.ier.eoc) || (a.isr.eos && a.ier.eos) ||
  (a.isr.ovr && a.ier.ovr) || (a.isr.jeoc && a.ier.jeoc) || (a.isr.jeos && a.ier.jeos)

/-! ### DMA: the fields of CCR bits 11:1 (10_state.md R131) -/

def DmaChannel.tcie (d : DmaChannel) : Bool := d.cfg.getLsbD 0
def DmaChannel.htie (d : DmaChannel) : Bool := d.cfg.getLsbD 1
def DmaChannel.teie (d : DmaChannel) : Bool := d.cfg.getLsbD 2
/-- CCR.DIR: true is memory to peripheral. -/
def DmaChannel.dir (d : DmaChannel) : Bool := d.cfg.getLsbD 3
def DmaChannel.circ (d : DmaChannel) : Bool := d.cfg.getLsbD 4
def DmaChannel.pinc (d : DmaChannel) : Bool := d.cfg.getLsbD 5
def DmaChannel.minc (d : DmaChannel) : Bool := d.cfg.getLsbD 6
def DmaChannel.psize (d : DmaChannel) : BitVec 2 := d.cfg.extractLsb' 7 2
def DmaChannel.msize (d : DmaChannel) : BitVec 2 := d.cfg.extractLsb' 9 2

/-- The channel is "active": `CCR.EN` reads 1, which it also does while a stop waits for acknowledgement (43_dma.md R700, R701; log
entry 34). -/
def DmaChannel.active (d : DmaChannel) : Bool := d.en || d.stopping

/-- `CISR.GIF` (43_dma.md R700). -/
def DmaChannel.gif (d : DmaChannel) : Bool := d.tcif || d.htif || d.teif

/-- `irq_dma(c)` (43_dma.md R745). -/
def DmaChannel.irq (d : DmaChannel) : Bool := (d.tcif && d.tcie) || (d.htif && d.htie) || (d.teif && d.teie)

/-- `dreq(r)` of request ID r; only 1 and 2 request (43_dma.md R742). -/
def State.dreqOf (s : State) (r : BitVec 7) : Bool :=
  if r = 1 then s.adc1.dreq else if r = 2 then s.adc2.dreq else false

/-- `CCR.EN = 1, stopping = 0`: the channel can be served. -/
def State.dmaLive (s : State) (c : Fin 16) : Bool := s.dma[c].en && !s.dma[c].stopping

/-- `req(c)` (43_dma.md R742). -/
def State.dmaReq (s : State) (c : Fin 16) : Bool :=
  s.dreqOf s.dmamux[c] && s.dmaLive c &&
  (List.finRange 16).all fun b => !(b < c && s.dmaLive b && s.dmamux[b] == s.dmamux[c])

/-- The channel a beat serves: the lowest with EN = 1, stopping = 0 and a request (43_dma.md R730). -/
def State.beatChannel (s : State) : Option (Fin 16) :=
  (List.finRange 16).find? fun c => s.dmaLive c && s.dmaReq c

/-! ### CORDIC -/

/-- `CSR.RRDY` (44_cordic.md R800). -/
def Cordic.rrdy (k : Cordic) : Bool := !k.busy && k.left != 0

/-! ### The dispatcher -/

/-- `asserted(k)` (60_exceptions.md R1021). -/
def State.asserted (s : State) (k : Line) : Bool :=
  if h : k.val = 0 then s.adc1.irq || s.adc2.irq
  else (s.dma[k.val - 1]'(by omega)).irq

/-- `curlvl`: the level `CURPRI` reads (60_exceptions.md R1010). -/
def Intc.curlvl (i : Intc) : Nat :=
  match i.stack with
  | [] => 2
  | k :: _ => Line.level k

/-- Line k may be entered: enabled, asserted and above the running level (60_exceptions.md R1030). -/
def State.eligible (s : State) (k : Line) : Bool :=
  s.intc.ier.getLsbD k.val && s.asserted k && decide (Line.level k < s.intc.curlvl)

/-- The line an entry takes, if one is enabled: the eligible line of the lowest level, then of the lowest number. Line 0 alone has
level 0 and the rest level 1, so that is the lowest eligible number (60_exceptions.md R1030). -/
def State.entryLine (s : State) : Option Line :=
  if s.intc.gen then (List.finRange 17).find? s.eligible else none

/-- `IPR`: bit k is `asserted(k)` (60_exceptions.md R1010). -/
def State.ipr (s : State) : Word := (BitVec.ofFnLE fun k : Fin 17 => s.asserted k).setWidth 32

/-- `IABR`: bit k is whether line k is on the stack (60_exceptions.md R1010). -/
def Intc.iabr (i : Intc) : Word := (BitVec.ofFnLE fun k : Fin 17 => i.stack.contains k).setWidth 32

/-- `CURPRI` (60_exceptions.md R1010). -/
def Intc.curpri (i : Intc) : Word := BitVec.ofNat 32 i.curlvl

/-- `ACTIVE`: the line at the head of the stack, or 0x1F (60_exceptions.md R1010). -/
def Intc.active (i : Intc) : Word :=
  match i.stack with
  | [] => 0x1F#32
  | k :: _ => BitVec.ofNat 32 k.val

end Sys2Proof.Machine
end

