-- ==== Sys2Proof/Machine/Adc.lean ====
section
/-! DEFINITION. The two ADC units (42_adc.md): register reads and writes, handshakes and conversions; then the meaning of each
ADC transaction. -/
namespace Sys2Proof.Machine

/-! ### Register reads (42_adc.md R600, R621) -/

/-- The flags at their bits of `ISR` or `IER` (10_state.md R121, R122). -/
def AdcFlags.toWord (f : AdcFlags) : Word :=
  Word.ofBit 0 f.adrdy ||| Word.ofBit 2 f.eoc ||| Word.ofBit 3 f.eos ||| Word.ofBit 4 f.ovr |||
  Word.ofBit 5 f.jeoc ||| Word.ofBit 6 f.jeos

/-- The value of `CR` (10_state.md R123). -/
def Adc.readCr (a : Adc) : Word :=
  Word.ofBit 0 a.aden ||| Word.ofBit 2 a.adstart ||| Word.ofBit 3 a.jadstart ||| Word.ofBit 28 a.advregen |||
  Word.ofBit 29 a.deeppwd ||| Word.ofBit 30 a.adcaldif ||| Word.ofBit 31 a.adcal

/-- The value of `SQR1` (10_state.md R126). -/
def Adc.readSqr1 (a : Adc) : Word :=
  Word.ofField 0 a.sqLen ||| Word.ofField 6 a.sq[0] ||| Word.ofField 12 a.sq[1] ||| Word.ofField 18 a.sq[2] |||
  Word.ofField 24 a.sq[3]

/-- The value of `JSQR` (10_state.md R128). -/
def Adc.readJsqr (a : Adc) : Word :=
  Word.ofField 0 a.jsqLen ||| Word.ofField 2 a.jextsel ||| Word.ofField 7 a.jexten ||| Word.ofField 9 a.jsq[0] |||
  Word.ofField 15 a.jsq[1] ||| Word.ofField 21 a.jsq[2] ||| Word.ofField 27 a.jsq[3]

/-- The 32-bit value an ADC register reads (42_adc.md R600, R621). -/
def Adc.read (a : Adc) : AdcReg → Word
  | .isr => a.isr.toWord ||| Word.ofBit 12 a.ldordy
  | .ier => a.ier.toWord
  | .cr => a.readCr
  | .cfgr => Word.ofBit 0 a.dmaen ||| Word.ofBit 12 a.ovrmod ||| Word.ofBit 13 a.cont
  | .smpr1 => a.smpr1.setWidth 32
  | .smpr2 => a.smpr2.setWidth 32
  | .sqr1 => a.readSqr1
  | .dr => a.dr.setWidth 32
  | .jsqr => a.readJsqr
  | .jdr1 => a.jdr[0].setWidth 32
  | .jdr2 => a.jdr[1].setWidth 32
  | .jdr3 => a.jdr[2].setWidth 32
  | .jdr4 => a.jdr[3].setWidth 32

/-- The read of `DR`: `EOC <- 0` in the same step (42_adc.md R621). -/
def Adc.clearEoc (a : Adc) : Adc := { a with isr := { a.isr with eoc := false } }

/-- A read of an ADC register that has no side effect (42_adc.md R600). -/
def State.adcRead (s : State) (u : AdcUnit) (r : AdcReg) : ReadResult := .value ((s.adc u).read r) s

/-- A read of `DR` of unit u (42_adc.md R621). -/
def State.adcReadDr (s : State) (u : AdcUnit) : ReadResult :=
  .value ((s.adc u).read .dr) (s.setAdc u (s.adc u).clearEoc)

/-! ### Register writes (42_adc.md R601 to R607) -/

/-- A fault whose info is the unit number u. -/
def unitFault (code : FaultCode) (u : AdcUnit) : FaultRecord := FaultRecord.ofNat code (AdcUnit.num u)

/-- Write of `ISR` (42_adc.md R601): each W1C flag with a 1 at its bit is cleared. -/
def Adc.writeIsr (a : Adc) (v : Word) : Adc :=
  { a with isr := {
      adrdy := a.isr.adrdy && !Word.bit v 0
      eoc := a.isr.eoc && !Word.bit v 2
      eos := a.isr.eos && !Word.bit v 3
      ovr := a.isr.ovr && !Word.bit v 4
      jeoc := a.isr.jeoc && !Word.bit v 5
      jeos := a.isr.jeos && !Word.bit v 6 } }

/-- Write of `IER` (42_adc.md R602). -/
def Adc.writeIer (a : Adc) (v : Word) : Adc :=
  { a with ier := {
      adrdy := Word.bit v 0
      eoc := Word.bit v 2
      eos := Word.bit v 3
      ovr := Word.bit v 4
      jeoc := Word.bit v 5
      jeos := Word.bit v 6 } }

/-- Whether a write of v to `CR` is out of the power, calibration and enable order: one of the six checks of 42_adc.md R603, in
its order. -/
def Adc.crRefused (a : Adc) (v : Word) : Bool :=
  ((a.aden || a.adcal) &&
    (Word.bit v 28 != a.advregen || Word.bit v 29 != a.deeppwd || Word.bit v 30 != a.adcaldif)) ||
  (Word.bit v 28 && Word.bit v 29) ||
  (Word.bit v 31 && !a.adcal && (a.aden || a.vreg != .ready || !Word.bit v 28)) ||
  (Word.bit v 0 && !a.aden && (a.adcal || Word.bit v 31 || a.vreg != .ready)) ||
  (Word.bit v 2 && !a.adstart && a.en != .ready) ||
  (Word.bit v 3 && !a.jadstart && a.en != .ready)

/-- A write of v to `CR` starts a software-started injected sequence (42_adc.md R603). -/
def Adc.crStarts (a : Adc) (v : Word) : Bool := Word.bit v 3 && !a.jadstart && a.jexten == 0 && !a.jact

/-- The effects of a write of v to `CR` on the unit (42_adc.md R603). -/
def Adc.crEffect (a : Adc) (v : Word) : Adc :=
  { a with
    vreg := if Word.bit v 28 && !a.advregen then .starting
      else if !Word.bit v 28 && a.advregen then .off
      else a.vreg
    advregen := Word.bit v 28
    deeppwd := Word.bit v 29
    adcaldif := Word.bit v 30
    adcal := a.adcal || Word.bit v 31
    cal := if Word.bit v 31 && !a.adcal then .running else a.cal
    aden := a.aden || Word.bit v 0
    en := if Word.bit v 0 && !a.aden then .enabling else a.en
    adstart := a.adstart || Word.bit v 2
    rrank := if Word.bit v 2 && !a.adstart then 0 else a.rrank
    jadstart := a.jadstart || Word.bit v 3
    jact := a.jact || a.crStarts v
    jrank := if a.crStarts v then 0 else a.jrank }

/-- Write of `CR` of unit u (42_adc.md R603); a software start clears `h.ADC.paired`. -/
def State.adcWriteCr (s : State) (u : AdcUnit) (v : Word) : Except FaultRecord State :=
  if (s.adc u).crRefused v then .error (unitFault .adcSeq u)
  else .ok { s.setAdc u ((s.adc u).crEffect v) with
    adcPaired := s.adcPaired && !(s.adc u).crStarts v }

/-- Write of `CFGR` of unit u (42_adc.md R604). -/
def Adc.writeCfgr (a : Adc) (u : AdcUnit) (v : Word) : Except FaultRecord Adc :=
  if a.running then .error (unitFault .adcRun u)
  else .ok { a with dmaen := Word.bit v 0, ovrmod := Word.bit v 12, cont := Word.bit v 13 }

/-- Write of `SMPR1` of unit u (42_adc.md R605). -/
def Adc.writeSmpr1 (a : Adc) (u : AdcUnit) (v : Word) : Except FaultRecord Adc :=
  if a.running then .error (unitFault .adcRun u) else .ok { a with smpr1 := Word.field v 0 30 }

/-- Write of `SMPR2` of unit u (42_adc.md R605). -/
def Adc.writeSmpr2 (a : Adc) (u : AdcUnit) (v : Word) : Except FaultRecord Adc :=
  if a.running then .error (unitFault .adcRun u) else .ok { a with smpr2 := Word.field v 0 27 }

/-- The channel fields of a sequence register, each at its bit (10_state.md R126, R128). -/
def rankFields (v : Word) (b1 b2 b3 b4 : Nat) : Vector (BitVec 5) 4 :=
  #v[Word.field v b1 5, Word.field v b2 5, Word.field v b3 5, Word.field v b4 5]

/-- The first channel above `CH_MAX` in ranks 1..len+1 (30_encoding.md R322; log entry 31). -/
def badChannel (chMax : Nat) (len : BitVec 2) (ch : Vector (BitVec 5) 4) : Option Nat :=
  if chMax < ch[0].toNat then some ch[0].toNat
  else if 1 ≤ len.toNat ∧ chMax < ch[1].toNat then some ch[1].toNat
  else if 2 ≤ len.toNat ∧ chMax < ch[2].toNat then some ch[2].toNat
  else if 3 ≤ len.toNat ∧ chMax < ch[3].toNat then some ch[3].toNat
  else none

/-- Write of `SQR1` of unit u (42_adc.md R606). -/
def Adc.writeSqr1 (a : Adc) (chMax : Nat) (u : AdcUnit) (v : Word) : Except FaultRecord Adc :=
  let ch := rankFields v 6 12 18 24
  if a.running then .error (unitFault .adcRun u)
  else
    match badChannel chMax (Word.field v 0 2) ch with
    | some n => .error (FaultRecord.ofNat .adcBadChannel n)
    | none => .ok { a with sqLen := Word.field v 0 2, sq := ch }

/-- Write of `JSQR` of unit u (42_adc.md R607). -/
def Adc.writeJsqr (a : Adc) (chMax : Nat) (u : AdcUnit) (v : Word) : Except FaultRecord Adc :=
  let ch := rankFields v 9 15 21 27
  if a.running then .error (unitFault .adcRun u)
  else if 2 ≤ (Word.field v 2 5).toNat then .error (FaultRecord.ofNat .adcBadTrigger (Word.field v 2 5).toNat)
  else
    match badChannel chMax (Word.field v 0 2) ch with
    | some n => .error (FaultRecord.ofNat .adcBadChannel n)
    | none => .ok { a with
        jsqLen := Word.field v 0 2
        jextsel := Word.field v 2 5
        jexten := Word.field v 7 2
        jsq := ch }

/-- The write rule of each ADC register but `CR`, with `CH_MAX` for the sequences; a write of `DR` or `JDRk` is ignored (42_adc.md R601). -/
def Adc.write (a : Adc) (chMax : Nat) (u : AdcUnit) (r : AdcReg) (v : Word) : Except FaultRecord Adc :=
  match r with
  | .isr => .ok (a.writeIsr v)
  | .ier => .ok (a.writeIer v)
  | .cr => .ok a
  | .cfgr => a.writeCfgr u v
  | .smpr1 => a.writeSmpr1 u v
  | .smpr2 => a.writeSmpr2 u v
  | .sqr1 => a.writeSqr1 chMax u v
  | .dr => .ok a
  | .jsqr => a.writeJsqr chMax u v
  | .jdr1 => .ok a
  | .jdr2 => .ok a
  | .jdr3 => .ok a
  | .jdr4 => .ok a

/-- A write of an ADC register but `CR`, on the state. -/
def State.adcWrite (s : State) (u : AdcUnit) (r : AdcReg) (v : Word) : Except FaultRecord State :=
  match (s.adc u).write s.params.chMax u r v with
  | .error f => .error f
  | .ok a => .ok (s.setAdc u a)

/-! ### The unit's steps (42_adc.md R630 to R648) -/

/-- Regulator ready (42_adc.md R630). -/
def Adc.regulatorReady (a : Adc) : Option Adc := if a.vreg = .starting then some { a with vreg := .ready } else none

/-- Calibration done, with its draw (42_adc.md R631). -/
def Adc.calibrationDone (a : Adc) (draw : Nat) : Option Adc :=
  if a.cal = .running then some { a with calfact := draw, cal := .idle, adcal := false } else none

/-- Enable done (42_adc.md R632). -/
def Adc.enableDone (a : Adc) : Option Adc :=
  if a.en = .enabling then some { a with en := .ready, isr := { a.isr with adrdy := true } } else none

/-- The guard of a regular conversion (42_adc.md R642). -/
def Adc.regularEnabled (a : Adc) : Bool := a.en == .ready && a.adstart && !a.jact

/-- A regular conversion that gives `code` (42_adc.md R642). -/
def Adc.convertRegular (a : Adc) (code : BitVec 16) : Adc :=
  let ovr := a.isr.ovr || a.isr.eoc
  if a.isr.eoc && !a.ovrmod then { a with isr := { a.isr with ovr := ovr }, adstart := false }
  else if a.rrank = a.sqLen then
    { a with
      dr := code
      isr := { a.isr with ovr := ovr, eoc := true, eos := true }
      rrank := 0
      adstart := a.adstart && a.cont }
  else
    { a with
      dr := code
      isr := { a.isr with ovr := ovr, eoc := true }
      rrank := a.rrank + 1 }

/-- A 0-based rank as an index of the four data registers. -/
def rankIndex (r : BitVec 2) : Fin 4 := ⟨r.toNat, r.isLt⟩

/-- An injected conversion that gives `code` (42_adc.md R647). -/
def Adc.convertInjected (a : Adc) (code : BitVec 16) : Adc :=
  if a.jrank = a.jsqLen then
    { a with
      jdr := a.jdr.set (rankIndex a.jrank) code
      isr := { a.isr with jeoc := true, jeos := true }
      jact := false
      jrank := 0
      jadstart := a.jadstart && a.jexten != 0 }
  else
    { a with
      jdr := a.jdr.set (rankIndex a.jrank) code
      isr := { a.isr with jeoc := true }
      jrank := a.jrank + 1 }

/-- The trigger event starts a sequence: armed, ready and none in progress (42_adc.md R646). -/
def Adc.armed (a : Adc) : Bool := a.jadstart && a.en == .ready && !a.jact

/-- An injected sequence starts (42_adc.md R646). -/
def Adc.startInjected (a : Adc) : Adc := { a with jact := true, jrank := 0 }

/-- The lock-step condition (42_adc.md R648). -/
def State.lockstep (s : State) : Bool :=
  s.adcPaired && s.adc1.jact && s.adc2.jact && s.adc1.jrank == s.adc2.jrank && s.adc1.jsqLen == s.adc2.jsqLen

/-- The level a trigger select reads of a pair (TRGA, TRGB); a reserved select, which no write can store, reads none (30_encoding.md
R324; log entry 19). -/
def triggerLevel (sel : BitVec 5) (t : Bool × Bool) : Option Bool :=
  if sel = 0 then some t.1 else if sel = 1 then some t.2 else none

/-- Whether the selected trigger has an edge that JEXTEN selects, from the levels before and after a tick (41_pwm.md R531). -/
def Adc.triggerEvent (a : Adc) (old new : Bool × Bool) : Bool :=
  match triggerLevel a.jextsel old, triggerLevel a.jextsel new with
  | some o, some n =>
    (a.jexten == 1 && !o && n) || (a.jexten == 2 && o && !n) || (a.jexten == 3 && o != n)
  | _, _ => false

/-! ### Meanings -/

/-- `ADC1.ISR.RD` (42_adc.md R600). -/
def execAdc1IsrRd (lane : Lane) (s : State) : Host.Outcome State Fault Refusal :=
  Cpu.runRead s lane (s.adcRead .one .isr)

/-- `ADC1.ISR.WR` (42_adc.md R601). -/
def execAdc1IsrWr (v : Word) (s : State) : Host.Outcome State Fault Refusal :=
  Cpu.runWrite s (s.adcWrite .one .isr v)

/-- `ADC1.IER.RD` (42_adc.md R600). -/
def execAdc1IerRd (lane : Lane) (s : State) : Host.Outcome State Fault Refusal :=
  Cpu.runRead s lane (s.adcRead .one .ier)

/-- `ADC1.IER.WR` (42_adc.md R602). -/
def execAdc1IerWr (v : Word) (s : State) : Host.Outcome State Fault Refusal :=
  Cpu.runWrite s (s.adcWrite .one .ier v)

/-- `ADC1.CR.RD` (42_adc.md R600). -/
def execAdc1CrRd (lane : Lane) (s : State) : Host.Outcome State Fault Refusal :=
  Cpu.runRead s lane (s.adcRead .one .cr)

/-- `ADC1.CR.WR` (42_adc.md R603). -/
def execAdc1CrWr (v : Word) (s : State) : Host.Outcome State Fault Refusal :=
  Cpu.runWrite s (s.adcWriteCr .one v)

/-- `ADC1.CFGR.RD` (42_adc.md R600). -/
def execAdc1CfgrRd (lane : Lane) (s : State) : Host.Outcome State Fault Refusal :=
  Cpu.runRead s lane (s.adcRead .one .cfgr)

/-- `ADC1.CFGR.WR` (42_adc.md R604). -/
def execAdc1CfgrWr (v : Word) (s : State) : Host.Outcome State Fault Refusal :=
  Cpu.runWrite s (s.adcWrite .one .cfgr v)

/-- `ADC1.SMPR1.RD` (42_adc.md R600). -/
def execAdc1Smpr1Rd (lane : Lane) (s : State) : Host.Outcome State Fault Refusal :=
  Cpu.runRead s lane (s.adcRead .one .smpr1)

/-- `ADC1.SMPR1.WR` (42_adc.md R605). -/
def execAdc1Smpr1Wr (v : Word) (s : State) : Host.Outcome State Fault Refusal :=
  Cpu.runWrite s (s.adcWrite .one .smpr1 v)

/-- `ADC1.SMPR2.RD` (42_adc.md R600). -/
def execAdc1Smpr2Rd (lane : Lane) (s : State) : Host.Outcome State Fault Refusal :=
  Cpu.runRead s lane (s.adcRead .one .smpr2)

/-- `ADC1.SMPR2.WR` (42_adc.md R605). -/
def execAdc1Smpr2Wr (v : Word) (s : State) : Host.Outcome State Fault Refusal :=
  Cpu.runWrite s (s.adcWrite .one .smpr2 v)

/-- `ADC1.SQR1.RD` (42_adc.md R600). -/
def execAdc1Sqr1Rd (lane : Lane) (s : State) : Host.Outcome State Fault Refusal :=
  Cpu.runRead s lane (s.adcRead .one .sqr1)

/-- `ADC1.SQR1.WR` (42_adc.md R606). -/
def execAdc1Sqr1Wr (v : Word) (s : State) : Host.Outcome State Fault Refusal :=
  Cpu.runWrite s (s.adcWrite .one .sqr1 v)

/-- `ADC1.DR.RD` (42_adc.md R621). -/
def execAdc1DrRd (lane : Lane) (s : State) : Host.Outcome State Fault Refusal :=
  Cpu.runRead s lane (s.adcReadDr .one)

/-- `ADC1.DR.WR` (42_adc.md R601). -/
def execAdc1DrWr (v : Word) (s : State) : Host.Outcome State Fault Refusal :=
  Cpu.runWrite s (s.adcWrite .one .dr v)

/-- `ADC1.JSQR.RD` (42_adc.md R600). -/
def execAdc1JsqrRd (lane : Lane) (s : State) : Host.Outcome State Fault Refusal :=
  Cpu.runRead s lane (s.adcRead .one .jsqr)

/-- `ADC1.JSQR.WR` (42_adc.md R607). -/
def execAdc1JsqrWr (v : Word) (s : State) : Host.Outcome State Fault Refusal :=
  Cpu.runWrite s (s.adcWrite .one .jsqr v)

/-- `ADC1.JDR1.RD` (42_adc.md R600). -/
def execAdc1Jdr1Rd (lane : Lane) (s : State) : Host.Outcome State Fault Refusal :=
  Cpu.runRead s lane (s.adcRead .one .jdr1)

/-- `ADC1.JDR1.WR` (42_adc.md R601). -/
def execAdc1Jdr1Wr (v : Word) (s : State) : Host.Outcome State Fault Refusal :=
  Cpu.runWrite s (s.adcWrite .one .jdr1 v)

/-- `ADC1.JDR2.RD` (42_adc.md R600). -/
def execAdc1Jdr2Rd (lane : Lane) (s : State) : Host.Outcome State Fault Refusal :=
  Cpu.runRead s lane (s.adcRead .one .jdr2)

/-- `ADC1.JDR2.WR` (42_adc.md R601). -/
def execAdc1Jdr2Wr (v : Word) (s : State) : Host.Outcome State Fault Refusal :=
  Cpu.runWrite s (s.adcWrite .one .jdr2 v)

/-- `ADC1.JDR3.RD` (42_adc.md R600). -/
def execAdc1Jdr3Rd (lane : Lane) (s : State) : Host.Outcome State Fault Refusal :=
  Cpu.runRead s lane (s.adcRead .one .jdr3)

/-- `ADC1.JDR3.WR` (42_adc.md R601). -/
def execAdc1Jdr3Wr (v : Word) (s : State) : Host.Outcome State Fault Refusal :=
  Cpu.runWrite s (s.adcWrite .one .jdr3 v)

/-- `ADC1.JDR4.RD` (42_adc.md R600). -/
def execAdc1Jdr4Rd (lane : Lane) (s : State) : Host.Outcome State Fault Refusal :=
  Cpu.runRead s lane (s.adcRead .one .jdr4)

/-- `ADC1.JDR4.WR` (42_adc.md R601). -/
def execAdc1Jdr4Wr (v : Word) (s : State) : Host.Outcome State Fault Refusal :=
  Cpu.runWrite s (s.adcWrite .one .jdr4 v)

/-- `ADC2.ISR.RD` (42_adc.md R600). -/
def execAdc2IsrRd (lane : Lane) (s : State) : Host.Outcome State Fault Refusal :=
  Cpu.runRead s lane (s.adcRead .two .isr)

/-- `ADC2.ISR.WR` (42_adc.md R601). -/
def execAdc2IsrWr (v : Word) (s : State) : Host.Outcome State Fault Refusal :=
  Cpu.runWrite s (s.adcWrite .two .isr v)

/-- `ADC2.IER.RD` (42_adc.md R600). -/
def execAdc2IerRd (lane : Lane) (s : State) : Host.Outcome State Fault Refusal :=
  Cpu.runRead s lane (s.adcRead .two .ier)

/-- `ADC2.IER.WR` (42_adc.md R602). -/
def execAdc2IerWr (v : Word) (s : State) : Host.Outcome State Fault Refusal :=
  Cpu.runWrite s (s.adcWrite .two .ier v)

/-- `ADC2.CR.RD` (42_adc.md R600). -/
def execAdc2CrRd (lane : Lane) (s : State) : Host.Outcome State Fault Refusal :=
  Cpu.runRead s lane (s.adcRead .two .cr)

/-- `ADC2.CR.WR` (42_adc.md R603). -/
def execAdc2CrWr (v : Word) (s : State) : Host.Outcome State Fault Refusal :=
  Cpu.runWrite s (s.adcWriteCr .two v)

/-- `ADC2.CFGR.RD` (42_adc.md R600). -/
def execAdc2CfgrRd (lane : Lane) (s : State) : Host.Outcome State Fault Refusal :=
  Cpu.runRead s lane (s.adcRead .two .cfgr)

/-- `ADC2.CFGR.WR` (42_adc.md R604). -/
def execAdc2CfgrWr (v : Word) (s : State) : Host.Outcome State Fault Refusal :=
  Cpu.runWrite s (s.adcWrite .two .cfgr v)

/-- `ADC2.SMPR1.RD` (42_adc.md R600). -/
def execAdc2Smpr1Rd (lane : Lane) (s : State) : Host.Outcome State Fault Refusal :=
  Cpu.runRead s lane (s.adcRead .two .smpr1)

/-- `ADC2.SMPR1.WR` (42_adc.md R605). -/
def execAdc2Smpr1Wr (v : Word) (s : State) : Host.Outcome State Fault Refusal :=
  Cpu.runWrite s (s.adcWrite .two .smpr1 v)

/-- `ADC2.SMPR2.RD` (42_adc.md R600). -/
def execAdc2Smpr2Rd (lane : Lane) (s : State) : Host.Outcome State Fault Refusal :=
  Cpu.runRead s lane (s.adcRead .two .smpr2)

/-- `ADC2.SMPR2.WR` (42_adc.md R605). -/
def execAdc2Smpr2Wr (v : Word) (s : State) : Host.Outcome State Fault Refusal :=
  Cpu.runWrite s (s.adcWrite .two .smpr2 v)

/-- `ADC2.SQR1.RD` (42_adc.md R600). -/
def execAdc2Sqr1Rd (lane : Lane) (s : State) : Host.Outcome State Fault Refusal :=
  Cpu.runRead s lane (s.adcRead .two .sqr1)

/-- `ADC2.SQR1.WR` (42_adc.md R606). -/
def execAdc2Sqr1Wr (v : Word) (s : State) : Host.Outcome State Fault Refusal :=
  Cpu.runWrite s (s.adcWrite .two .sqr1 v)

/-- `ADC2.DR.RD` (42_adc.md R621). -/
def execAdc2DrRd (lane : Lane) (s : State) : Host.Outcome State Fault Refusal :=
  Cpu.runRead s lane (s.adcReadDr .two)

/-- `ADC2.DR.WR` (42_adc.md R601). -/
def execAdc2DrWr (v : Word) (s : State) : Host.Outcome State Fault Refusal :=
  Cpu.runWrite s (s.adcWrite .two .dr v)

/-- `ADC2.JSQR.RD` (42_adc.md R600). -/
def execAdc2JsqrRd (lane : Lane) (s : State) : Host.Outcome State Fault Refusal :=
  Cpu.runRead s lane (s.adcRead .two .jsqr)

/-- `ADC2.JSQR.WR` (42_adc.md R607). -/
def execAdc2JsqrWr (v : Word) (s : State) : Host.Outcome State Fault Refusal :=
  Cpu.runWrite s (s.adcWrite .two .jsqr v)

/-- `ADC2.JDR1.RD` (42_adc.md R600). -/
def execAdc2Jdr1Rd (lane : Lane) (s : State) : Host.Outcome State Fault Refusal :=
  Cpu.runRead s lane (s.adcRead .two .jdr1)

/-- `ADC2.JDR1.WR` (42_adc.md R601). -/
def execAdc2Jdr1Wr (v : Word) (s : State) : Host.Outcome State Fault Refusal :=
  Cpu.runWrite s (s.adcWrite .two .jdr1 v)

/-- `ADC2.JDR2.RD` (42_adc.md R600). -/
def execAdc2Jdr2Rd (lane : Lane) (s : State) : Host.Outcome State Fault Refusal :=
  Cpu.runRead s lane (s.adcRead .two .jdr2)

/-- `ADC2.JDR2.WR` (42_adc.md R601). -/
def execAdc2Jdr2Wr (v : Word) (s : State) : Host.Outcome State Fault Refusal :=
  Cpu.runWrite s (s.adcWrite .two .jdr2 v)

/-- `ADC2.JDR3.RD` (42_adc.md R600). -/
def execAdc2Jdr3Rd (lane : Lane) (s : State) : Host.Outcome State Fault Refusal :=
  Cpu.runRead s lane (s.adcRead .two .jdr3)

/-- `ADC2.JDR3.WR` (42_adc.md R601). -/
def execAdc2Jdr3Wr (v : Word) (s : State) : Host.Outcome State Fault Refusal :=
  Cpu.runWrite s (s.adcWrite .two .jdr3 v)

/-- `ADC2.JDR4.RD` (42_adc.md R600). -/
def execAdc2Jdr4Rd (lane : Lane) (s : State) : Host.Outcome State Fault Refusal :=
  Cpu.runRead s lane (s.adcRead .two .jdr4)

/-- `ADC2.JDR4.WR` (42_adc.md R601). -/
def execAdc2Jdr4Wr (v : Word) (s : State) : Host.Outcome State Fault Refusal :=
  Cpu.runWrite s (s.adcWrite .two .jdr4 v)

end Sys2Proof.Machine
end

