-- ==== Sys2Proof/Machine/Cordic.lean ====
section
/-! DEFINITION. The CORDIC unit (44_cordic.md): register reads and writes, and the completion step; then the meaning of each
CORDIC transaction. The Q31 conversions are in Float.lean and Operands.lean. -/
namespace Sys2Proof.Machine

/-- The value of `CSR` (44_cordic.md R800). -/
def Cordic.readCsr (k : Cordic) : Word :=
  Word.ofField 0 k.func ||| Word.ofField 4 k.precision ||| Word.ofBit 19 k.nres ||| Word.ofBit 20 k.nargs |||
  Word.ofBit 31 k.rrdy

/-- Write of `CSR` (44_cordic.md R801). -/
def Cordic.writeCsr (k : Cordic) (v : Word) : Except FaultRecord Cordic :=
  if k.busy || k.left != 0 || k.latched then .error (FaultRecord.ofWord .cordicBusy v)
  else if 2 ≤ (Word.field v 0 4).toNat || Word.field v 4 4 == 0 then .error (FaultRecord.ofWord .cordicBadFunc v)
  else .ok { k with
    func := Word.field v 0 4
    precision := Word.field v 4 4
    nres := Word.bit v 19
    nargs := Word.bit v 20 }

/-- Write of `WDATA` (44_cordic.md R810). -/
def Cordic.writeWdata (k : Cordic) (v : Word) : Except FaultRecord Cordic :=
  if k.busy || k.left != 0 then .error (FaultRecord.ofWord .cordicOverrun v)
  else if k.nargs && !k.latched then .ok { k with arg1 := v, latched := true }
  else if k.nargs then .ok { k with x := k.arg1, m := v, latched := false, busy := true }
  else .ok { k with x := v, m := 0x7FFFFFFF#32, busy := true }

/-- The next unread result, `h.COR.res[h.COR.next]` (44_cordic.md R814). An index other than 1 or 2 with a result pending, which no
run reaches, reads the second (log entry 20). -/
def Cordic.nextResult (k : Cordic) : Word := if k.next = 1 then k.res1 else k.res2

/-- The state after a result has been read (44_cordic.md R814). -/
def Cordic.pop (k : Cordic) : Cordic := { k with next := k.next + 1, left := k.left - 1 }

/-- Completion (44_cordic.md R812). -/
def Cordic.complete (k : Cordic) : Option Cordic :=
  if k.busy then
    let sn := Config.cordicSin k.x k.m k.precision
    let cs := Config.cordicCos k.x k.m k.precision
    some { k with
      res1 := if k.func = 1 then sn else cs
      res2 := if k.func = 1 then cs else sn
      left := if k.nres then 2 else 1
      next := 1
      busy := false }
  else none

/-- A write of a CORDIC register; `RDATA` is read-only (44_cordic.md R800, R801, R810). -/
def Cordic.write (k : Cordic) (r : CordicReg) (v : Word) : Except FaultRecord Cordic :=
  match r with
  | .csr => k.writeCsr v
  | .wdata => k.writeWdata v
  | .rdata => .ok k

/-- A write of a CORDIC register, on the state. -/
def State.cordicWrite (s : State) (r : CordicReg) (v : Word) : Except FaultRecord State :=
  match s.cordic.write r v with
  | .error f => .error f
  | .ok k => .ok { s with cordic := k }

/-- A read of `RDATA`: holds while busy, faults with no result, else gives the next result (44_cordic.md R814). -/
def State.readRdata (s : State) : ReadResult :=
  if s.cordic.busy then .hold
  else if s.cordic.left = 0 then .fault (FaultRecord.ofNat .cordicNoResult 0)
  else .value s.cordic.nextResult { s with cordic := s.cordic.pop }

/-! ### Meanings -/

/-- `CORDIC.CSR.RD` (44_cordic.md R800). -/
def execCordicCsrRd (lane : Lane) (s : State) : Host.Outcome State Fault Refusal :=
  Cpu.runRead s lane (.value s.cordic.readCsr s)

/-- `CORDIC.CSR.WR` (44_cordic.md R801). -/
def execCordicCsrWr (v : Word) (s : State) : Host.Outcome State Fault Refusal :=
  Cpu.runWrite s (s.cordicWrite .csr v)

/-- `CORDIC.WDATA.RD` (44_cordic.md R800). -/
def execCordicWdataRd (lane : Lane) (s : State) : Host.Outcome State Fault Refusal :=
  Cpu.runRead s lane (.value 0 s)

/-- `CORDIC.WDATA.WR` (44_cordic.md R810). -/
def execCordicWdataWr (v : Word) (s : State) : Host.Outcome State Fault Refusal :=
  Cpu.runWrite s (s.cordicWrite .wdata v)

/-- `CORDIC.RDATA.RD` (44_cordic.md R814). -/
def execCordicRdataRd (lane : Lane) (s : State) : Host.Outcome State Fault Refusal :=
  Cpu.runRead s lane s.readRdata

/-- `CORDIC.RDATA.WR` (44_cordic.md R800). -/
def execCordicRdataWr (v : Word) (s : State) : Host.Outcome State Fault Refusal :=
  Cpu.runWrite s (s.cordicWrite .rdata v)

end Sys2Proof.Machine
end

