-- ==== Sys2Proof/Machine/Dma.lean ====
section
/-! DEFINITION. The DMA channel registers and the request router (43_dma.md sections 1 and 2), the stop acknowledgement; then the
meaning of each DMA and router transaction. The beat is in Agents.lean. -/
namespace Sys2Proof.Machine

/-! ### Register reads (43_dma.md R700, R740) -/

/-- The 32-bit value a channel register reads; `CCR.EN` reads 1 also while a stop waits (43_dma.md R700). -/
def DmaChannel.read (d : DmaChannel) : DmaReg → Word
  | .ccr => Word.ofBit 0 d.active ||| Word.ofField 1 d.cfg
  | .cndtr => d.cndtr.setWidth 32
  | .cpar => d.cpar
  | .cmar => d.cmar
  | .cisr => Word.ofBit 0 d.gif ||| Word.ofBit 1 d.tcif ||| Word.ofBit 2 d.htif ||| Word.ofBit 3 d.teif
  | .cifcr => 0

/-- The value of router register `CxCR[c]` (43_dma.md R740). -/
def State.readRouter (s : State) (c : Fin 16) : Word := s.dmamux[c].setWidth 32

/-! ### Register writes (43_dma.md R710 to R714, R741) -/

/-- A fault whose info is the channel c. -/
def channelFault (code : FaultCode) (c : Fin 16) : FaultRecord := FaultRecord.ofNat code c.val

/-- Whether enabling with v is refused: reserved or unequal sizes, a zero count, or an address not aligned to its size (43_dma.md
R710). -/
def DmaChannel.badConfig (d : DmaChannel) (v : Word) : Bool :=
  Word.field v 8 2 == 3 || Word.field v 10 2 == 3 || Word.field v 8 2 != Word.field v 10 2 ||
  d.cndtr == 0 || d.cpar.toNat % 2 ^ (Word.field v 8 2).toNat != 0 ||
  d.cmar.toNat % 2 ^ (Word.field v 10 2).toNat != 0

/-- Write of `CCR[c]` (43_dma.md R710). -/
def DmaChannel.writeCcr (d : DmaChannel) (c : Fin 16) (v : Word) : Except FaultRecord DmaChannel :=
  if d.active then
    if Word.field v 1 11 != d.cfg then .error (channelFault .dmaReconfig c)
    else .ok { d with stopping := d.stopping || !Word.bit v 0 }
  else if Word.bit v 0 then
    if d.badConfig v then .error (channelFault .dmaBadConfig c)
    else .ok { d with
      cfg := Word.field v 1 11
      en := true
      stopping := false
      init := d.cndtr
      pptr := d.cpar
      mptr := d.cmar }
  else .ok { d with cfg := Word.field v 1 11 }

/-- Write of `CNDTR[c]` (43_dma.md R711). -/
def DmaChannel.writeCndtr (d : DmaChannel) (c : Fin 16) (v : Word) : Except FaultRecord DmaChannel :=
  if d.active then .error (channelFault .dmaReconfig c) else .ok { d with cndtr := Word.field v 0 16 }

/-- Write of `CPAR[c]` (43_dma.md R711). -/
def DmaChannel.writeCpar (d : DmaChannel) (c : Fin 16) (v : Word) : Except FaultRecord DmaChannel :=
  if d.active then .error (channelFault .dmaReconfig c) else .ok { d with cpar := v }

/-- Write of `CMAR[c]` (43_dma.md R711). -/
def DmaChannel.writeCmar (d : DmaChannel) (c : Fin 16) (v : Word) : Except FaultRecord DmaChannel :=
  if d.active then .error (channelFault .dmaReconfig c) else .ok { d with cmar := v }

/-- Write of `CIFCR[c]` (43_dma.md R714). -/
def DmaChannel.writeCifcr (d : DmaChannel) (v : Word) : DmaChannel :=
  { d with
    tcif := d.tcif && !(Word.bit v 0 || Word.bit v 1)
    htif := d.htif && !(Word.bit v 0 || Word.bit v 2)
    teif := d.teif && !(Word.bit v 0 || Word.bit v 3) }

/-- The write rule of each channel register; a write of `CISR` is ignored (43_dma.md R700). -/
def DmaChannel.write (d : DmaChannel) (c : Fin 16) (r : DmaReg) (v : Word) : Except FaultRecord DmaChannel :=
  match r with
  | .ccr => d.writeCcr c v
  | .cndtr => d.writeCndtr c v
  | .cpar => d.writeCpar c v
  | .cmar => d.writeCmar c v
  | .cisr => .ok d
  | .cifcr => .ok (d.writeCifcr v)

/-- A write of a channel register, on the state. -/
def State.dmaWrite (s : State) (c : Fin 16) (r : DmaReg) (v : Word) : Except FaultRecord State :=
  match s.dma[c].write c r v with
  | .error f => .error f
  | .ok d => .ok (s.setDma c d)

/-- Write of router register `CxCR[c]` (43_dma.md R741): the request ID is checked before the channel. -/
def State.writeRouter (s : State) (c : Fin 16) (v : Word) : Except FaultRecord State :=
  if 3 ≤ (Word.field v 0 7).toNat then .error (FaultRecord.ofNat .dmamuxBadId (Word.field v 0 7).toNat)
  else if s.dma[c].active then .error (channelFault .dmamuxReconfig c)
  else .ok { s with dmamux := s.dmamux.set c (Word.field v 0 7) }

/-- Stop acknowledgement of a channel (43_dma.md R712). -/
def DmaChannel.stopAck (d : DmaChannel) : Option DmaChannel :=
  if d.stopping then some { d with en := false, stopping := false } else none

/-- Transfer error of a channel (43_dma.md R735). -/
def DmaChannel.transferError (d : DmaChannel) : DmaChannel := { d with teif := true, en := false, stopping := false }

/-- The bookkeeping of a completed beat of n bytes from addresses p and m: addresses, count, flags and the end of a pass
(43_dma.md R730). An address increment past 2^32 - 1 wraps (log entry 32). -/
def DmaChannel.completeBeat (d : DmaChannel) (n : Nat) (p m : Word) : DmaChannel :=
  let left := d.cndtr - 1
  let half := d.htif || left.toNat == d.init.toNat / 2
  let pptr := if d.pinc then p + BitVec.ofNat 32 n else d.pptr
  let mptr := if d.minc then m + BitVec.ofNat 32 n else d.mptr
  if left = 0 then
    if d.circ then { d with cndtr := d.init, pptr := d.cpar, mptr := d.cmar, htif := half, tcif := true }
    else { d with cndtr := left, pptr := pptr, mptr := mptr, htif := half, tcif := true, en := false }
  else { d with cndtr := left, pptr := pptr, mptr := mptr, htif := half }

/-- The element size `2^PSIZE` bytes; code 3, which no enabled channel holds, reads as a word (30_encoding.md R325; log entry 19). -/
def elementSize (code : BitVec 2) : Size :=
  if code = 0 then .b1 else if code = 1 then .b2 else .b4

/-! ### Meanings -/

/-- `DMA.CCR[c].RD` (43_dma.md R700). -/
def execDmaCcrRd (c : Fin 16) (lane : Lane) (s : State) : Host.Outcome State Fault Refusal :=
  Cpu.runRead s lane (.value (s.dma[c].read .ccr) s)

/-- `DMA.CCR[c].WR` (43_dma.md R710). -/
def execDmaCcrWr (c : Fin 16) (v : Word) (s : State) : Host.Outcome State Fault Refusal :=
  Cpu.runWrite s (s.dmaWrite c .ccr v)

/-- `DMA.CNDTR[c].RD` (43_dma.md R700). -/
def execDmaCndtrRd (c : Fin 16) (lane : Lane) (s : State) : Host.Outcome State Fault Refusal :=
  Cpu.runRead s lane (.value (s.dma[c].read .cndtr) s)

/-- `DMA.CNDTR[c].WR` (43_dma.md R711). -/
def execDmaCndtrWr (c : Fin 16) (v : Word) (s : State) : Host.Outcome State Fault Refusal :=
  Cpu.runWrite s (s.dmaWrite c .cndtr v)

/-- `DMA.CPAR[c].RD` (43_dma.md R700). -/
def execDmaCparRd (c : Fin 16) (lane : Lane) (s : State) : Host.Outcome State Fault Refusal :=
  Cpu.runRead s lane (.value (s.dma[c].read .cpar) s)

/-- `DMA.CPAR[c].WR` (43_dma.md R711). -/
def execDmaCparWr (c : Fin 16) (v : Word) (s : State) : Host.Outcome State Fault Refusal :=
  Cpu.runWrite s (s.dmaWrite c .cpar v)

/-- `DMA.CMAR[c].RD` (43_dma.md R700). -/
def execDmaCmarRd (c : Fin 16) (lane : Lane) (s : State) : Host.Outcome State Fault Refusal :=
  Cpu.runRead s lane (.value (s.dma[c].read .cmar) s)

/-- `DMA.CMAR[c].WR` (43_dma.md R711). -/
def execDmaCmarWr (c : Fin 16) (v : Word) (s : State) : Host.Outcome State Fault Refusal :=
  Cpu.runWrite s (s.dmaWrite c .cmar v)

/-- `DMA.CISR[c].RD` (43_dma.md R700). -/
def execDmaCisrRd (c : Fin 16) (lane : Lane) (s : State) : Host.Outcome State Fault Refusal :=
  Cpu.runRead s lane (.value (s.dma[c].read .cisr) s)

/-- `DMA.CISR[c].WR` (43_dma.md R700). -/
def execDmaCisrWr (c : Fin 16) (v : Word) (s : State) : Host.Outcome State Fault Refusal :=
  Cpu.runWrite s (s.dmaWrite c .cisr v)

/-- `DMA.CIFCR[c].RD` (43_dma.md R700). -/
def execDmaCifcrRd (c : Fin 16) (lane : Lane) (s : State) : Host.Outcome State Fault Refusal :=
  Cpu.runRead s lane (.value (s.dma[c].read .cifcr) s)

/-- `DMA.CIFCR[c].WR` (43_dma.md R714). -/
def execDmaCifcrWr (c : Fin 16) (v : Word) (s : State) : Host.Outcome State Fault Refusal :=
  Cpu.runWrite s (s.dmaWrite c .cifcr v)

/-- `DMAMUX.CxCR[c].RD` (43_dma.md R740). -/
def execDmamuxCxcrRd (c : Fin 16) (lane : Lane) (s : State) : Host.Outcome State Fault Refusal :=
  Cpu.runRead s lane (.value (s.readRouter c) s)

/-- `DMAMUX.CxCR[c].WR` (43_dma.md R741). -/
def execDmamuxCxcrWr (c : Fin 16) (v : Word) (s : State) : Host.Outcome State Fault Refusal :=
  Cpu.runWrite s (s.writeRouter c v)

end Sys2Proof.Machine
end

