-- ==== Sys2Proof/Machine/Intc.lean ====
section
/-! DEFINITION. The interrupt dispatcher's registers (60_exceptions.md R1010 to R1012, R1032); then the meaning of each INTC
transaction. Entry and return are in Ops.lean, line assertion in Flags.lean. -/
namespace Sys2Proof.Machine

/-- The 32-bit value a dispatcher register reads (60_exceptions.md R1010). -/
def State.intcRead (s : State) : IntcReg → Word
  | .ctrl => Word.ofBit 0 s.intc.gen
  | .ier => s.intc.ier.setWidth 32
  | .ipr => s.ipr
  | .iabr => s.intc.iabr
  | .curpri => s.intc.curpri
  | .eoi => 0
  | .active => s.intc.active

/-- Write of `CTRL` (60_exceptions.md R1011). -/
def State.writeIntcCtrl (s : State) (v : Word) : State := { s with intc := { s.intc with gen := Word.bit v 0 } }

/-- The least line that v enables and that has no handler program (60_exceptions.md R1012). -/
def State.missingHandler (s : State) (v : Word) : Option Line :=
  (List.finRange 17).find? fun k => Word.bit v k.val && s.vec[k].isNone

/-- Write of `IER` (60_exceptions.md R1012). -/
def State.writeIntcIer (s : State) (v : Word) : Except FaultRecord State :=
  match s.missingHandler v with
  | some k => .error (FaultRecord.ofNat .intcNoHandler k.val)
  | none => .ok { s with intc := { s.intc with ier := Word.field v 0 17 } }

/-- Whether an `EOI` write ends a handler: the top activity's line is the head of `h.INTC.stack` (60_exceptions.md R1032). -/
def State.eoiValid (s : State) : Bool :=
  match s.handlers, s.intc.stack with
  | h :: _, k :: _ => h.line == some k
  | _, _ => false

/-- Write of `EOI` (60_exceptions.md R1032). -/
def State.writeIntcEoi (s : State) : Except FaultRecord State :=
  if s.eoiValid then .ok { s with intc := { s.intc with stack := s.intc.stack.tail } }
  else .error (FaultRecord.ofNat .intcBadEoi 0)

/-- The write rule of each dispatcher register; `IPR`, `IABR`, `CURPRI` and `ACTIVE` are read-only. -/
def State.intcWrite (s : State) (r : IntcReg) (v : Word) : Except FaultRecord State :=
  match r with
  | .ctrl => .ok (s.writeIntcCtrl v)
  | .ier => s.writeIntcIer v
  | .ipr => .ok s
  | .iabr => .ok s
  | .curpri => .ok s
  | .eoi => s.writeIntcEoi
  | .active => .ok s

/-! ### Meanings -/

/-- `INTC.CTRL.RD` (60_exceptions.md R1010). -/
def execIntcCtrlRd (lane : Lane) (s : State) : Host.Outcome State Fault Refusal :=
  Cpu.runRead s lane (.value (s.intcRead .ctrl) s)

/-- `INTC.CTRL.WR` (60_exceptions.md R1011). -/
def execIntcCtrlWr (v : Word) (s : State) : Host.Outcome State Fault Refusal :=
  Cpu.runWrite s (s.intcWrite .ctrl v)

/-- `INTC.IER.RD` (60_exceptions.md R1010). -/
def execIntcIerRd (lane : Lane) (s : State) : Host.Outcome State Fault Refusal :=
  Cpu.runRead s lane (.value (s.intcRead .ier) s)

/-- `INTC.IER.WR` (60_exceptions.md R1012). -/
def execIntcIerWr (v : Word) (s : State) : Host.Outcome State Fault Refusal :=
  Cpu.runWrite s (s.intcWrite .ier v)

/-- `INTC.IPR.RD` (60_exceptions.md R1010). -/
def execIntcIprRd (lane : Lane) (s : State) : Host.Outcome State Fault Refusal :=
  Cpu.runRead s lane (.value (s.intcRead .ipr) s)

/-- `INTC.IPR.WR` (60_exceptions.md R1010). -/
def execIntcIprWr (v : Word) (s : State) : Host.Outcome State Fault Refusal :=
  Cpu.runWrite s (s.intcWrite .ipr v)

/-- `INTC.IABR.RD` (60_exceptions.md R1010). -/
def execIntcIabrRd (lane : Lane) (s : State) : Host.Outcome State Fault Refusal :=
  Cpu.runRead s lane (.value (s.intcRead .iabr) s)

/-- `INTC.IABR.WR` (60_exceptions.md R1010). -/
def execIntcIabrWr (v : Word) (s : State) : Host.Outcome State Fault Refusal :=
  Cpu.runWrite s (s.intcWrite .iabr v)

/-- `INTC.CURPRI.RD` (60_exceptions.md R1010). -/
def execIntcCurpriRd (lane : Lane) (s : State) : Host.Outcome State Fault Refusal :=
  Cpu.runRead s lane (.value (s.intcRead .curpri) s)

/-- `INTC.CURPRI.WR` (60_exceptions.md R1010). -/
def execIntcCurpriWr (v : Word) (s : State) : Host.Outcome State Fault Refusal :=
  Cpu.runWrite s (s.intcWrite .curpri v)

/-- `INTC.EOI.RD` (60_exceptions.md R1010). -/
def execIntcEoiRd (lane : Lane) (s : State) : Host.Outcome State Fault Refusal :=
  Cpu.runRead s lane (.value (s.intcRead .eoi) s)

/-- `INTC.EOI.WR` (60_exceptions.md R1032). -/
def execIntcEoiWr (v : Word) (s : State) : Host.Outcome State Fault Refusal :=
  Cpu.runWrite s (s.intcWrite .eoi v)

/-- `INTC.ACTIVE.RD` (60_exceptions.md R1010). -/
def execIntcActiveRd (lane : Lane) (s : State) : Host.Outcome State Fault Refusal :=
  Cpu.runRead s lane (.value (s.intcRead .active) s)

/-- `INTC.ACTIVE.WR` (60_exceptions.md R1010). -/
def execIntcActiveWr (v : Word) (s : State) : Host.Outcome State Fault Refusal :=
  Cpu.runWrite s (s.intcWrite .active v)

end Sys2Proof.Machine
end

