-- ==== Sys2Proof/Machine/Pwm.lean ====
section
/-! DEFINITION. The PWM unit (41_pwm.md): register reads and writes, the tick, the outputs and the triggers; then the meaning of
each PWM transaction. -/
namespace Sys2Proof.Machine

/-! ### Fields -/

/-- `OCkM`, k-1 given (10_state.md R115). -/
def ccmrMode (ccmr : BitVec 14) (k : Fin 3) : BitVec 3 := ccmr.extractLsb' (4 * k.val) 3

/-- `OCkPE`, k-1 given (10_state.md R115). -/
def ccmrPreload (ccmr : BitVec 14) (k : Fin 5) : Bool :=
  ccmr.getLsbD (if k.val < 3 then 4 * k.val + 3 else 9 + k.val)

/-- A mode code that is reserved: 1, 2 or 3 (30_encoding.md R320). -/
def ocmReserved (m : BitVec 3) : Bool := m = 1 || m = 2 || m = 3

/-! ### Register reads (41_pwm.md R500) -/

/-- The 32-bit value a PWM register reads (41_pwm.md R500). -/
def Pwm.read (p : Pwm) : PwmReg → Word
  | .cr1 => Word.ofBit 0 p.cen ||| Word.ofBit 1 p.cms ||| Word.ofBit 4 p.dir
  | .cr2 => p.cr2.setWidth 32
  | .sr => Word.ofBit 0 p.uif
  | .egr => 0
  | .ccmr => p.ccmr.setWidth 32
  | .ccer => p.ccer.setWidth 32
  | .cnt => p.cnt.setWidth 32
  | .psc => p.psc.setWidth 32
  | .arr => p.arr.setWidth 32
  | .rcr => p.rcr.setWidth 32
  | .ccr1 => p.ccr[0].setWidth 32
  | .ccr2 => p.ccr[1].setWidth 32
  | .ccr3 => p.ccr[2].setWidth 32
  | .ccr4 => p.ccr[3].setWidth 32
  | .ccr5 => p.ccr[4].setWidth 32
  | .bdtr => Word.ofField 0 p.dtg ||| Word.ofBit 10 p.ossi ||| Word.ofBit 15 p.moe

/-! ### Register writes (41_pwm.md R501 to R512) -/

/-- Write of `CR1` (41_pwm.md R501). -/
def Pwm.writeCr1 (p : Pwm) (v : Word) : Except FaultRecord Pwm :=
  if p.cen && Word.bit v 0 && Word.bit v 1 != p.cms then .error (FaultRecord.ofWord .pwmCmsRun v)
  else .ok { p with
    cen := Word.bit v 0
    cms := Word.bit v 1
    dir := if Word.bit v 1 != p.cms then false else p.dir }

/-- Write of `CR2` (41_pwm.md R502). -/
def Pwm.writeCr2 (p : Pwm) (v : Word) : Pwm := { p with cr2 := Word.field v 0 4 }

/-- Write of `SR` (41_pwm.md R503). -/
def Pwm.writeSr (p : Pwm) (v : Word) : Pwm := { p with uif := p.uif && !Word.bit v 0 }

/-- Write of `CCMR` (41_pwm.md R504): a reserved mode is refused for the lowest channel that has one. -/
def Pwm.writeCcmr (p : Pwm) (v : Word) : Except FaultRecord Pwm :=
  let c := Word.field v 0 14
  if ocmReserved (ccmrMode c 0) then .error (FaultRecord.ofNat .pwmOcmRsv 1)
  else if ocmReserved (ccmrMode c 1) then .error (FaultRecord.ofNat .pwmOcmRsv 2)
  else if ocmReserved (ccmrMode c 2) then .error (FaultRecord.ofNat .pwmOcmRsv 3)
  else .ok { p with ccmr := c }

/-- Write of `CCER` (41_pwm.md R505). -/
def Pwm.writeCcer (p : Pwm) (v : Word) : Pwm := { p with ccer := Word.field v 0 6 }

/-- Write of `CNT` (41_pwm.md R506). -/
def Pwm.writeCnt (p : Pwm) (v : Word) : Pwm := { p with cnt := Word.field v 0 16 }

/-- Write of `PSC` (41_pwm.md R507). -/
def Pwm.writePsc (p : Pwm) (v : Word) : Pwm := { p with psc := Word.field v 0 16 }

/-- Write of `ARR` (41_pwm.md R508). -/
def Pwm.writeArr (p : Pwm) (v : Word) : Except FaultRecord Pwm :=
  if p.cen then .error (FaultRecord.ofWord .pwmArrRun v) else .ok { p with arr := Word.field v 0 16 }

/-- Write of `RCR` (41_pwm.md R509). -/
def Pwm.writeRcr (p : Pwm) (v : Word) : Pwm := { p with rcr := Word.field v 0 8 }

/-- Write of `CCRk`, k-1 given (41_pwm.md R510): the range check is for k = 1..3 only. -/
def Pwm.writeCcr (p : Pwm) (k : Fin 5) (v : Word) : Except FaultRecord Pwm :=
  if k.val < 3 && decide (p.arr < Word.field v 0 16) then .error (FaultRecord.ofNat .pwmCcrRange (k.val + 1))
  else .ok { p with ccr := p.ccr.set k (Word.field v 0 16) }

/-- Write of `BDTR` (41_pwm.md R511). -/
def Pwm.writeBdtr (p : Pwm) (v : Word) : Pwm :=
  { p with dtg := Word.field v 0 8, ossi := Word.bit v 10, moe := Word.bit v 15 }

/-- The update event (41_pwm.md R524). -/
def Pwm.updateEvent (p : Pwm) : Pwm :=
  { p with ccrAct := p.ccr, pscAct := p.psc, rep := p.rcr, uif := true }

/-- Write of `EGR` (41_pwm.md R512). -/
def Pwm.writeEgr (p : Pwm) (v : Word) : Pwm :=
  if Word.bit v 0 then { p.updateEvent with cnt := 0, dir := false, pscCnt := 0 } else p

/-- The write rule of each PWM register. -/
def Pwm.write (p : Pwm) (r : PwmReg) (v : Word) : Except FaultRecord Pwm :=
  match r with
  | .cr1 => p.writeCr1 v
  | .cr2 => .ok (p.writeCr2 v)
  | .sr => .ok (p.writeSr v)
  | .egr => .ok (p.writeEgr v)
  | .ccmr => p.writeCcmr v
  | .ccer => .ok (p.writeCcer v)
  | .cnt => .ok (p.writeCnt v)
  | .psc => .ok (p.writePsc v)
  | .arr => p.writeArr v
  | .rcr => .ok (p.writeRcr v)
  | .ccr1 => p.writeCcr 0 v
  | .ccr2 => p.writeCcr 1 v
  | .ccr3 => p.writeCcr 2 v
  | .ccr4 => p.writeCcr 3 v
  | .ccr5 => p.writeCcr 4 v
  | .bdtr => .ok (p.writeBdtr v)

/-- A write of a PWM register, on the state. -/
def State.pwmWrite (s : State) (r : PwmReg) (v : Word) : Except FaultRecord State :=
  match s.pwm.write r v with
  | .error f => .error f
  | .ok p => .ok { s with pwm := p }

/-! ### The tick (41_pwm.md R520 to R533) -/

/-- The prescaler: the new state, and whether the counter advances (41_pwm.md R520). -/
def Pwm.prescale (p : Pwm) : Pwm × Bool :=
  if p.cen then
    if p.pscAct ≤ p.pscCnt then ({ p with pscCnt := 0 }, true)
    else ({ p with pscCnt := p.pscCnt + 1 }, false)
  else (p, false)

/-- Centre-aligned advance: the new state, and whether it is an update candidate (41_pwm.md R521). -/
def Pwm.centreAdvance (p : Pwm) : Pwm × Bool :=
  if !p.dir then
    if p.cnt < p.arr then ({ p with cnt := p.cnt + 1 }, false) else ({ p with dir := true }, true)
  else
    if 0 < p.cnt then ({ p with cnt := p.cnt - 1 }, false) else ({ p with dir := false }, true)

/-- Edge-aligned advance (41_pwm.md R522). -/
def Pwm.edgeAdvance (p : Pwm) : Pwm × Bool :=
  if p.cnt < p.arr then ({ p with cnt := p.cnt + 1 }, false) else ({ p with cnt := 0 }, true)

/-- Repetition at a candidate (41_pwm.md R525). -/
def Pwm.repetition (p : Pwm) : Pwm :=
  if p.rep = 0 then p.updateEvent else { p with rep := p.rep - 1 }

/-- One counter advance, with the repetition and update event of its candidate (41_pwm.md R520). -/
def Pwm.count (p : Pwm) : Pwm :=
  let r := if p.cms then p.centreAdvance else p.edgeAdvance
  if r.2 then r.1.repetition else r.1

/-- The effective compare value `cmp(k)`, k-1 given (41_pwm.md R526). -/
def Pwm.cmp (p : Pwm) (k : Fin 5) : BitVec 16 := if ccmrPreload p.ccmr k then p.ccrAct[k] else p.ccr[k]

/-- The trigger levels of a tick (41_pwm.md R530). -/
def Pwm.triggers (p : Pwm) (adv : Bool) : Pwm :=
  { p with
    trga := p.cr2.getLsbD 0 && adv && p.cnt == p.cmp 3 && p.dir == p.cr2.getLsbD 1
    trgb := p.cr2.getLsbD 2 && adv && p.cnt == p.cmp 4 && p.dir == p.cr2.getLsbD 3 }

/-- The next OCREF of channel k, k-1 given (41_pwm.md R527, 30_encoding.md R320). A reserved mode, which no write can store,
keeps the level (log entry 19). -/
def Pwm.nextOcref (p : Pwm) (k : Fin 3) : Bool :=
  match (ccmrMode p.ccmr k).toNat with
  | 4 => false
  | 5 => true
  | 6 => decide (p.cnt < p.cmp (k.castLE (by decide)))
  | 7 => !decide (p.cnt < p.cmp (k.castLE (by decide)))
  | _ => p.ocref[k]

/-- The next dead-time count of channel k, k-1 given (41_pwm.md R533). -/
def Pwm.nextDtc (p : Pwm) (k : Fin 3) : BitVec 8 :=
  if p.nextOcref k != p.ocref[k] then p.dtg
  else if 0 < p.dtc[k] then p.dtc[k] - 1 else p.dtc[k]

/-- Output compare and dead time of the three channels (41_pwm.md R527, R533). -/
def Pwm.outputCompare (p : Pwm) : Pwm :=
  { p with
    ocref := #v[p.nextOcref 0, p.nextOcref 1, p.nextOcref 2]
    dtc := #v[p.nextDtc 0, p.nextDtc 1, p.nextDtc 2] }

/-- The PWM unit's part of a tick: all of R520 but the delivery of the trigger edges (41_pwm.md R520). -/
def Pwm.tick (p : Pwm) : Pwm :=
  let q := p.prescale
  let c := if q.2 then q.1.count else q.1
  (c.triggers q.2).outputCompare

/-! ### Pins (41_pwm.md R535) -/

/-- The value of an output pin (10_state.md R157). -/
inductive PinLevel where
  | low | high | z
  deriving DecidableEq, Repr

/-- `CCkE`, k-1 given. -/
def Pwm.highEnabled (p : Pwm) (k : Fin 3) : Bool := p.ccer.getLsbD (2 * k.val)

/-- `CCkNE`, k-1 given. -/
def Pwm.lowEnabled (p : Pwm) (k : Fin 3) : Bool := p.ccer.getLsbD (2 * k.val + 1)

/-- The pin `OCk`, k-1 given (41_pwm.md R535). -/
def Pwm.oc (p : Pwm) (k : Fin 3) : PinLevel :=
  if p.moe then (if p.highEnabled k && p.dtc[k] == 0 && p.ocref[k] then .high else .low)
  else if p.ossi then .low else .z

/-- The pin `OCkN`, k-1 given (41_pwm.md R535). -/
def Pwm.ocn (p : Pwm) (k : Fin 3) : PinLevel :=
  if p.moe then (if p.lowEnabled k && p.dtc[k] == 0 && !p.ocref[k] then .high else .low)
  else if p.ossi then .low else .z

/-! ### Meanings -/

/-- `PWM.CR1.RD` (41_pwm.md R500). -/
def execPwmCr1Rd (lane : Lane) (s : State) : Host.Outcome State Fault Refusal :=
  Cpu.runRead s lane (.value (s.pwm.read .cr1) s)

/-- `PWM.CR1.WR` (41_pwm.md R501). -/
def execPwmCr1Wr (v : Word) (s : State) : Host.Outcome State Fault Refusal :=
  Cpu.runWrite s (s.pwmWrite .cr1 v)

/-- `PWM.CR2.RD` (41_pwm.md R500). -/
def execPwmCr2Rd (lane : Lane) (s : State) : Host.Outcome State Fault Refusal :=
  Cpu.runRead s lane (.value (s.pwm.read .cr2) s)

/-- `PWM.CR2.WR` (41_pwm.md R502). -/
def execPwmCr2Wr (v : Word) (s : State) : Host.Outcome State Fault Refusal :=
  Cpu.runWrite s (s.pwmWrite .cr2 v)

/-- `PWM.SR.RD` (41_pwm.md R500). -/
def execPwmSrRd (lane : Lane) (s : State) : Host.Outcome State Fault Refusal :=
  Cpu.runRead s lane (.value (s.pwm.read .sr) s)

/-- `PWM.SR.WR` (41_pwm.md R503). -/
def execPwmSrWr (v : Word) (s : State) : Host.Outcome State Fault Refusal :=
  Cpu.runWrite s (s.pwmWrite .sr v)

/-- `PWM.EGR.RD` (41_pwm.md R500). -/
def execPwmEgrRd (lane : Lane) (s : State) : Host.Outcome State Fault Refusal :=
  Cpu.runRead s lane (.value (s.pwm.read .egr) s)

/-- `PWM.EGR.WR` (41_pwm.md R512). -/
def execPwmEgrWr (v : Word) (s : State) : Host.Outcome State Fault Refusal :=
  Cpu.runWrite s (s.pwmWrite .egr v)

/-- `PWM.CCMR.RD` (41_pwm.md R500). -/
def execPwmCcmrRd (lane : Lane) (s : State) : Host.Outcome State Fault Refusal :=
  Cpu.runRead s lane (.value (s.pwm.read .ccmr) s)

/-- `PWM.CCMR.WR` (41_pwm.md R504). -/
def execPwmCcmrWr (v : Word) (s : State) : Host.Outcome State Fault Refusal :=
  Cpu.runWrite s (s.pwmWrite .ccmr v)

/-- `PWM.CCER.RD` (41_pwm.md R500). -/
def execPwmCcerRd (lane : Lane) (s : State) : Host.Outcome State Fault Refusal :=
  Cpu.runRead s lane (.value (s.pwm.read .ccer) s)

/-- `PWM.CCER.WR` (41_pwm.md R505). -/
def execPwmCcerWr (v : Word) (s : State) : Host.Outcome State Fault Refusal :=
  Cpu.runWrite s (s.pwmWrite .ccer v)

/-- `PWM.CNT.RD` (41_pwm.md R500). -/
def execPwmCntRd (lane : Lane) (s : State) : Host.Outcome State Fault Refusal :=
  Cpu.runRead s lane (.value (s.pwm.read .cnt) s)

/-- `PWM.CNT.WR` (41_pwm.md R506). -/
def execPwmCntWr (v : Word) (s : State) : Host.Outcome State Fault Refusal :=
  Cpu.runWrite s (s.pwmWrite .cnt v)

/-- `PWM.PSC.RD` (41_pwm.md R500). -/
def execPwmPscRd (lane : Lane) (s : State) : Host.Outcome State Fault Refusal :=
  Cpu.runRead s lane (.value (s.pwm.read .psc) s)

/-- `PWM.PSC.WR` (41_pwm.md R507). -/
def execPwmPscWr (v : Word) (s : State) : Host.Outcome State Fault Refusal :=
  Cpu.runWrite s (s.pwmWrite .psc v)

/-- `PWM.ARR.RD` (41_pwm.md R500). -/
def execPwmArrRd (lane : Lane) (s : State) : Host.Outcome State Fault Refusal :=
  Cpu.runRead s lane (.value (s.pwm.read .arr) s)

/-- `PWM.ARR.WR` (41_pwm.md R508). -/
def execPwmArrWr (v : Word) (s : State) : Host.Outcome State Fault Refusal :=
  Cpu.runWrite s (s.pwmWrite .arr v)

/-- `PWM.RCR.RD` (41_pwm.md R500). -/
def execPwmRcrRd (lane : Lane) (s : State) : Host.Outcome State Fault Refusal :=
  Cpu.runRead s lane (.value (s.pwm.read .rcr) s)

/-- `PWM.RCR.WR` (41_pwm.md R509). -/
def execPwmRcrWr (v : Word) (s : State) : Host.Outcome State Fault Refusal :=
  Cpu.runWrite s (s.pwmWrite .rcr v)

/-- `PWM.CCR1.RD` (41_pwm.md R500). -/
def execPwmCcr1Rd (lane : Lane) (s : State) : Host.Outcome State Fault Refusal :=
  Cpu.runRead s lane (.value (s.pwm.read .ccr1) s)

/-- `PWM.CCR1.WR` (41_pwm.md R510). -/
def execPwmCcr1Wr (v : Word) (s : State) : Host.Outcome State Fault Refusal :=
  Cpu.runWrite s (s.pwmWrite .ccr1 v)

/-- `PWM.CCR2.RD` (41_pwm.md R500). -/
def execPwmCcr2Rd (lane : Lane) (s : State) : Host.Outcome State Fault Refusal :=
  Cpu.runRead s lane (.value (s.pwm.read .ccr2) s)

/-- `PWM.CCR2.WR` (41_pwm.md R510). -/
def execPwmCcr2Wr (v : Word) (s : State) : Host.Outcome State Fault Refusal :=
  Cpu.runWrite s (s.pwmWrite .ccr2 v)

/-- `PWM.CCR3.RD` (41_pwm.md R500). -/
def execPwmCcr3Rd (lane : Lane) (s : State) : Host.Outcome State Fault Refusal :=
  Cpu.runRead s lane (.value (s.pwm.read .ccr3) s)

/-- `PWM.CCR3.WR` (41_pwm.md R510). -/
def execPwmCcr3Wr (v : Word) (s : State) : Host.Outcome State Fault Refusal :=
  Cpu.runWrite s (s.pwmWrite .ccr3 v)

/-- `PWM.CCR4.RD` (41_pwm.md R500). -/
def execPwmCcr4Rd (lane : Lane) (s : State) : Host.Outcome State Fault Refusal :=
  Cpu.runRead s lane (.value (s.pwm.read .ccr4) s)

/-- `PWM.CCR4.WR` (41_pwm.md R510). -/
def execPwmCcr4Wr (v : Word) (s : State) : Host.Outcome State Fault Refusal :=
  Cpu.runWrite s (s.pwmWrite .ccr4 v)

/-- `PWM.CCR5.RD` (41_pwm.md R500). -/
def execPwmCcr5Rd (lane : Lane) (s : State) : Host.Outcome State Fault Refusal :=
  Cpu.runRead s lane (.value (s.pwm.read .ccr5) s)

/-- `PWM.CCR5.WR` (41_pwm.md R510). -/
def execPwmCcr5Wr (v : Word) (s : State) : Host.Outcome State Fault Refusal :=
  Cpu.runWrite s (s.pwmWrite .ccr5 v)

/-- `PWM.BDTR.RD` (41_pwm.md R500). -/
def execPwmBdtrRd (lane : Lane) (s : State) : Host.Outcome State Fault Refusal :=
  Cpu.runRead s lane (.value (s.pwm.read .bdtr) s)

/-- `PWM.BDTR.WR` (41_pwm.md R511). -/
def execPwmBdtrWr (v : Word) (s : State) : Host.Outcome State Fault Refusal :=
  Cpu.runWrite s (s.pwmWrite .bdtr v)

end Sys2Proof.Machine
end

