-- ==== Sys2Proof/Machine/Ram.lean ====
section
/-! DEFINITION. The meaning of each RAM and TRIM transaction (20_memory.md R204 to R206). -/
namespace Sys2Proof.Machine

/-- A host read of RAM (20_memory.md R205). -/
def State.ramRead (s : State) (n : Size) (off : BitVec 32) : ReadResult := .value (s.memRead n (s.ramAddr off)) s

/-- A host write of RAM: `v mod 2^(8n)` is stored (20_memory.md R205, 40_bus.md R421). -/
def State.ramWrite (s : State) (n : Size) (off : BitVec 32) (v : Word) : Except FaultRecord State :=
  .ok (s.memWrite n (s.ramAddr off) v)

/-- `RAM.RD8` (20_memory.md R205). -/
def execRamRd8 (off : BitVec 32) (s : State) : Host.Outcome State Fault Refusal :=
  Cpu.runRead s .word (s.ramRead .b1 off)

/-- `RAM.RD16` (20_memory.md R205). -/
def execRamRd16 (off : BitVec 32) (s : State) : Host.Outcome State Fault Refusal :=
  Cpu.runRead s .word (s.ramRead .b2 off)

/-- `RAM.RD32` (20_memory.md R205). -/
def execRamRd32 (off : BitVec 32) (s : State) : Host.Outcome State Fault Refusal :=
  Cpu.runRead s .word (s.ramRead .b4 off)

/-- `RAM.WR8` (20_memory.md R206). -/
def execRamWr8 (off : BitVec 32) (d : Word) (s : State) : Host.Outcome State Fault Refusal :=
  Cpu.runWrite s (s.ramWrite .b1 off d)

/-- `RAM.WR16` (20_memory.md R206). -/
def execRamWr16 (off : BitVec 32) (d : Word) (s : State) : Host.Outcome State Fault Refusal :=
  Cpu.runWrite s (s.ramWrite .b2 off d)

/-- `RAM.WR32` (20_memory.md R206). -/
def execRamWr32 (off : BitVec 32) (d : Word) (s : State) : Host.Outcome State Fault Refusal :=
  Cpu.runWrite s (s.ramWrite .b4 off d)

/-- `TRIM.RD8` (20_memory.md R205). -/
def execTrimRd8 (off : BitVec 1) (s : State) : Host.Outcome State Fault Refusal :=
  Cpu.runRead s .word (.value (s.trimRead .b1 off) s)

/-- `TRIM.RD16` (20_memory.md R205). -/
def execTrimRd16 (s : State) : Host.Outcome State Fault Refusal :=
  Cpu.runRead s .word (.value (s.trimRead .b2 0) s)

end Sys2Proof.Machine
end

