-- ==== Sys2Proof/Machine/Xform.lean ====
section
/-! DEFINITION. The transform unit (45_xform.md): registers and the six transforms, in binary32; then the meaning of each XFORM
transaction. -/
namespace Sys2Proof.Machine

/-- The 32-bit value an XFORM register reads (45_xform.md R850). -/
def Xform.read (x : Xform) : XformReg → Word
  | .ctrl => x.op.setWidth 32
  | .in0 => x.inp[0]
  | .in1 => x.inp[1]
  | .in2 => x.inp[2]
  | .in3 => x.inp[3]
  | .out0 => x.out[0]
  | .out1 => x.out[1]
  | .out2 => x.out[2]
  | .out3 => x.out[3]

/-- `i_beta` of Clarke (45_xform.md R861). -/
def clarkeBeta (ia ib : Word) : Word := F32.div (F32.add ia (F32.add ib ib)) Config.sqrt3

/-- OP 0, NOP (45_xform.md R860). -/
def Xform.nop (x : Xform) : Xform := { x with op := 0 }

/-- OP 1, CLARKE (45_xform.md R861). -/
def Xform.clarke (x : Xform) : Xform :=
  { x with op := 1, out := #v[x.inp[0], clarkeBeta x.inp[0] x.inp[1], x.out[2], x.out[3]] }

/-- OP 2, PARK (45_xform.md R862). -/
def Xform.park (x : Xform) : Xform :=
  { x with
    op := 2
    out := #v[F32.add (F32.mul x.inp[0] x.inp[3]) (F32.mul x.inp[1] x.inp[2]),
      F32.sub (F32.mul x.inp[1] x.inp[3]) (F32.mul x.inp[0] x.inp[2]), x.out[2], x.out[3]] }

/-- OP 3, IPARK (45_xform.md R863). -/
def Xform.ipark (x : Xform) : Xform :=
  { x with
    op := 3
    out := #v[F32.sub (F32.mul x.inp[0] x.inp[3]) (F32.mul x.inp[1] x.inp[2]),
      F32.add (F32.mul x.inp[1] x.inp[3]) (F32.mul x.inp[0] x.inp[2]), x.out[2], x.out[3]] }

/-- `SECTOR(N)` (45_xform.md R864). -/
def svpwmSector : Nat → Word
  | 1 => 2
  | 2 => 6
  | 3 => 1
  | 4 => 4
  | 5 => 3
  | 6 => 5
  | _ => 0

/-- The scale M of SVPWM: max_pwm if finite and above 0, else +0 (45_xform.md R864). -/
def svpwmScale (maxPwm : Word) : Word := if F32.isFinite maxPwm && F32.lt 0 maxPwm then maxPwm else 0

/-- One duty of SVPWM from a phase value and the zero-sequence offset (45_xform.md R864). -/
def svpwmDuty (v vo m : Word) : Word := F32.mul (F32.clamp01 (F32.add Config.half (F32.add v vo))) m

/-- `[P]`: 1 if P holds, else 0 (45_xform.md R864). -/
def oneIf (b : Bool) : Nat := if b then 1 else 0

/-- OP 4, SVPWM (45_xform.md R864). -/
def Xform.svpwm (x : Xform) : Xform :=
  let va := x.inp[0]
  let vb := F32.add (F32.mul (F32.neg Config.half) x.inp[0]) (F32.mul Config.sqrt3Half x.inp[1])
  let vc := F32.sub (F32.mul (F32.neg Config.half) x.inp[0]) (F32.mul Config.sqrt3Half x.inp[1])
  let mx := F32.max (F32.max va vb) vc
  let mn := F32.min (F32.min va vb) vc
  let vo := F32.neg (F32.mul Config.half (F32.add mx mn))
  let m := svpwmScale x.inp[2]
  let r1 := x.inp[1]
  let r2 := F32.sub (F32.mul Config.sqrt3Half x.inp[0]) (F32.mul Config.half x.inp[1])
  let r3 := F32.sub (F32.mul (F32.neg Config.sqrt3Half) x.inp[0]) (F32.mul Config.half x.inp[1])
  let n := oneIf (F32.lt 0 r1) + 2 * oneIf (F32.lt 0 r2) + 4 * oneIf (F32.lt 0 r3)
  { x with op := 4, out := #v[svpwmDuty va vo m, svpwmDuty vb vo m, svpwmDuty vc vo m, svpwmSector n] }

/-- OP 5, CLARKE_PARK (45_xform.md R865). -/
def Xform.clarkePark (x : Xform) : Xform :=
  let a := x.inp[0]
  let b := clarkeBeta x.inp[0] x.inp[1]
  { x with
    op := 5
    out := #v[F32.add (F32.mul a x.inp[3]) (F32.mul b x.inp[2]), F32.sub (F32.mul b x.inp[3]) (F32.mul a x.inp[2]), a, b] }

/-- Write of `CTRL` (45_xform.md R851): a reserved code is refused, else the transform runs in the same step. -/
def Xform.writeCtrl (x : Xform) (v : Word) : Except FaultRecord Xform :=
  match (Word.field v 0 3).toNat with
  | 0 => .ok x.nop
  | 1 => .ok x.clarke
  | 2 => .ok x.park
  | 3 => .ok x.ipark
  | 4 => .ok x.svpwm
  | 5 => .ok x.clarkePark
  | n => .error (FaultRecord.ofNat .xformBadOp n)

/-- Write of `INk`, k given (45_xform.md R852). -/
def Xform.writeIn (x : Xform) (k : Fin 4) (v : Word) : Xform := { x with inp := x.inp.set k v }

/-- The write rule of each XFORM register; `OUTk` is read-only (45_xform.md R850 to R852). -/
def Xform.write (x : Xform) (r : XformReg) (v : Word) : Except FaultRecord Xform :=
  match r with
  | .ctrl => x.writeCtrl v
  | .in0 => .ok (x.writeIn 0 v)
  | .in1 => .ok (x.writeIn 1 v)
  | .in2 => .ok (x.writeIn 2 v)
  | .in3 => .ok (x.writeIn 3 v)
  | .out0 => .ok x
  | .out1 => .ok x
  | .out2 => .ok x
  | .out3 => .ok x

/-- A write of an XFORM register, on the state. -/
def State.xformWrite (s : State) (r : XformReg) (v : Word) : Except FaultRecord State :=
  match s.xform.write r v with
  | .error f => .error f
  | .ok x => .ok { s with xform := x }

/-- A `CTRL` write that runs one transform; the RSV bits above OP have no effect (45_xform.md R851; log entry 11). -/
def State.runXform (s : State) (f : Xform → Xform) : Except FaultRecord State := .ok { s with xform := f s.xform }

/-! ### Meanings -/

/-- `XFORM.CTRL.RD` (45_xform.md R850). -/
def execXformCtrlRd (lane : Lane) (s : State) : Host.Outcome State Fault Refusal :=
  Cpu.runRead s lane (.value (s.xform.read .ctrl) s)

/-- `XFORM.CTRL.WR.NOP` (45_xform.md R860). -/
def execXformCtrlWrNop (_hi : BitVec 29) (s : State) : Host.Outcome State Fault Refusal :=
  Cpu.runWrite s (s.runXform Xform.nop)

/-- `XFORM.CTRL.WR.CLARKE` (45_xform.md R861). -/
def execXformCtrlWrClarke (_hi : BitVec 29) (s : State) : Host.Outcome State Fault Refusal :=
  Cpu.runWrite s (s.runXform Xform.clarke)

/-- `XFORM.CTRL.WR.PARK` (45_xform.md R862). -/
def execXformCtrlWrPark (_hi : BitVec 29) (s : State) : Host.Outcome State Fault Refusal :=
  Cpu.runWrite s (s.runXform Xform.park)

/-- `XFORM.CTRL.WR.IPARK` (45_xform.md R863). -/
def execXformCtrlWrIpark (_hi : BitVec 29) (s : State) : Host.Outcome State Fault Refusal :=
  Cpu.runWrite s (s.runXform Xform.ipark)

/-- `XFORM.CTRL.WR.SVPWM` (45_xform.md R864). -/
def execXformCtrlWrSvpwm (_hi : BitVec 29) (s : State) : Host.Outcome State Fault Refusal :=
  Cpu.runWrite s (s.runXform Xform.svpwm)

/-- `XFORM.CTRL.WR.CLARKE_PARK` (45_xform.md R865). -/
def execXformCtrlWrClarkePark (_hi : BitVec 29) (s : State) : Host.Outcome State Fault Refusal :=
  Cpu.runWrite s (s.runXform Xform.clarkePark)

/-- `XFORM.IN0.RD` (45_xform.md R850). -/
def execXformIn0Rd (lane : Lane) (s : State) : Host.Outcome State Fault Refusal :=
  Cpu.runRead s lane (.value (s.xform.read .in0) s)

/-- `XFORM.IN0.WR` (45_xform.md R852). -/
def execXformIn0Wr (v : Word) (s : State) : Host.Outcome State Fault Refusal :=
  Cpu.runWrite s (s.xformWrite .in0 v)

/-- `XFORM.IN1.RD` (45_xform.md R850). -/
def execXformIn1Rd (lane : Lane) (s : State) : Host.Outcome State Fault Refusal :=
  Cpu.runRead s lane (.value (s.xform.read .in1) s)

/-- `XFORM.IN1.WR` (45_xform.md R852). -/
def execXformIn1Wr (v : Word) (s : State) : Host.Outcome State Fault Refusal :=
  Cpu.runWrite s (s.xformWrite .in1 v)

/-- `XFORM.IN2.RD` (45_xform.md R850). -/
def execXformIn2Rd (lane : Lane) (s : State) : Host.Outcome State Fault Refusal :=
  Cpu.runRead s lane (.value (s.xform.read .in2) s)

/-- `XFORM.IN2.WR` (45_xform.md R852). -/
def execXformIn2Wr (v : Word) (s : State) : Host.Outcome State Fault Refusal :=
  Cpu.runWrite s (s.xformWrite .in2 v)

/-- `XFORM.IN3.RD` (45_xform.md R850). -/
def execXformIn3Rd (lane : Lane) (s : State) : Host.Outcome State Fault Refusal :=
  Cpu.runRead s lane (.value (s.xform.read .in3) s)

/-- `XFORM.IN3.WR` (45_xform.md R852). -/
def execXformIn3Wr (v : Word) (s : State) : Host.Outcome State Fault Refusal :=
  Cpu.runWrite s (s.xformWrite .in3 v)

/-- `XFORM.OUT0.RD` (45_xform.md R850). -/
def execXformOut0Rd (lane : Lane) (s : State) : Host.Outcome State Fault Refusal :=
  Cpu.runRead s lane (.value (s.xform.read .out0) s)

/-- `XFORM.OUT0.WR` (45_xform.md R850). -/
def execXformOut0Wr (v : Word) (s : State) : Host.Outcome State Fault Refusal :=
  Cpu.runWrite s (s.xformWrite .out0 v)

/-- `XFORM.OUT1.RD` (45_xform.md R850). -/
def execXformOut1Rd (lane : Lane) (s : State) : Host.Outcome State Fault Refusal :=
  Cpu.runRead s lane (.value (s.xform.read .out1) s)

/-- `XFORM.OUT1.WR` (45_xform.md R850). -/
def execXformOut1Wr (v : Word) (s : State) : Host.Outcome State Fault Refusal :=
  Cpu.runWrite s (s.xformWrite .out1 v)

/-- `XFORM.OUT2.RD` (45_xform.md R850). -/
def execXformOut2Rd (lane : Lane) (s : State) : Host.Outcome State Fault Refusal :=
  Cpu.runRead s lane (.value (s.xform.read .out2) s)

/-- `XFORM.OUT2.WR` (45_xform.md R850). -/
def execXformOut2Wr (v : Word) (s : State) : Host.Outcome State Fault Refusal :=
  Cpu.runWrite s (s.xformWrite .out2 v)

/-- `XFORM.OUT3.RD` (45_xform.md R850). -/
def execXformOut3Rd (lane : Lane) (s : State) : Host.Outcome State Fault Refusal :=
  Cpu.runRead s lane (.value (s.xform.read .out3) s)

/-- `XFORM.OUT3.WR` (45_xform.md R850). -/
def execXformOut3Wr (v : Word) (s : State) : Host.Outcome State Fault Refusal :=
  Cpu.runWrite s (s.xformWrite .out3 v)

end Sys2Proof.Machine
end

