-- ==== Sys2Proof/Machine/Bus.lean ====
section
/-! DEFINITION. The bus: the read and write rule of every register, and the two bus primitives of the host (40_bus.md R410, R411)
and of DMA (R412). -/
namespace Sys2Proof.Machine

/-- The read rule of every register (30_encoding.md R303). -/
def State.regRead (s : State) : Reg → ReadResult
  | .pwm r => .value (s.pwm.read r) s
  | .adc u .dr => s.adcReadDr u
  | .adc u .isr => s.adcRead u .isr
  | .adc u .ier => s.adcRead u .ier
  | .adc u .cr => s.adcRead u .cr
  | .adc u .cfgr => s.adcRead u .cfgr
  | .adc u .smpr1 => s.adcRead u .smpr1
  | .adc u .smpr2 => s.adcRead u .smpr2
  | .adc u .sqr1 => s.adcRead u .sqr1
  | .adc u .jsqr => s.adcRead u .jsqr
  | .adc u .jdr1 => s.adcRead u .jdr1
  | .adc u .jdr2 => s.adcRead u .jdr2
  | .adc u .jdr3 => s.adcRead u .jdr3
  | .adc u .jdr4 => s.adcRead u .jdr4
  | .dma c r => .value (s.dma[c].read r) s
  | .dmamux c => .value (s.readRouter c) s
  | .cordic .csr => .value s.cordic.readCsr s
  | .cordic .wdata => .value 0 s
  | .cordic .rdata => s.readRdata
  | .xform r => .value (s.xform.read r) s
  | .intc r => .value (s.intcRead r) s

/-- The write rule of every register (30_encoding.md R303). -/
def State.regWrite (s : State) (r : Reg) (v : Word) : Except FaultRecord State :=
  match r with
  | .pwm r => s.pwmWrite r v
  | .adc u .cr => s.adcWriteCr u v
  | .adc u .isr => s.adcWrite u .isr v
  | .adc u .ier => s.adcWrite u .ier v
  | .adc u .cfgr => s.adcWrite u .cfgr v
  | .adc u .smpr1 => s.adcWrite u .smpr1 v
  | .adc u .smpr2 => s.adcWrite u .smpr2 v
  | .adc u .sqr1 => s.adcWrite u .sqr1 v
  | .adc u .dr => s.adcWrite u .dr v
  | .adc u .jsqr => s.adcWrite u .jsqr v
  | .adc u .jdr1 => s.adcWrite u .jdr1 v
  | .adc u .jdr2 => s.adcWrite u .jdr2 v
  | .adc u .jdr3 => s.adcWrite u .jdr3 v
  | .adc u .jdr4 => s.adcWrite u .jdr4 v
  | .dma c r => s.dmaWrite c r v
  | .dmamux c => s.writeRouter c v
  | .cordic r => s.cordicWrite r v
  | .xform r => s.xformWrite r v
  | .intc r => s.intcWrite r v

/-! ### The host's bus primitives -/

/-- `BusRead(a, n)` by the host: the accessed value, the state with its side effect, a hold or a fault (40_bus.md R410). -/
def State.hostRead (s : State) (n : Size) (a : Word) : Lane × ReadResult :=
  match locate s.params n a with
  | .error e => (.word, .fault (rejectFault e))
  | .ok (.ram off) => (.word, s.ramRead n off)
  | .ok (.trim off) => (.word, .value (s.trimRead n off) s)
  | .ok (.reg r lane) => (lane, s.regRead r)

/-- `BusWrite(a, n, v)` by the host (40_bus.md R411). -/
def State.hostWrite (s : State) (n : Size) (a v : Word) : Except FaultRecord State :=
  match locate s.params n a with
  | .error e => .error (rejectFault e)
  | .ok (.ram off) => s.ramWrite n off v
  | .ok (.trim _) => .error (rejectFault (.readOnly a))
  | .ok (.reg r _) =>
    match n with
    | .b4 => s.regWrite r v
    | .b2 => .error (rejectFault (.subWordWrite a))
    | .b1 => .error (rejectFault (.subWordWrite a))

/-- A transaction of the host as the operation of the current statement (40_bus.md R420 to R422). -/
def Cpu.transact (s : State) : Transaction → StmtResult
  | .rd n a =>
    let r := s.hostRead n a
    Cpu.finishRead s r.1 r.2
  | .wr n a d => Cpu.finishWrite (s.hostWrite n a d)

/-! ### The bus primitives of a DMA beat (40_bus.md R412) -/

/-- What the read of a DMA beat gives. -/
inductive DmaRead where
  | value (v : Word) (s : State)
  /-- The register holds the read: the beat is not enabled (44_cordic.md R814). -/
  | hold
  /-- A failed bus check, or a CORDIC read with no result: a transfer error (43_dma.md R735, 44_cordic.md R814). -/
  | error
  deriving DecidableEq, Repr

/-- `DMA-BusRead(a, n)` (43_dma.md R730). -/
def State.dmaBusRead (s : State) (n : Size) (a : Word) : DmaRead :=
  let r := s.hostRead n a
  match r.2 with
  | .value v t => .value (Lane.take r.1 v) t
  | .hold => .hold
  | .fault _ => .error

/-- What the write of a DMA beat gives. -/
inductive DmaWrite where
  | done (s : State)
  /-- A failed bus check: a transfer error (43_dma.md R735). -/
  | error
  /-- A precondition of the unit's write rule: a fatal fault (40_bus.md R412). -/
  | fault (f : FaultRecord)
  deriving DecidableEq, Repr

/-- `DMA-BusWrite(a, n, v)` (43_dma.md R730). -/
def State.dmaBusWrite (s : State) (n : Size) (a v : Word) : DmaWrite :=
  match locate s.params n a with
  | .error _ => .error
  | .ok (.ram off) => .done (s.memWrite n (s.ramAddr off) v)
  | .ok (.trim _) => .error
  | .ok (.reg r _) =>
    match n with
    | .b4 =>
      match s.regWrite r v with
      | .ok t => .done t
      | .error f => .fault f
    | .b2 => .error
    | .b1 => .error

end Sys2Proof.Machine
end

