-- ==== Sys2Proof/Machine/Operations.lean ====
section
/-! DEFINITION. The driver operations (30_encoding.md R330) as the statement lists their rules give, with the operands of the call
substituted, and the reference programs (60_exceptions.md R1040 to R1042, 70_reset_and_hazards.md R1111). A `dest` argument is the
local the call names for a result (40_bus.md R427; log entry 7). -/
namespace Sys2Proof.Machine

/-! ### Writing expressions -/

/-- The address of a register, `UNIT.REG` (30_encoding.md R332). -/
def regE (p : Params) (r : Reg) : Expr := .num (r.address p : Nat)

/-- The address of register r of the DMA channel an expression names (10_state.md R130). -/
def dmaE (p : Params) (c : Expr) (r : DmaReg) : Expr :=
  .bin .add (.num (p.dmaBase + r.offset : Nat)) (.bin .mul (.num 0x20) c)

/-- The address of the router register of the channel an expression names (10_state.md R134). -/
def routerE (p : Params) (c : Expr) : Expr := .bin .add (.num p.dmamuxBase) (.bin .mul (.num 4) c)

/-- A binary32 constant or other word as a numeral. -/
def wordE (v : Word) : Expr := .num v.toNat

def addE (a b : Expr) : Expr := .bin .add a b
def subE (a b : Expr) : Expr := .bin .sub a b
def mulE (a b : Expr) : Expr := .bin .mul a b
def andE (a b : Expr) : Expr := .bin .bitAnd a b
def orE (a b : Expr) : Expr := .bin .bitOr a b
def shlE (a b : Expr) : Expr := .bin .shl a b
def shrE (a b : Expr) : Expr := .bin .shr a b
def gtE (a : Expr) (n : Int) : Expr := .bin .gt a (.num n)
def ltE (a : Expr) (n : Int) : Expr := .bin .lt a (.num n)

/-- The largest of three. -/
def max3E (a b c : Expr) : Expr := .bin .max (.bin .max a b) c

/-- `a or b or c`. -/
def or3E (a b c : Expr) : Expr := .bin .boolOr (.bin .boolOr a b) c

/-- `(k = index) ? name : else`. -/
def destOr (dests : List LocalName) (k : Nat) (own : LocalName) : LocalName := (dests[k]?).getD own

/-! ### PWM (41_pwm.md section 5) -/

/-- `PWM_CONFIGURE(p)` (41_pwm.md R550). -/
def bodyPwmConfigure (p : Params) (period : Expr) : Prog :=
  [.brFault (.bin .boolOr (ltE period 2) (gtE period 65536)) .pwmBadArg period,
   .wr .b4 (regE p (.pwm .cr1)) (.num 0x0),
   .wr .b4 (regE p (.pwm .cr2)) (.num 0x0),
   .wr .b4 (regE p (.pwm .cr1)) (.num 0x2),
   .wr .b4 (regE p (.pwm .arr)) (subE period (.num 1)),
   .wr .b4 (regE p (.pwm .psc)) (.num 0x0),
   .wr .b4 (regE p (.pwm .rcr)) (.num 0x1),
   .wr .b4 (regE p (.pwm .ccmr)) (.num 0x3EEE),
   .wr .b4 (regE p (.pwm .ccer)) (.num 0x3F),
   .call .pwmDeadtimeTicks [.pwmConfigureDt],
   .wr .b4 (regE p (.pwm .bdtr)) (orE (.loc .pwmConfigureDt) (.num 0x400)),
   .wr .b4 (regE p (.pwm .ccr1)) (.num 0x0),
   .wr .b4 (regE p (.pwm .ccr2)) (.num 0x0),
   .wr .b4 (regE p (.pwm .ccr3)) (.num 0x0),
   .wr .b4 (regE p (.pwm .ccr4)) (subE period (.num 2)),
   .wr .b4 (regE p (.pwm .ccr5)) (.num 0x1),
   .wr .b4 (regE p (.pwm .cr2)) (.num 0xF),
   .wr .b4 (regE p (.pwm .egr)) (.num 0x1),
   .wr .b4 (regE p (.pwm .sr)) (.num 0x1),
   .wr .b4 (regE p (.pwm .cr1)) (.num 0x3)]

/-- `PWM_DEADTIME_TICKS() -> dt` (41_pwm.md R552). -/
def bodyPwmDeadtimeTicks (p : Params) (dt : LocalName) : Prog :=
  [.set dt (.bin .min (.num 255)
    (.bin .div (addE (mulE (.num p.fTim) (.num p.dtNs)) (.num 999999999)) (.num 1000000000)))]

/-- `PWM_ENABLE_OUTPUTS()` (41_pwm.md R553). -/
def bodyPwmEnableOutputs (p : Params) : Prog :=
  [.rd .pwmEnableOutputsB .b4 (regE p (.pwm .bdtr)),
   .wr .b4 (regE p (.pwm .bdtr)) (orE (.loc .pwmEnableOutputsB) (.num 0x8000))]

/-- `(d * n) >> 16` (41_pwm.md R554). -/
def dutyE (d : Expr) : Expr := shrE (mulE d (.loc .pwmSetDutyN)) (.num 16)

/-- `PWM_SET_DUTY(a, b, c)` (41_pwm.md R554). -/
def bodyPwmSetDuty (p : Params) (a b c : Expr) : Prog :=
  [.brFault (or3E (gtE a 65535) (gtE b 65535) (gtE c 65535)) .pwmBadArg (max3E a b c),
   .rd .pwmSetDutyR .b4 (regE p (.pwm .arr)),
   .set .pwmSetDutyN (addE (.loc .pwmSetDutyR) (.num 1)),
   .wr .b4 (regE p (.pwm .ccr1)) (dutyE a),
   .wr .b4 (regE p (.pwm .ccr2)) (dutyE b),
   .wr .b4 (regE p (.pwm .ccr3)) (dutyE c)]

/-! ### ADC (42_adc.md section 4) -/

/-- `ADC_POWERUP_CALIBRATE(u)` (42_adc.md R660). -/
def bodyAdcPowerupCalibrate (p : Params) (u : AdcUnit) : Prog :=
  [.wr .b4 (regE p (.adc u .cr)) (.num 0x00000000),
   .wr .b4 (regE p (.adc u .cr)) (.num 0x10000000),
   .poll (regE p (.adc u .isr)) (.num 0x1000) (.num 0x1000),
   .wait p.settle,
   .wr .b4 (regE p (.adc u .cr)) (.num 0x90000000),
   .poll (regE p (.adc u .cr)) (.num 0x80000000) (.num 0x0)]

/-- `ADC_ENABLE(u)` (42_adc.md R661). -/
def bodyAdcEnable (p : Params) (u : AdcUnit) : Prog :=
  [.rd .adcEnableC .b4 (regE p (.adc u .cr)),
   .br (andE (.loc .adcEnableC) (.num 0x1)) 4,
   .wr .b4 (regE p (.adc u .cr)) (orE (andE (.loc .adcEnableC) (.num 0x70000000)) (.num 0x1)),
   .poll (regE p (.adc u .isr)) (.num 0x1) (.num 0x1)]

/-- `ADC_START(u)` (42_adc.md R662). -/
def bodyAdcStart (p : Params) (u : AdcUnit) : Prog :=
  [.rd .adcStartC .b4 (regE p (.adc u .cr)),
   .wr .b4 (regE p (.adc u .cr)) (orE (andE (.loc .adcStartC) (.num 0x70000000)) (.num 0xC))]

/-- `(n <= 9) ? (code << 3n) : 0` (42_adc.md R663, R664). -/
def smpLowE (n code : Expr) : Expr := .cond (.bin .le n (.num 9)) (shlE code (mulE (.num 3) n)) (.num 0)

/-- `(n >= 10) ? (code << 3(n-10)) : 0` (42_adc.md R663, R664). -/
def smpHighE (n code : Expr) : Expr :=
  .cond (.bin .ge n (.num 10)) (shlE code (mulE (.num 3) (subE n (.num 10)))) (.num 0)

/-- `ADC_CONFIGURE_PRODUCTION(u, rch, j1, j2)` (42_adc.md R663). The rule writes 18, the default of CH_MAX, and
60_exceptions.md R1002 "above `CH_MAX`": DESIGN CHOICE (log entry 36). -/
def bodyAdcConfigureProduction (p : Params) (u : AdcUnit) (rch j1 j2 : Expr) : Prog :=
  let long : Expr := .num p.smpLong
  [.brFault (or3E (gtE rch p.chMax) (gtE j1 p.chMax) (gtE j2 p.chMax)) .adcBadChannel (max3E rch j1 j2),
   .wr .b4 (regE p (.adc u .cfgr)) (.num 0x3001),
   .set .adcConfigureProductionS1 (orE (orE (smpLowE rch long) (smpLowE j1 long)) (smpLowE j2 long)),
   .set .adcConfigureProductionS2 (orE (orE (smpHighE rch long) (smpHighE j1 long)) (smpHighE j2 long)),
   .wr .b4 (regE p (.adc u .smpr1)) (.loc .adcConfigureProductionS1),
   .wr .b4 (regE p (.adc u .smpr2)) (.loc .adcConfigureProductionS2),
   .wr .b4 (regE p (.adc u .sqr1)) (shlE rch (.num 6)),
   .wr .b4 (regE p (.adc u .jsqr)) (orE (orE (orE (orE (.num 0x1) (shlE (.num 0) (.num 2))) (shlE (.num 1) (.num 7)))
     (shlE j1 (.num 9))) (shlE j2 (.num 15))),
   .rd .adcConfigureProductionE .b4 (regE p (.adc u .ier)),
   .wr .b4 (regE p (.adc u .ier)) (orE (.loc .adcConfigureProductionE) (.num 0x40))]

/-- `ADC_ONE_SHOT(u, ch, n, smp) -> avg`: the checks and the saved registers (42_adc.md R664). The rule writes 18, the default
of CH_MAX: DESIGN CHOICE (log entry 36). -/
def oneShotSave (p : Params) (u : AdcUnit) (ch : Expr) : Prog :=
  [.brFault (gtE ch p.chMax) .adcBadChannel ch,
   .rd .adcOneShotC .b4 (regE p (.adc u .cr)),
   .brFault (.bin .ne (andE (.loc .adcOneShotC) (.num 0xC)) (.num 0)) .adcOneshotRun (.num (AdcUnit.num u)),
   .rd .adcOneShotQ .b4 (regE p (.adc u .sqr1)),
   .rd .adcOneShotM1 .b4 (regE p (.adc u .smpr1)),
   .rd .adcOneShotM2 .b4 (regE p (.adc u .smpr2)),
   .rd .adcOneShotG .b4 (regE p (.adc u .cfgr)),
   .rd .adcOneShotE .b4 (regE p (.adc u .ier))]

/-- `ADC_ONE_SHOT`: zero, reprogram and enable (42_adc.md R664). -/
def oneShotSetup (p : Params) (u : AdcUnit) (ch smp : Expr) : Prog :=
  [.wr .b4 (regE p (.adc u .ier)) (.num 0),
   .wr .b4 (regE p (.adc u .sqr1)) (.num 0),
   .wr .b4 (regE p (.adc u .smpr1)) (.num 0),
   .wr .b4 (regE p (.adc u .smpr2)) (.num 0),
   .wr .b4 (regE p (.adc u .cfgr)) (.num 0),
   .wr .b4 (regE p (.adc u .smpr1)) (smpLowE ch smp),
   .wr .b4 (regE p (.adc u .smpr2)) (smpHighE ch smp),
   .wr .b4 (regE p (.adc u .sqr1)) (shlE ch (.num 6)),
   .call (.adcEnable u) [],
   .wr .b4 (regE p (.adc u .isr)) (.num 0x1C)]

/-- `ADC_ONE_SHOT`: the sampling loop, whose label `loop` is statement 20 (42_adc.md R664). -/
def oneShotLoop (p : Params) (u : AdcUnit) (n : Expr) : Prog :=
  [.set .adcOneShotAcc (.num 0),
   .set .adcOneShotI (.num 0),
   .rd .adcOneShotC2 .b4 (regE p (.adc u .cr)),
   .wr .b4 (regE p (.adc u .cr)) (orE (andE (.loc .adcOneShotC2) (.num 0x70000000)) (.num 0x4)),
   .poll (regE p (.adc u .isr)) (.num 0x4) (.num 0x4),
   .rd .adcOneShotD .b4 (regE p (.adc u .dr)),
   .set .adcOneShotAcc (addE (.loc .adcOneShotAcc) (andE (.loc .adcOneShotD) (.num 0xFFFF))),
   .set .adcOneShotI (addE (.loc .adcOneShotI) (.num 1)),
   .br (.bin .lt (.loc .adcOneShotI) n) 20]

/-- `ADC_ONE_SHOT`: restore, and the average (42_adc.md R664). -/
def oneShotRestore (p : Params) (u : AdcUnit) (n : Expr) (avg : LocalName) : Prog :=
  [.wr .b4 (regE p (.adc u .isr)) (.num 0x8),
   .wr .b4 (regE p (.adc u .cfgr)) (.loc .adcOneShotG),
   .wr .b4 (regE p (.adc u .smpr1)) (.loc .adcOneShotM1),
   .wr .b4 (regE p (.adc u .smpr2)) (.loc .adcOneShotM2),
   .wr .b4 (regE p (.adc u .sqr1)) (.loc .adcOneShotQ),
   .wr .b4 (regE p (.adc u .ier)) (.loc .adcOneShotE),
   .set avg (.bin .div (.loc .adcOneShotAcc) n)]

/-- `ADC_ONE_SHOT(u, ch, n, smp) -> avg` (42_adc.md R664). -/
def bodyAdcOneShot (p : Params) (u : AdcUnit) (ch n smp : Expr) (avg : LocalName) : Prog :=
  oneShotSave p u ch ++ oneShotSetup p u ch smp ++ oneShotLoop p u n ++ oneShotRestore p u n avg

/-- `ADC_GET_AVERAGE(u, ch) -> avg` (42_adc.md R665). -/
def bodyAdcGetAverage (p : Params) (u : AdcUnit) (ch : Expr) (avg : LocalName) : Prog :=
  [.call (.adcOneShot u ch (.num 64) (.num p.smpMax)) [avg]]

/-- `ADC_REFERENCE_VOLTAGE() -> ref` (42_adc.md R666). DESIGN CHOICE, unsafe for a launch with another value: where R666 writes the
constant F3_0 (00_scope.md R13) the model takes the parameter REF_CAL_V of R8, whose default is that constant, and REF_FALLBACK, which
R8 and R13 both give, is the parameter (log entry 36). -/
def bodyAdcReferenceVoltage (p : Params) (ref : LocalName) : Prog :=
  [.rd .adcReferenceVoltageC .b2 (.num p.trimAddr),
   .br (.bin .boolOr (.bin .lt (.loc .adcReferenceVoltageC) (.num p.vrefCalMin.toNat))
     (.bin .gt (.loc .adcReferenceVoltageC) (.num p.vrefCalMax.toNat))) 4,
   .set ref (.bin .fDiv (.bin .fMul (wordE p.refCalV) (.un .f32OfInt (.loc .adcReferenceVoltageC))) (wordE Config.f4095)),
   .jmp 5,
   .set ref (wordE p.refFallback)]

/-- `ADC_VREF_CALIBRATE() -> vref_cal` (42_adc.md R667). -/
def bodyAdcVrefCalibrate (p : Params) (vrefCal : LocalName) : Prog :=
  [.call .adcReferenceVoltage [.adcVrefCalibrateRef],
   .call (.adcOneShot .one (.num p.chVrefint) (.num 128) (.num p.smpMax)) [.adcVrefCalibrateAvg],
   .brFault (.bin .eq (.loc .adcVrefCalibrateAvg) (.num 0)) .adcVrefZero (.num 0),
   .set vrefCal (.bin .fDiv (.loc .adcVrefCalibrateRef)
     (.bin .fDiv (.un .f32OfInt (.loc .adcVrefCalibrateAvg)) (wordE Config.f4095)))]

/-- `ADC_CLEAR_INJECTED_FLAG(u)` (42_adc.md R668). -/
def bodyAdcClearInjectedFlag (p : Params) (u : AdcUnit) : Prog := [.wr .b4 (regE p (.adc u .isr)) (.num 0x40)]

/-- `ADC_READ_INJECTED_FLAG(u) -> flag` (42_adc.md R669). -/
def bodyAdcReadInjectedFlag (p : Params) (u : AdcUnit) (flag : LocalName) : Prog :=
  [.rd .adcReadInjectedFlagF .b4 (regE p (.adc u .isr)),
   .set flag (andE (shrE (.loc .adcReadInjectedFlagF) (.num 6)) (.num 1))]

/-- `ADC_READ_INJECTED_DATA(u, k) -> code`; JDRk is at JDR1 + 4(k-1) (42_adc.md R670, 10_state.md R120). -/
def bodyAdcReadInjectedData (p : Params) (u : AdcUnit) (k : Expr) (code : LocalName) : Prog :=
  [.brFault (.bin .boolOr (ltE k 1) (gtE k 2)) .adcBadRank k,
   .rd .adcReadInjectedDataD .b4 (addE (regE p (.adc u .jdr1)) (mulE (.num 4) (subE k (.num 1)))),
   .set code (andE (.loc .adcReadInjectedDataD) (.num 0xFFFF))]

/-- `ADC_RAW_DR_ADDRESS(u) -> a` (42_adc.md R671). -/
def bodyAdcRawDrAddress (p : Params) (u : AdcUnit) (a : LocalName) : Prog := [.set a (addE (.num ((Window.adc u).base p : Nat)) (.num 0x40))]

/-! ### DMA (43_dma.md section 4) -/

/-- The check each DMA operation begins with (43_dma.md section 4). The section writes 15, which is N_DMA - 1 at the default: DESIGN
CHOICE (log entry 36). -/
def channelCheck (p : Params) (c : Expr) : Stmt := .brFault (gtE c (p.nDma - 1)) .dmaBadChannel c

/-- `DMAMUX_MAP(c, id)` (43_dma.md R750). -/
def bodyDmamuxMap (p : Params) (c rid : Expr) : Prog := [channelCheck p c, .wr .b4 (routerE p c) rid]

/-- `DMA_BIND(c, pa)` (43_dma.md R751). -/
def bodyDmaBind (p : Params) (c pa : Expr) : Prog :=
  [channelCheck p c, .wr .b4 (dmaE p c .cpar) pa, .wr .b4 (dmaE p c .ccr) (.num 0x5A2)]

/-- `DMA_START(c, buf, len)` (43_dma.md R752). -/
def bodyDmaStart (p : Params) (c buf len : Expr) : Prog :=
  [channelCheck p c,
   .brFault (.bin .boolOr (ltE len 1) (gtE len 65535)) .dmaBadConfig c,
   .call (.dmaClearAll c) [],
   .wr .b4 (dmaE p c .cmar) buf,
   .wr .b4 (dmaE p c .cndtr) len,
   .rd .dmaStartR .b4 (dmaE p c .ccr),
   .wr .b4 (dmaE p c .ccr) (orE (.loc .dmaStartR) (.num 0x1))]

/-- `DMA_STOP(c)` (43_dma.md R753). -/
def bodyDmaStop (p : Params) (c : Expr) : Prog :=
  [channelCheck p c,
   .rd .dmaStopR .b4 (dmaE p c .ccr),
   .wr .b4 (dmaE p c .ccr) (andE (.loc .dmaStopR) (.un .bitNot (.num 0x1))),
   .poll (dmaE p c .ccr) (.num 0x1) (.num 0x0)]

/-- `DMA_TC(c) -> flag` (43_dma.md R754). -/
def bodyDmaTc (p : Params) (c : Expr) (flag : LocalName) : Prog :=
  [channelCheck p c,
   .rd .dmaTcF .b4 (dmaE p c .cisr),
   .set flag (andE (shrE (.loc .dmaTcF) (.num 1)) (.num 1))]

/-- `DMA_CLEAR_TC(c)` (43_dma.md R755). -/
def bodyDmaClearTc (p : Params) (c : Expr) : Prog := [channelCheck p c, .wr .b4 (dmaE p c .cifcr) (.num 0x2)]

/-- `DMA_CLEAR_ALL(c)` (43_dma.md R756). -/
def bodyDmaClearAll (p : Params) (c : Expr) : Prog := [channelCheck p c, .wr .b4 (dmaE p c .cifcr) (.num 0x1)]

/-! ### CORDIC (44_cordic.md sections 3 and 4) -/

/-- `FLOAT_TO_Q31(v) -> q` (44_cordic.md R820). -/
def bodyFloatToQ31 (v : Expr) (q : LocalName) : Prog := [.set q (.un .q31OfF32 v)]

/-- `Q31_TO_FLOAT(q) -> f` (44_cordic.md R821). -/
def bodyQ31ToFloat (q : Expr) (f : LocalName) : Prog := [.set f (.un .f32OfQ31 q)]

/-- `0x1 | (CORDIC_PRECISION << 4) | (1 << 19)` (44_cordic.md R830). -/
def cordicModeE (p : Params) : Expr := orE (orE (.num 0x1) (shlE (.num p.cordicPrecision) (.num 4))) (shlE (.num 1) (.num 19))

/-- `CORDIC_INIT()` (44_cordic.md R830). -/
def bodyCordicInit (p : Params) : Prog :=
  [.wr .b4 (regE p (.cordic .csr)) (orE (cordicModeE p) (shlE (.num 1) (.num 20))),
   .wr .b4 (regE p (.cordic .wdata)) (.num 0x00000000),
   .wr .b4 (regE p (.cordic .wdata)) (.num 0x7FFFFFFF),
   .rd .cordicInitD1 .b4 (regE p (.cordic .rdata)),
   .rd .cordicInitD2 .b4 (regE p (.cordic .rdata)),
   .wr .b4 (regE p (.cordic .csr)) (cordicModeE p)]

/-- `CORDIC_COMPUTE(t) -> (s, c)` (44_cordic.md R831). -/
def bodyCordicCompute (p : Params) (t : Expr) (sn cs : LocalName) : Prog :=
  [.call (.floatToQ31 t) [.cordicComputeQ],
   .wr .b4 (regE p (.cordic .wdata)) (.loc .cordicComputeQ),
   .rd .cordicComputeR1 .b4 (regE p (.cordic .rdata)),
   .rd .cordicComputeR2 .b4 (regE p (.cordic .rdata)),
   .call (.q31ToFloat (.loc .cordicComputeR1)) [sn],
   .call (.q31ToFloat (.loc .cordicComputeR2)) [cs]]

/-- `CORDIC_REQUEST(t)` (44_cordic.md R832). -/
def bodyCordicRequest (p : Params) (t : Expr) : Prog :=
  [.call (.floatToQ31 t) [.cordicRequestQ], .wr .b4 (regE p (.cordic .wdata)) (.loc .cordicRequestQ)]

/-- `CORDIC_COLLECT() -> (s, c)` (44_cordic.md R833). -/
def bodyCordicCollect (p : Params) (sn cs : LocalName) : Prog :=
  [.rd .cordicCollectR1 .b4 (regE p (.cordic .rdata)),
   .rd .cordicCollectR2 .b4 (regE p (.cordic .rdata)),
   .call (.q31ToFloat (.loc .cordicCollectR1)) [sn],
   .call (.q31ToFloat (.loc .cordicCollectR2)) [cs]]

/-! ### XFORM (45_xform.md section 3) -/

/-- `XF_RUN(op, x0, x1, x2, x3) -> (y0, y1, y2, y3)` (45_xform.md R870). -/
def bodyXfRun (p : Params) (op x0 x1 x2 x3 : Expr) (y0 y1 y2 y3 : LocalName) : Prog :=
  [.brFault (gtE op 5) .xformBadOp op,
   .wr .b4 (regE p (.xform .in0)) x0,
   .wr .b4 (regE p (.xform .in1)) x1,
   .wr .b4 (regE p (.xform .in2)) x2,
   .wr .b4 (regE p (.xform .in3)) x3,
   .wr .b4 (regE p (.xform .ctrl)) op,
   .rd y0 .b4 (regE p (.xform .out0)),
   .rd y1 .b4 (regE p (.xform .out1)),
   .rd y2 .b4 (regE p (.xform .out2)),
   .rd y3 .b4 (regE p (.xform .out3))]

/-! ### The expansion of each operation -/

/-- The statements of a driver operation, with the locals its call names for its results; a bus transaction is no operation and
expands to nothing (30_encoding.md R330, 40_bus.md R427). -/
def expansion (p : Params) (i : Instr) (dests : List LocalName) : Prog :=
  match i with
  | .pwmCr1Rd _ => []
  | .pwmCr1Wr _ => []
  | .pwmCr2Rd _ => []
  | .pwmCr2Wr _ => []
  | .pwmSrRd _ => []
  | .pwmSrWr _ => []
  | .pwmEgrRd _ => []
  | .pwmEgrWr _ => []
  | .pwmCcmrRd _ => []
  | .pwmCcmrWr _ => []
  | .pwmCcerRd _ => []
  | .pwmCcerWr _ => []
  | .pwmCntRd _ => []
  | .pwmCntWr _ => []
  | .pwmPscRd _ => []
  | .pwmPscWr _ => []
  | .pwmArrRd _ => []
  | .pwmArrWr _ => []
  | .pwmRcrRd _ => []
  | .pwmRcrWr _ => []
  | .pwmCcr1Rd _ => []
  | .pwmCcr1Wr _ => []
  | .pwmCcr2Rd _ => []
  | .pwmCcr2Wr _ => []
  | .pwmCcr3Rd _ => []
  | .pwmCcr3Wr _ => []
  | .pwmCcr4Rd _ => []
  | .pwmCcr4Wr _ => []
  | .pwmCcr5Rd _ => []
  | .pwmCcr5Wr _ => []
  | .pwmBdtrRd _ => []
  | .pwmBdtrWr _ => []
  | .adc1IsrRd _ => []
  | .adc1IsrWr _ => []
  | .adc1IerRd _ => []
  | .adc1IerWr _ => []
  | .adc1CrRd _ => []
  | .adc1CrWr _ => []
  | .adc1CfgrRd _ => []
  | .adc1CfgrWr _ => []
  | .adc1Smpr1Rd _ => []
  | .adc1Smpr1Wr _ => []
  | .adc1Smpr2Rd _ => []
  | .adc1Smpr2Wr _ => []
  | .adc1Sqr1Rd _ => []
  | .adc1Sqr1Wr _ => []
  | .adc1DrRd _ => []
  | .adc1DrWr _ => []
  | .adc1JsqrRd _ => []
  | .adc1JsqrWr _ => []
  | .adc1Jdr1Rd _ => []
  | .adc1Jdr1Wr _ => []
  | .adc1Jdr2Rd _ => []
  | .adc1Jdr2Wr _ => []
  | .adc1Jdr3Rd _ => []
  | .adc1Jdr3Wr _ => []
  | .adc1Jdr4Rd _ => []
  | .adc1Jdr4Wr _ => []
  | .adc2IsrRd _ => []
  | .adc2IsrWr _ => []
  | .adc2IerRd _ => []
  | .adc2IerWr _ => []
  | .adc2CrRd _ => []
  | .adc2CrWr _ => []
  | .adc2CfgrRd _ => []
  | .adc2CfgrWr _ => []
  | .adc2Smpr1Rd _ => []
  | .adc2Smpr1Wr _ => []
  | .adc2Smpr2Rd _ => []
  | .adc2Smpr2Wr _ => []
  | .adc2Sqr1Rd _ => []
  | .adc2Sqr1Wr _ => []
  | .adc2DrRd _ => []
  | .adc2DrWr _ => []
  | .adc2JsqrRd _ => []
  | .adc2JsqrWr _ => []
  | .adc2Jdr1Rd _ => []
  | .adc2Jdr1Wr _ => []
  | .adc2Jdr2Rd _ => []
  | .adc2Jdr2Wr _ => []
  | .adc2Jdr3Rd _ => []
  | .adc2Jdr3Wr _ => []
  | .adc2Jdr4Rd _ => []
  | .adc2Jdr4Wr _ => []
  | .dmaCcrRd _ _ => []
  | .dmaCcrWr _ _ => []
  | .dmaCndtrRd _ _ => []
  | .dmaCndtrWr _ _ => []
  | .dmaCparRd _ _ => []
  | .dmaCparWr _ _ => []
  | .dmaCmarRd _ _ => []
  | .dmaCmarWr _ _ => []
  | .dmaCisrRd _ _ => []
  | .dmaCisrWr _ _ => []
  | .dmaCifcrRd _ _ => []
  | .dmaCifcrWr _ _ => []
  | .dmamuxCxcrRd _ _ => []
  | .dmamuxCxcrWr _ _ => []
  | .cordicCsrRd _ => []
  | .cordicCsrWr _ => []
  | .cordicWdataRd _ => []
  | .cordicWdataWr _ => []
  | .cordicRdataRd _ => []
  | .cordicRdataWr _ => []
  | .xformCtrlRd _ => []
  | .xformCtrlWrNop _ => []
  | .xformCtrlWrClarke _ => []
  | .xformCtrlWrPark _ => []
  | .xformCtrlWrIpark _ => []
  | .xformCtrlWrSvpwm _ => []
  | .xformCtrlWrClarkePark _ => []
  | .xformIn0Rd _ => []
  | .xformIn0Wr _ => []
  | .xformIn1Rd _ => []
  | .xformIn1Wr _ => []
  | .xformIn2Rd _ => []
  | .xformIn2Wr _ => []
  | .xformIn3Rd _ => []
  | .xformIn3Wr _ => []
  | .xformOut0Rd _ => []
  | .xformOut0Wr _ => []
  | .xformOut1Rd _ => []
  | .xformOut1Wr _ => []
  | .xformOut2Rd _ => []
  | .xformOut2Wr _ => []
  | .xformOut3Rd _ => []
  | .xformOut3Wr _ => []
  | .intcCtrlRd _ => []
  | .intcCtrlWr _ => []
  | .intcIerRd _ => []
  | .intcIerWr _ => []
  | .intcIprRd _ => []
  | .intcIprWr _ => []
  | .intcIabrRd _ => []
  | .intcIabrWr _ => []
  | .intcCurpriRd _ => []
  | .intcCurpriWr _ => []
  | .intcEoiRd _ => []
  | .intcEoiWr _ => []
  | .intcActiveRd _ => []
  | .intcActiveWr _ => []
  | .ramRd8 _ => []
  | .ramRd16 _ => []
  | .ramRd32 _ => []
  | .ramWr8 _ _ => []
  | .ramWr16 _ _ => []
  | .ramWr32 _ _ => []
  | .trimRd8 _ => []
  | .trimRd16 => []
  | .pwmConfigure period => bodyPwmConfigure p period
  | .pwmDeadtimeTicks => bodyPwmDeadtimeTicks p (destOr dests 0 .pwmDeadtimeTicksDt)
  | .pwmEnableOutputs => bodyPwmEnableOutputs p
  | .pwmSetDuty a b c => bodyPwmSetDuty p a b c
  | .adcPowerupCalibrate u => bodyAdcPowerupCalibrate p u
  | .adcEnable u => bodyAdcEnable p u
  | .adcStart u => bodyAdcStart p u
  | .adcConfigureProduction u rch j1 j2 => bodyAdcConfigureProduction p u rch j1 j2
  | .adcOneShot u ch n smp => bodyAdcOneShot p u ch n smp (destOr dests 0 .adcOneShotAvg)
  | .adcGetAverage u ch => bodyAdcGetAverage p u ch (destOr dests 0 .adcGetAverageAvg)
  | .adcReferenceVoltage => bodyAdcReferenceVoltage p (destOr dests 0 .adcReferenceVoltageRef)
  | .adcVrefCalibrate => bodyAdcVrefCalibrate p (destOr dests 0 .adcVrefCalibrateVrefCal)
  | .adcClearInjectedFlag u => bodyAdcClearInjectedFlag p u
  | .adcReadInjectedFlag u => bodyAdcReadInjectedFlag p u (destOr dests 0 .adcReadInjectedFlagFlag)
  | .adcReadInjectedData u k => bodyAdcReadInjectedData p u k (destOr dests 0 .adcReadInjectedDataCode)
  | .adcRawDrAddress u => bodyAdcRawDrAddress p u (destOr dests 0 .adcRawDrAddressA)
  | .dmamuxMap c rid => bodyDmamuxMap p c rid
  | .dmaBind c pa => bodyDmaBind p c pa
  | .dmaStart c buf len => bodyDmaStart p c buf len
  | .dmaStop c => bodyDmaStop p c
  | .dmaTc c => bodyDmaTc p c (destOr dests 0 .dmaTcFlag)
  | .dmaClearTc c => bodyDmaClearTc p c
  | .dmaClearAll c => bodyDmaClearAll p c
  | .floatToQ31 v => bodyFloatToQ31 v (destOr dests 0 .floatToQ31Q)
  | .q31ToFloat q => bodyQ31ToFloat q (destOr dests 0 .q31ToFloatF)
  | .cordicInit => bodyCordicInit p
  | .cordicCompute t => bodyCordicCompute p t (destOr dests 0 .cordicComputeS) (destOr dests 1 .cordicComputeC)
  | .cordicRequest t => bodyCordicRequest p t
  | .cordicCollect => bodyCordicCollect p (destOr dests 0 .cordicCollectS) (destOr dests 1 .cordicCollectC)
  | .xfRun op x0 x1 x2 x3 => bodyXfRun p op x0 x1 x2 x3 (destOr dests 0 .xfRunY0) (destOr dests 1 .xfRunY1) (destOr dests 2 .xfRunY2) (destOr dests 3 .xfRunY3)

/-! ### Reference programs (60_exceptions.md R1040 to R1042, 70_reset_and_hazards.md R1111) -/

/-- `CB + offset`, an address of the control block (60_exceptions.md R1042). -/
def cbE (p : Params) (offset : Nat) : Expr := .num (p.ramBase + offset : Nat)

/-- The u32 write `WR CB+offset, E`. -/
def cbWrite (p : Params) (offset : Nat) (e : Expr) : Stmt := .wr .b4 (cbE p offset) e

/-- The first 19 statements of the boot program (70_reset_and_hazards.md R1111): units and DMA. Its locals vc, oa, ob, a1, a2 are
user locals 0 to 4. -/
def bootUnits (p : Params) : Prog :=
  [.call (.pwmConfigure (.num 8500)) [],
   .call (.adcPowerupCalibrate .one) [],
   .call (.adcPowerupCalibrate .two) [],
   .call .adcVrefCalibrate [.user 0],
   cbWrite p 0x10 (.loc (.user 0)),
   .call (.adcGetAverage .one (.num 1)) [.user 1],
   cbWrite p 0x14 (.loc (.user 1)),
   .call (.adcGetAverage .two (.num 3)) [.user 2],
   cbWrite p 0x18 (.loc (.user 2)),
   .call (.adcConfigureProduction .one (.num 16) (.num 1) (.num 2)) [],
   .call (.adcConfigureProduction .two (.num 5) (.num 3) (.num 4)) [],
   .call (.dmamuxMap (.num 0) (.num 1)) [],
   .call (.dmamuxMap (.num 1) (.num 2)) [],
   .call (.adcRawDrAddress .one) [.user 3],
   .call (.dmaBind (.num 0) (.loc (.user 3))) [],
   .call (.adcRawDrAddress .two) [.user 4],
   .call (.dmaBind (.num 1) (.loc (.user 4))) [],
   .call (.dmaStart (.num 0) (cbE p 0x100) (.num 16)) [],
   .call (.dmaStart (.num 1) (cbE p 0x200) (.num 16)) []]

/-- The rest of the boot program (70_reset_and_hazards.md R1111): the control block, interrupts and the starts. -/
def bootStart (p : Params) : Prog :=
  [.call .cordicInit [],
   cbWrite p 0x00 (.num 0x00000000),
   cbWrite p 0x04 (.num 0x00000000),
   cbWrite p 0x08 (.num 0x00000000),
   cbWrite p 0x0C (.num 0x477FFF00),
   cbWrite p 0x24 (.num 0),
   cbWrite p 0x40 (.num 0),
   cbWrite p 0x44 (.num 0),
   .wr .b4 (regE p (.intc .ier)) (.num 0x00000007),
   .wr .b4 (regE p (.intc .ctrl)) (.num 0x1),
   .call (.adcEnable .one) [],
   .call (.adcEnable .two) [],
   .call (.adcStart .one) [],
   .call (.adcStart .two) [],
   .call .pwmEnableOutputs [],
   .halt]

/-- `PROG_BG` (70_reset_and_hazards.md R1111). -/
def progBg (p : Params) : Prog := bootUnits p ++ bootStart p

/-- `(f32(r - o) (*) vr) (/) F4095` (60_exceptions.md R1040). -/
def phaseVoltE (r o vr : LocalName) : Expr :=
  .bin .fDiv (.bin .fMul (.un .f32OfInt (subE (.loc r) (.loc o))) (.loc vr)) (wordE Config.f4095)

/-- `VEC(0)`, the injected-conversion handler (60_exceptions.md R1040). Its locals ra, rb, th, s, c, vr, oa, ob, ia, ib, id, iq, al,
be, vd, vq, va, vb, u2, u3, mp, da, db, dc, sec, n are user locals 0 to 25. -/
def injectedHandler (p : Params) : Prog :=
  [.call (.adcReadInjectedData .one (.num 1)) [.user 0],
   .call (.adcReadInjectedData .two (.num 1)) [.user 1],
   .call (.adcClearInjectedFlag .one) [],
   .call (.adcClearInjectedFlag .two) [],
   .rd (.user 2) .b4 (cbE p 0x00),
   .call (.cordicCompute (.loc (.user 2))) [.user 3, .user 4],
   .rd (.user 5) .b4 (cbE p 0x10),
   .rd (.user 6) .b4 (cbE p 0x14),
   .rd (.user 7) .b4 (cbE p 0x18),
   .set (.user 8) (phaseVoltE (.user 0) (.user 6) (.user 5)),
   .set (.user 9) (phaseVoltE (.user 1) (.user 7) (.user 5)),
   .call (.xfRun (.num 5) (.loc (.user 8)) (.loc (.user 9)) (.loc (.user 3)) (.loc (.user 4)))
     [.user 10, .user 11, .user 12, .user 13],
   cbWrite p 0x1C (.loc (.user 10)),
   cbWrite p 0x20 (.loc (.user 11)),
   .rd (.user 14) .b4 (cbE p 0x04),
   .rd (.user 15) .b4 (cbE p 0x08),
   .call (.xfRun (.num 3) (.loc (.user 14)) (.loc (.user 15)) (.loc (.user 3)) (.loc (.user 4)))
     [.user 16, .user 17, .user 18, .user 19],
   .rd (.user 20) .b4 (cbE p 0x0C),
   .call (.xfRun (.num 4) (.loc (.user 16)) (.loc (.user 17)) (.loc (.user 20)) (.num 0))
     [.user 21, .user 22, .user 23, .user 24],
   .call (.pwmSetDuty (.un .cvtU (.loc (.user 21))) (.un .cvtU (.loc (.user 22))) (.un .cvtU (.loc (.user 23)))) [],
   .rd (.user 25) .b4 (cbE p 0x24),
   cbWrite p 0x24 (addE (.loc (.user 25)) (.num 1)),
   .wr .b4 (regE p (.intc .eoi)) (.num 0),
   .ret]

/-- `VEC(1 + c)`, the transfer-complete handler of DMA channel c; t and n are user locals 0 and 1, and the label `out` is statement
5 (60_exceptions.md R1041). -/
def transferHandler (p : Params) (c : Fin 16) : Prog :=
  [.call (.dmaTc (.num c.val)) [.user 0],
   .br (.bin .eq (.loc (.user 0)) (.num 0)) 5,
   .call (.dmaClearTc (.num c.val)) [],
   .rd (.user 1) .b4 (cbE p (0x40 + 4 * c.val)),
   cbWrite p (0x40 + 4 * c.val) (addE (.loc (.user 1)) (.num 1)),
   .wr .b4 (regE p (.intc .eoi)) (.num 0),
   .ret]

/-- The handler programs of the reference boot (70_reset_and_hazards.md R1111). -/
def referenceVec (p : Params) : Vector (Option Prog) 17 :=
  #v[some (injectedHandler p), some (transferHandler p 0), some (transferHandler p 1), none, none, none, none, none, none, none, none,
    none, none, none, none, none, none]

end Sys2Proof.Machine
end

