-- ==== Sys2Proof/Machine/Statements.lean ====
section
/-! DEFINITION. The host statements (40_bus.md R420 to R427), and the meaning of each driver operation: its CALL as one step. -/
namespace Sys2Proof.Machine

/-- `WAIT N`: N steps, each of which counts, and the last of which advances pc; `WAIT 0` is one step that advances pc (40_bus.md R403,
R423; log entry 17). -/
def Cpu.runWait (s : State) (n : Nat) : StmtResult :=
  if s.top.waits + 1 < n then .done (s.setTop { s.top with waits := s.top.waits + 1 }) else .done s.advance

/-- `LET x = E` (40_bus.md R424). -/
def Cpu.runSet (s : State) (x : LocalName) (e : Expr) : StmtResult :=
  match s.evalWord e with
  | .error f => .fault f
  | .ok v => .done (s.setTop (s.top.setLocal x v)).advance

/-- `pc <- L` (40_bus.md R404). -/
def Cpu.runJmp (s : State) (l : Nat) : StmtResult := .done (s.setTop (s.top.jump l))

/-- `BR C, L` (40_bus.md R425). -/
def Cpu.runBr (s : State) (c : Expr) (l : Nat) : StmtResult :=
  match s.eval c with
  | .error f => .fault f
  | .ok v => if v ≠ 0 then Cpu.runJmp s l else .done s.advance

/-- `BR C, FAULT(code, info)` (40_bus.md R425). -/
def Cpu.runBrFault (s : State) (c : Expr) (code : FaultCode) (info : Expr) : StmtResult :=
  match s.eval c with
  | .error f => .fault f
  | .ok v =>
    if v ≠ 0 then
      match s.eval info with
      | .error f => .fault f
      | .ok n => .fault ⟨code, .num n⟩
    else .done s.advance

/-- `HALT`, and the end of the list (40_bus.md R404, R426). The background's pc stays where it is: R426 names none (DESIGN CHOICE, log
entry 39). -/
def Cpu.runHalt (s : State) : StmtResult :=
  match s.handlers with
  | [] => .done { s with halted := true }
  | h :: _ => .fault ⟨.hostPcRange, lineInfo h.line⟩

/-- `RET` (40_bus.md R426, 60_exceptions.md R1033). -/
def Cpu.runRet (s : State) : StmtResult :=
  match s.leaveHandler with
  | .error f => .fault f
  | .ok t => .done t

/-- `RD x, A`, by its transaction (40_bus.md R420). -/
def Cpu.runRd (s : State) (n : Size) (a : Expr) : StmtResult :=
  match s.evalWord a with
  | .error f => .fault f
  | .ok w => Cpu.transact s (.rd n w)

/-- The transaction of `WR A, E` (40_bus.md R421). -/
def State.wrTransaction (s : State) (n : Size) (a e : Expr) : Except FaultRecord Transaction :=
  match s.evalWord a with
  | .error f => .error f
  | .ok w =>
    match s.evalWord e with
    | .error f => .error f
    | .ok d => .ok (.wr n w (Size.trunc n d))

/-- `WR A, E`, by its transaction (40_bus.md R421). -/
def Cpu.runWr (s : State) (n : Size) (a e : Expr) : StmtResult :=
  match s.wrTransaction n a e with
  | .error f => .fault f
  | .ok t => Cpu.transact s t

/-- One step of the statement at the top activity's position, when it is not a CALL. -/
def Cpu.runStmt (s : State) : Stmt → StmtResult
  | .rd _ n a => Cpu.runRd s n a
  | .wr n a e => Cpu.runWr s n a e
  | .poll a _ _ => Cpu.runRd s .b4 a
  | .wait n => Cpu.runWait s n
  | .set x e => Cpu.runSet s x e
  | .br c l => Cpu.runBr s c l
  | .brFault c code info => Cpu.runBrFault s c code info
  | .jmp l => Cpu.runJmp s l
  | .call _ _ => .hold
  | .ret => Cpu.runRet s
  | .halt => Cpu.runHalt s

/-- The locals that the current CALL names for results (40_bus.md R427). -/
def State.callDests (s : State) : List LocalName :=
  match s.top.current with
  | some (.call _ d) => d
  | _ => []

/-- The top activity enters an expansion; when its first statement is itself a CALL, that one too. No operation nests deeper than
`depth` = 2 at its first statement (40_bus.md R427). -/
def State.enterCalls : Nat → Prog → State → State
  | 0, body, s => s.setTop (s.top.expand body)
  | depth + 1, body, s =>
    match body with
    | .call j ds :: _ => State.enterCalls depth (expansion s.params j ds) (s.setTop (s.top.expand body))
    | _ => s.setTop (s.top.expand body)

/-- `CALL M(args) -> dests`: in one step the expansion is entered and its first statement executed, since a CALL is exactly the
execution of its statements (30_encoding.md R330, 40_bus.md R427; log entry 7). An empty expansion is none of the operations. -/
def Cpu.runCall (s : State) (body : Prog) : StmtResult :=
  let t := State.enterCalls 2 body s
  match t.top.current with
  | some st => Cpu.runStmt t st
  | none => .done s.advance

/-! ### Meanings -/

/-- `PWM_CONFIGURE` (41_pwm.md R550). -/
def execPwmConfigure (p : Expr) (s : State) : Host.Outcome State Fault Refusal :=
  Cpu.outcome s (Cpu.runCall s (bodyPwmConfigure s.params p))

/-- `PWM_DEADTIME_TICKS` (41_pwm.md R552). -/
def execPwmDeadtimeTicks (s : State) : Host.Outcome State Fault Refusal :=
  Cpu.outcome s (Cpu.runCall s (bodyPwmDeadtimeTicks s.params (destOr s.callDests 0 .pwmDeadtimeTicksDt)))

/-- `PWM_ENABLE_OUTPUTS` (41_pwm.md R553). -/
def execPwmEnableOutputs (s : State) : Host.Outcome State Fault Refusal :=
  Cpu.outcome s (Cpu.runCall s (bodyPwmEnableOutputs s.params))

/-- `PWM_SET_DUTY` (41_pwm.md R554). -/
def execPwmSetDuty (a : Expr) (b : Expr) (c : Expr) (s : State) : Host.Outcome State Fault Refusal :=
  Cpu.outcome s (Cpu.runCall s (bodyPwmSetDuty s.params a b c))

/-- `ADC_POWERUP_CALIBRATE` (42_adc.md R660). -/
def execAdcPowerupCalibrate (u : AdcUnit) (s : State) : Host.Outcome State Fault Refusal :=
  Cpu.outcome s (Cpu.runCall s (bodyAdcPowerupCalibrate s.params u))

/-- `ADC_ENABLE` (42_adc.md R661). -/
def execAdcEnable (u : AdcUnit) (s : State) : Host.Outcome State Fault Refusal :=
  Cpu.outcome s (Cpu.runCall s (bodyAdcEnable s.params u))

/-- `ADC_START` (42_adc.md R662). -/
def execAdcStart (u : AdcUnit) (s : State) : Host.Outcome State Fault Refusal :=
  Cpu.outcome s (Cpu.runCall s (bodyAdcStart s.params u))

/-- `ADC_CONFIGURE_PRODUCTION` (42_adc.md R663). -/
def execAdcConfigureProduction (u : AdcUnit) (rch : Expr) (j1 : Expr) (j2 : Expr) (s : State) : Host.Outcome State Fault Refusal :=
  Cpu.outcome s (Cpu.runCall s (bodyAdcConfigureProduction s.params u rch j1 j2))

/-- `ADC_ONE_SHOT` (42_adc.md R664). -/
def execAdcOneShot (u : AdcUnit) (ch : Expr) (n : Expr) (smp : Expr) (s : State) : Host.Outcome State Fault Refusal :=
  Cpu.outcome s (Cpu.runCall s (bodyAdcOneShot s.params u ch n smp (destOr s.callDests 0 .adcOneShotAvg)))

/-- `ADC_GET_AVERAGE` (42_adc.md R665). -/
def execAdcGetAverage (u : AdcUnit) (ch : Expr) (s : State) : Host.Outcome State Fault Refusal :=
  Cpu.outcome s (Cpu.runCall s (bodyAdcGetAverage s.params u ch (destOr s.callDests 0 .adcGetAverageAvg)))

/-- `ADC_REFERENCE_VOLTAGE` (42_adc.md R666). -/
def execAdcReferenceVoltage (s : State) : Host.Outcome State Fault Refusal :=
  Cpu.outcome s (Cpu.runCall s (bodyAdcReferenceVoltage s.params (destOr s.callDests 0 .adcReferenceVoltageRef)))

/-- `ADC_VREF_CALIBRATE` (42_adc.md R667). -/
def execAdcVrefCalibrate (s : State) : Host.Outcome State Fault Refusal :=
  Cpu.outcome s (Cpu.runCall s (bodyAdcVrefCalibrate s.params (destOr s.callDests 0 .adcVrefCalibrateVrefCal)))

/-- `ADC_CLEAR_INJECTED_FLAG` (42_adc.md R668). -/
def execAdcClearInjectedFlag (u : AdcUnit) (s : State) : Host.Outcome State Fault Refusal :=
  Cpu.outcome s (Cpu.runCall s (bodyAdcClearInjectedFlag s.params u))

/-- `ADC_READ_INJECTED_FLAG` (42_adc.md R669). -/
def execAdcReadInjectedFlag (u : AdcUnit) (s : State) : Host.Outcome State Fault Refusal :=
  Cpu.outcome s (Cpu.runCall s (bodyAdcReadInjectedFlag s.params u (destOr s.callDests 0 .adcReadInjectedFlagFlag)))

/-- `ADC_READ_INJECTED_DATA` (42_adc.md R670). -/
def execAdcReadInjectedData (u : AdcUnit) (k : Expr) (s : State) : Host.Outcome State Fault Refusal :=
  Cpu.outcome s (Cpu.runCall s (bodyAdcReadInjectedData s.params u k (destOr s.callDests 0 .adcReadInjectedDataCode)))

/-- `ADC_RAW_DR_ADDRESS` (42_adc.md R671). -/
def execAdcRawDrAddress (u : AdcUnit) (s : State) : Host.Outcome State Fault Refusal :=
  Cpu.outcome s (Cpu.runCall s (bodyAdcRawDrAddress s.params u (destOr s.callDests 0 .adcRawDrAddressA)))

/-- `DMAMUX_MAP` (43_dma.md R750). -/
def execDmamuxMap (c : Expr) (rid : Expr) (s : State) : Host.Outcome State Fault Refusal :=
  Cpu.outcome s (Cpu.runCall s (bodyDmamuxMap s.params c rid))

/-- `DMA_BIND` (43_dma.md R751). -/
def execDmaBind (c : Expr) (pa : Expr) (s : State) : Host.Outcome State Fault Refusal :=
  Cpu.outcome s (Cpu.runCall s (bodyDmaBind s.params c pa))

/-- `DMA_START` (43_dma.md R752). -/
def execDmaStart (c : Expr) (buf : Expr) (len : Expr) (s : State) : Host.Outcome State Fault Refusal :=
  Cpu.outcome s (Cpu.runCall s (bodyDmaStart s.params c buf len))

/-- `DMA_STOP` (43_dma.md R753). -/
def execDmaStop (c : Expr) (s : State) : Host.Outcome State Fault Refusal :=
  Cpu.outcome s (Cpu.runCall s (bodyDmaStop s.params c))

/-- `DMA_TC` (43_dma.md R754). -/
def execDmaTc (c : Expr) (s : State) : Host.Outcome State Fault Refusal :=
  Cpu.outcome s (Cpu.runCall s (bodyDmaTc s.params c (destOr s.callDests 0 .dmaTcFlag)))

/-- `DMA_CLEAR_TC` (43_dma.md R755). -/
def execDmaClearTc (c : Expr) (s : State) : Host.Outcome State Fault Refusal :=
  Cpu.outcome s (Cpu.runCall s (bodyDmaClearTc s.params c))

/-- `DMA_CLEAR_ALL` (43_dma.md R756). -/
def execDmaClearAll (c : Expr) (s : State) : Host.Outcome State Fault Refusal :=
  Cpu.outcome s (Cpu.runCall s (bodyDmaClearAll s.params c))

/-- `FLOAT_TO_Q31` (44_cordic.md R820). -/
def execFloatToQ31 (v : Expr) (s : State) : Host.Outcome State Fault Refusal :=
  Cpu.outcome s (Cpu.runCall s (bodyFloatToQ31 v (destOr s.callDests 0 .floatToQ31Q)))

/-- `Q31_TO_FLOAT` (44_cordic.md R821). -/
def execQ31ToFloat (q : Expr) (s : State) : Host.Outcome State Fault Refusal :=
  Cpu.outcome s (Cpu.runCall s (bodyQ31ToFloat q (destOr s.callDests 0 .q31ToFloatF)))

/-- `CORDIC_INIT` (44_cordic.md R830). -/
def execCordicInit (s : State) : Host.Outcome State Fault Refusal :=
  Cpu.outcome s (Cpu.runCall s (bodyCordicInit s.params))

/-- `CORDIC_COMPUTE` (44_cordic.md R831). -/
def execCordicCompute (t : Expr) (s : State) : Host.Outcome State Fault Refusal :=
  Cpu.outcome s (Cpu.runCall s (bodyCordicCompute s.params t (destOr s.callDests 0 .cordicComputeS) (destOr s.callDests 1 .cordicComputeC)))

/-- `CORDIC_REQUEST` (44_cordic.md R832). -/
def execCordicRequest (t : Expr) (s : State) : Host.Outcome State Fault Refusal :=
  Cpu.outcome s (Cpu.runCall s (bodyCordicRequest s.params t))

/-- `CORDIC_COLLECT` (44_cordic.md R833). -/
def execCordicCollect (s : State) : Host.Outcome State Fault Refusal :=
  Cpu.outcome s (Cpu.runCall s (bodyCordicCollect s.params (destOr s.callDests 0 .cordicCollectS) (destOr s.callDests 1 .cordicCollectC)))

/-- `XF_RUN` (45_xform.md R870). -/
def execXfRun (op : Expr) (x0 : Expr) (x1 : Expr) (x2 : Expr) (x3 : Expr) (s : State) : Host.Outcome State Fault Refusal :=
  Cpu.outcome s (Cpu.runCall s (bodyXfRun s.params op x0 x1 x2 x3 (destOr s.callDests 0 .xfRunY0) (destOr s.callDests 1 .xfRunY1) (destOr s.callDests 2 .xfRunY2) (destOr s.callDests 3 .xfRunY3)))

end Sys2Proof.Machine
end

