-- ==== Sys2Proof/Machine/Agents.lean ====
section
/-! DEFINITION. The steps of the other agents, and of the host's interrupt entry: each a state, or none where the step is not
enabled (10_state.md R100, R101); and the schedule's advance. -/
namespace Sys2Proof.Machine

/-! ### PWM tick with the delivery of its trigger edges (41_pwm.md R520, R531) -/

/-- Unit u starts an injected sequence on the trigger levels before and after this tick (41_pwm.md R531, 42_adc.md R646). -/
def Adc.startsOn (a : Adc) (old new : Bool × Bool) : Bool := a.triggerEvent old new && a.armed

/-- Delivery of the trigger edges to both units (41_pwm.md R531). -/
def State.deliverTriggers (s : State) (old new : Bool × Bool) : State :=
  let e1 := s.adc1.startsOn old new
  let e2 := s.adc2.startsOn old new
  { s with
    adc1 := if e1 then s.adc1.startInjected else s.adc1
    adc2 := if e2 then s.adc2.startInjected else s.adc2
    adcPaired := if e1 && e2 then true else if e1 || e2 then false else s.adcPaired }

/-- One tick of the timer kernel clock (41_pwm.md R520). -/
def State.tick (s : State) : State :=
  let p := s.pwm.tick
  { s with pwm := p }.deliverTriggers (s.pwm.trga, s.pwm.trgb) (p.trga, p.trgb)

/-! ### ADC steps (42_adc.md R630 to R648) -/

/-- A step of one unit, on the state. -/
def State.adcStep (s : State) (u : AdcUnit) (a : Option Adc) : Option State :=
  match a with
  | none => none
  | some a => some (s.setAdc u a)

/-- `code <- draw in 0 .. 2^ADC_BITS - 1`: the draw of a conversion by unit u in this step (42_adc.md R640). -/
def State.draw (s : State) (u : AdcUnit) : BitVec 16 :=
  BitVec.ofNat 16 (Config.freeCode s.stepNo u % 2 ^ s.params.adcBits)

/-- Regular conversion of unit u (42_adc.md R642). -/
def State.regularStep (s : State) (u : AdcUnit) : Option State :=
  if (s.adc u).regularEnabled then some (s.setAdc u ((s.adc u).convertRegular (s.draw u))) else none

/-- Injected conversion of unit u alone (42_adc.md R647). -/
def State.injectedStep (s : State) (u : AdcUnit) : Option State :=
  if (s.adc u).jact && !s.lockstep then some (s.setAdc u ((s.adc u).convertInjected (s.draw u))) else none

/-- Lock-step injected conversion of both units, each with its own draw (42_adc.md R648). -/
def State.pairStep (s : State) : Option State :=
  if s.lockstep then
    some { s with
      adc1 := s.adc1.convertInjected (s.draw .one)
      adc2 := s.adc2.convertInjected (s.draw .two) }
  else none

/-! ### DMA steps (43_dma.md R712, R730, R735) -/

/-- Stop acknowledgement of channel c (43_dma.md R712). -/
def State.stopAckStep (s : State) (c : Fin 16) : Option State :=
  match s.dma[c].stopAck with
  | none => none
  | some d => some (s.setDma c d)

/-- Transfer error of channel c (43_dma.md R735). -/
def State.dmaError (s : State) (c : Fin 16) : State := s.setDma c s.dma[c].transferError

/-- The two transactions and the bookkeeping of a beat of channel c with n-byte elements from address `src` to address `dst`
(43_dma.md R730; log entry 27). -/
def State.moveElement (s : State) (c : Fin 16) (n : Size) (src dst p m : Word) : Option State :=
  match s.dmaBusRead n src with
  | .hold => none
  | .error => some (s.dmaError c)
  | .value v t =>
    match t.dmaBusWrite n dst v with
    | .error => some (t.dmaError c)
    | .fault f => some (s.raise f)
    | .done w => some (w.setDma c (w.dma[c].completeBeat n.bytes p m))

/-- The beat of channel c (43_dma.md R730). -/
def State.beatOf (s : State) (c : Fin 16) : Option State :=
  let d := s.dma[c]
  let n := elementSize d.psize
  if !insideRegion s.params.ramBase s.params.ramSize d.mptr.toNat n.bytes then some (s.dmaError c)
  else if d.dir then s.moveElement c n d.mptr d.pptr d.pptr d.mptr
  else s.moveElement c n d.pptr d.mptr d.pptr d.mptr

/-- A DMA beat: the lowest channel that requests (43_dma.md R730). -/
def State.beatStep (s : State) : Option State :=
  match s.beatChannel with
  | none => none
  | some c => s.beatOf c

/-! ### CORDIC completion and interrupt entry -/

/-- CORDIC completion (44_cordic.md R812). -/
def State.cordicStep (s : State) : Option State :=
  match s.cordic.complete with
  | none => none
  | some k => some { s with cordic := k }

/-- Interrupt entry (60_exceptions.md R1030). -/
def State.entryStep (s : State) : Option State :=
  match s.entryLine with
  | none => none
  | some k => some (s.enterLine k)

/-- The step of a move other than a statement, none where it is not enabled. -/
def State.agentStep (s : State) : Move → Option State
  | .statement => none
  | .entry => s.entryStep
  | .tick => some s.tick
  | .regulator u => s.adcStep u (s.adc u).regulatorReady
  | .calibrated u => s.adcStep u ((s.adc u).calibrationDone (Config.freeCal s.stepNo u))
  | .enabled u => s.adcStep u (s.adc u).enableDone
  | .regular u => s.regularStep u
  | .injected u => s.injectedStep u
  | .pair => s.pairStep
  | .stopAck c => s.stopAckStep c
  | .beat => s.beatStep
  | .cordic => s.cordicStep

/-- The state with the schedule's next move drawn and the step counted (log entries 1 and 2). -/
def State.scheduled (s : State) : State := { s with turn := Config.freeMove s.stepNo, stepNo := s.stepNo + 1 }

/-- A move that is not enabled leaves the state as it is: a stutter (log entry 1). -/
def State.moveOrStay (s : State) (m : Move) : State := (s.agentStep m).getD s

/-- The schedule's advance after a step (log entry 1). -/
def Cpu.schedule : Host.Outcome State Fault Refusal → Host.Outcome State Fault Refusal
  | .next t => .next t.scheduled
  | .fault r => .fault r
  | .refused r => .refused r

end Sys2Proof.Machine
end

