-- ==== Sys2Proof/Machine/Dispatch.lean ====
section
/-! DEFINITION. The dispatch: each instruction to its meaning. -/
namespace Sys2Proof.Machine

/-- Executes one instruction. -/
def exec (i : Instr) (s : State) : Host.Outcome State Fault Refusal :=
  match i with
  | .pwmCr1Rd lane => Sys2Proof.Machine.execPwmCr1Rd lane s
  | .pwmCr1Wr v => Sys2Proof.Machine.execPwmCr1Wr v s
  | .pwmCr2Rd lane => Sys2Proof.Machine.execPwmCr2Rd lane s
  | .pwmCr2Wr v => Sys2Proof.Machine.execPwmCr2Wr v s
  | .pwmSrRd lane => Sys2Proof.Machine.execPwmSrRd lane s
  | .pwmSrWr v => Sys2Proof.Machine.execPwmSrWr v s
  | .pwmEgrRd lane => Sys2Proof.Machine.execPwmEgrRd lane s
  | .pwmEgrWr v => Sys2Proof.Machine.execPwmEgrWr v s
  | .pwmCcmrRd lane => Sys2Proof.Machine.execPwmCcmrRd lane s
  | .pwmCcmrWr v => Sys2Proof.Machine.execPwmCcmrWr v s
  | .pwmCcerRd lane => Sys2Proof.Machine.execPwmCcerRd lane s
  | .pwmCcerWr v => Sys2Proof.Machine.execPwmCcerWr v s
  | .pwmCntRd lane => Sys2Proof.Machine.execPwmCntRd lane s
  | .pwmCntWr v => Sys2Proof.Machine.execPwmCntWr v s
  | .pwmPscRd lane => Sys2Proof.Machine.execPwmPscRd lane s
  | .pwmPscWr v => Sys2Proof.Machine.execPwmPscWr v s
  | .pwmArrRd lane => Sys2Proof.Machine.execPwmArrRd lane s
  | .pwmArrWr v => Sys2Proof.Machine.execPwmArrWr v s
  | .pwmRcrRd lane => Sys2Proof.Machine.execPwmRcrRd lane s
  | .pwmRcrWr v => Sys2Proof.Machine.execPwmRcrWr v s
  | .pwmCcr1Rd lane => Sys2Proof.Machine.execPwmCcr1Rd lane s
  | .pwmCcr1Wr v => Sys2Proof.Machine.execPwmCcr1Wr v s
  | .pwmCcr2Rd lane => Sys2Proof.Machine.execPwmCcr2Rd lane s
  | .pwmCcr2Wr v => Sys2Proof.Machine.execPwmCcr2Wr v s
  | .pwmCcr3Rd lane => Sys2Proof.Machine.execPwmCcr3Rd lane s
  | .pwmCcr3Wr v => Sys2Proof.Machine.execPwmCcr3Wr v s
  | .pwmCcr4Rd lane => Sys2Proof.Machine.execPwmCcr4Rd lane s
  | .pwmCcr4Wr v => Sys2Proof.Machine.execPwmCcr4Wr v s
  | .pwmCcr5Rd lane => Sys2Proof.Machine.execPwmCcr5Rd lane s
  | .pwmCcr5Wr v => Sys2Proof.Machine.execPwmCcr5Wr v s
  | .pwmBdtrRd lane => Sys2Proof.Machine.execPwmBdtrRd lane s
  | .pwmBdtrWr v => Sys2Proof.Machine.execPwmBdtrWr v s
  | .adc1IsrRd lane => Sys2Proof.Machine.execAdc1IsrRd lane s
  | .adc1IsrWr v => Sys2Proof.Machine.execAdc1IsrWr v s
  | .adc1IerRd lane => Sys2Proof.Machine.execAdc1IerRd lane s
  | .adc1IerWr v => Sys2Proof.Machine.execAdc1IerWr v s
  | .adc1CrRd lane => Sys2Proof.Machine.execAdc1CrRd lane s
  | .adc1CrWr v => Sys2Proof.Machine.execAdc1CrWr v s
  | .adc1CfgrRd lane => Sys2Proof.Machine.execAdc1CfgrRd lane s
  | .adc1CfgrWr v => Sys2Proof.Machine.execAdc1CfgrWr v s
  | .adc1Smpr1Rd lane => Sys2Proof.Machine.execAdc1Smpr1Rd lane s
  | .adc1Smpr1Wr v => Sys2Proof.Machine.execAdc1Smpr1Wr v s
  | .adc1Smpr2Rd lane => Sys2Proof.Machine.execAdc1Smpr2Rd lane s
  | .adc1Smpr2Wr v => Sys2Proof.Machine.execAdc1Smpr2Wr v s
  | .adc1Sqr1Rd lane => Sys2Proof.Machine.execAdc1Sqr1Rd lane s
  | .adc1Sqr1Wr v => Sys2Proof.Machine.execAdc1Sqr1Wr v s
  | .adc1DrRd lane => Sys2Proof.Machine.execAdc1DrRd lane s
  | .adc1DrWr v => Sys2Proof.Machine.execAdc1DrWr v s
  | .adc1JsqrRd lane => Sys2Proof.Machine.execAdc1JsqrRd lane s
  | .adc1JsqrWr v => Sys2Proof.Machine.execAdc1JsqrWr v s
  | .adc1Jdr1Rd lane => Sys2Proof.Machine.execAdc1Jdr1Rd lane s
  | .adc1Jdr1Wr v => Sys2Proof.Machine.execAdc1Jdr1Wr v s
  | .adc1Jdr2Rd lane => Sys2Proof.Machine.execAdc1Jdr2Rd lane s
  | .adc1Jdr2Wr v => Sys2Proof.Machine.execAdc1Jdr2Wr v s
  | .adc1Jdr3Rd lane => Sys2Proof.Machine.execAdc1Jdr3Rd lane s
  | .adc1Jdr3Wr v => Sys2Proof.Machine.execAdc1Jdr3Wr v s
  | .adc1Jdr4Rd lane => Sys2Proof.Machine.execAdc1Jdr4Rd lane s
  | .adc1Jdr4Wr v => Sys2Proof.Machine.execAdc1Jdr4Wr v s
  | .adc2IsrRd lane => Sys2Proof.Machine.execAdc2IsrRd lane s
  | .adc2IsrWr v => Sys2Proof.Machine.execAdc2IsrWr v s
  | .adc2IerRd lane => Sys2Proof.Machine.execAdc2IerRd lane s
  | .adc2IerWr v => Sys2Proof.Machine.execAdc2IerWr v s
  | .adc2CrRd lane => Sys2Proof.Machine.execAdc2CrRd lane s
  | .adc2CrWr v => Sys2Proof.Machine.execAdc2CrWr v s
  | .adc2CfgrRd lane => Sys2Proof.Machine.execAdc2CfgrRd lane s
  | .adc2CfgrWr v => Sys2Proof.Machine.execAdc2CfgrWr v s
  | .adc2Smpr1Rd lane => Sys2Proof.Machine.execAdc2Smpr1Rd lane s
  | .adc2Smpr1Wr v => Sys2Proof.Machine.execAdc2Smpr1Wr v s
  | .adc2Smpr2Rd lane => Sys2Proof.Machine.execAdc2Smpr2Rd lane s
  | .adc2Smpr2Wr v => Sys2Proof.Machine.execAdc2Smpr2Wr v s
  | .adc2Sqr1Rd lane => Sys2Proof.Machine.execAdc2Sqr1Rd lane s
  | .adc2Sqr1Wr v => Sys2Proof.Machine.execAdc2Sqr1Wr v s
  | .adc2DrRd lane => Sys2Proof.Machine.execAdc2DrRd lane s
  | .adc2DrWr v => Sys2Proof.Machine.execAdc2DrWr v s
  | .adc2JsqrRd lane => Sys2Proof.Machine.execAdc2JsqrRd lane s
  | .adc2JsqrWr v => Sys2Proof.Machine.execAdc2JsqrWr v s
  | .adc2Jdr1Rd lane => Sys2Proof.Machine.execAdc2Jdr1Rd lane s
  | .adc2Jdr1Wr v => Sys2Proof.Machine.execAdc2Jdr1Wr v s
  | .adc2Jdr2Rd lane => Sys2Proof.Machine.execAdc2Jdr2Rd lane s
  | .adc2Jdr2Wr v => Sys2Proof.Machine.execAdc2Jdr2Wr v s
  | .adc2Jdr3Rd lane => Sys2Proof.Machine.execAdc2Jdr3Rd lane s
  | .adc2Jdr3Wr v => Sys2Proof.Machine.execAdc2Jdr3Wr v s
  | .adc2Jdr4Rd lane => Sys2Proof.Machine.execAdc2Jdr4Rd lane s
  | .adc2Jdr4Wr v => Sys2Proof.Machine.execAdc2Jdr4Wr v s
  | .dmaCcrRd c lane => Sys2Proof.Machine.execDmaCcrRd c lane s
  | .dmaCcrWr c v => Sys2Proof.Machine.execDmaCcrWr c v s
  | .dmaCndtrRd c lane => Sys2Proof.Machine.execDmaCndtrRd c lane s
  | .dmaCndtrWr c v => Sys2Proof.Machine.execDmaCndtrWr c v s
  | .dmaCparRd c lane => Sys2Proof.Machine.execDmaCparRd c lane s
  | .dmaCparWr c v => Sys2Proof.Machine.execDmaCparWr c v s
  | .dmaCmarRd c lane => Sys2Proof.Machine.execDmaCmarRd c lane s
  | .dmaCmarWr c v => Sys2Proof.Machine.execDmaCmarWr c v s
  | .dmaCisrRd c lane => Sys2Proof.Machine.execDmaCisrRd c lane s
  | .dmaCisrWr c v => Sys2Proof.Machine.execDmaCisrWr c v s
  | .dmaCifcrRd c lane => Sys2Proof.Machine.execDmaCifcrRd c lane s
  | .dmaCifcrWr c v => Sys2Proof.Machine.execDmaCifcrWr c v s
  | .dmamuxCxcrRd c lane => Sys2Proof.Machine.execDmamuxCxcrRd c lane s
  | .dmamuxCxcrWr c v => Sys2Proof.Machine.execDmamuxCxcrWr c v s
  | .cordicCsrRd lane => Sys2Proof.Machine.execCordicCsrRd lane s
  | .cordicCsrWr v => Sys2Proof.Machine.execCordicCsrWr v s
  | .cordicWdataRd lane => Sys2Proof.Machine.execCordicWdataRd lane s
  | .cordicWdataWr v => Sys2Proof.Machine.execCordicWdataWr v s
  | .cordicRdataRd lane => Sys2Proof.Machine.execCordicRdataRd lane s
  | .cordicRdataWr v => Sys2Proof.Machine.execCordicRdataWr v s
  | .xformCtrlRd lane => Sys2Proof.Machine.execXformCtrlRd lane s
  | .xformCtrlWrNop hi => Sys2Proof.Machine.execXformCtrlWrNop hi s
  | .xformCtrlWrClarke hi => Sys2Proof.Machine.execXformCtrlWrClarke hi s
  | .xformCtrlWrPark hi => Sys2Proof.Machine.execXformCtrlWrPark hi s
  | .xformCtrlWrIpark hi => Sys2Proof.Machine.execXformCtrlWrIpark hi s
  | .xformCtrlWrSvpwm hi => Sys2Proof.Machine.execXformCtrlWrSvpwm hi s
  | .xformCtrlWrClarkePark hi => Sys2Proof.Machine.execXformCtrlWrClarkePark hi s
  | .xformIn0Rd lane => Sys2Proof.Machine.execXformIn0Rd lane s
  | .xformIn0Wr v => Sys2Proof.Machine.execXformIn0Wr v s
  | .xformIn1Rd lane => Sys2Proof.Machine.execXformIn1Rd lane s
  | .xformIn1Wr v => Sys2Proof.Machine.execXformIn1Wr v s
  | .xformIn2Rd lane => Sys2Proof.Machine.execXformIn2Rd lane s
  | .xformIn2Wr v => Sys2Proof.Machine.execXformIn2Wr v s
  | .xformIn3Rd lane => Sys2Proof.Machine.execXformIn3Rd lane s
  | .xformIn3Wr v => Sys2Proof.Machine.execXformIn3Wr v s
  | .xformOut0Rd lane => Sys2Proof.Machine.execXformOut0Rd lane s
  | .xformOut0Wr v => Sys2Proof.Machine.execXformOut0Wr v s
  | .xformOut1Rd lane => Sys2Proof.Machine.execXformOut1Rd lane s
  | .xformOut1Wr v => Sys2Proof.Machine.execXformOut1Wr v s
  | .xformOut2Rd lane => Sys2Proof.Machine.execXformOut2Rd lane s
  | .xformOut2Wr v => Sys2Proof.Machine.execXformOut2Wr v s
  | .xformOut3Rd lane => Sys2Proof.Machine.execXformOut3Rd lane s
  | .xformOut3Wr v => Sys2Proof.Machine.execXformOut3Wr v s
  | .intcCtrlRd lane => Sys2Proof.Machine.execIntcCtrlRd lane s
  | .intcCtrlWr v => Sys2Proof.Machine.execIntcCtrlWr v s
  | .intcIerRd lane => Sys2Proof.Machine.execIntcIerRd lane s
  | .intcIerWr v => Sys2Proof.Machine.execIntcIerWr v s
  | .intcIprRd lane => Sys2Proof.Machine.execIntcIprRd lane s
  | .intcIprWr v => Sys2Proof.Machine.execIntcIprWr v s
  | .intcIabrRd lane => Sys2Proof.Machine.execIntcIabrRd lane s
  | .intcIabrWr v => Sys2Proof.Machine.execIntcIabrWr v s
  | .intcCurpriRd lane => Sys2Proof.Machine.execIntcCurpriRd lane s
  | .intcCurpriWr v => Sys2Proof.Machine.execIntcCurpriWr v s
  | .intcEoiRd lane => Sys2Proof.Machine.execIntcEoiRd lane s
  | .intcEoiWr v => Sys2Proof.Machine.execIntcEoiWr v s
  | .intcActiveRd lane => Sys2Proof.Machine.execIntcActiveRd lane s
  | .intcActiveWr v => Sys2Proof.Machine.execIntcActiveWr v s
  | .ramRd8 off => Sys2Proof.Machine.execRamRd8 off s
  | .ramRd16 off => Sys2Proof.Machine.execRamRd16 off s
  | .ramRd32 off => Sys2Proof.Machine.execRamRd32 off s
  | .ramWr8 off d => Sys2Proof.Machine.execRamWr8 off d s
  | .ramWr16 off d => Sys2Proof.Machine.execRamWr16 off d s
  | .ramWr32 off d => Sys2Proof.Machine.execRamWr32 off d s
  | .trimRd8 off => Sys2Proof.Machine.execTrimRd8 off s
  | .trimRd16 => Sys2Proof.Machine.execTrimRd16 s
  | .pwmConfigure p => Sys2Proof.Machine.execPwmConfigure p s
  | .pwmDeadtimeTicks => Sys2Proof.Machine.execPwmDeadtimeTicks s
  | .pwmEnableOutputs => Sys2Proof.Machine.execPwmEnableOutputs s
  | .pwmSetDuty a b c => Sys2Proof.Machine.execPwmSetDuty a b c s
  | .adcPowerupCalibrate u => Sys2Proof.Machine.execAdcPowerupCalibrate u s
  | .adcEnable u => Sys2Proof.Machine.execAdcEnable u s
  | .adcStart u => Sys2Proof.Machine.execAdcStart u s
  | .adcConfigureProduction u rch j1 j2 => Sys2Proof.Machine.execAdcConfigureProduction u rch j1 j2 s
  | .adcOneShot u ch n smp => Sys2Proof.Machine.execAdcOneShot u ch n smp s
  | .adcGetAverage u ch => Sys2Proof.Machine.execAdcGetAverage u ch s
  | .adcReferenceVoltage => Sys2Proof.Machine.execAdcReferenceVoltage s
  | .adcVrefCalibrate => Sys2Proof.Machine.execAdcVrefCalibrate s
  | .adcClearInjectedFlag u => Sys2Proof.Machine.execAdcClearInjectedFlag u s
  | .adcReadInjectedFlag u => Sys2Proof.Machine.execAdcReadInjectedFlag u s
  | .adcReadInjectedData u k => Sys2Proof.Machine.execAdcReadInjectedData u k s
  | .adcRawDrAddress u => Sys2Proof.Machine.execAdcRawDrAddress u s
  | .dmamuxMap c rid => Sys2Proof.Machine.execDmamuxMap c rid s
  | .dmaBind c pa => Sys2Proof.Machine.execDmaBind c pa s
  | .dmaStart c buf len => Sys2Proof.Machine.execDmaStart c buf len s
  | .dmaStop c => Sys2Proof.Machine.execDmaStop c s
  | .dmaTc c => Sys2Proof.Machine.execDmaTc c s
  | .dmaClearTc c => Sys2Proof.Machine.execDmaClearTc c s
  | .dmaClearAll c => Sys2Proof.Machine.execDmaClearAll c s
  | .floatToQ31 v => Sys2Proof.Machine.execFloatToQ31 v s
  | .q31ToFloat q => Sys2Proof.Machine.execQ31ToFloat q s
  | .cordicInit => Sys2Proof.Machine.execCordicInit s
  | .cordicCompute t => Sys2Proof.Machine.execCordicCompute t s
  | .cordicRequest t => Sys2Proof.Machine.execCordicRequest t s
  | .cordicCollect => Sys2Proof.Machine.execCordicCollect s
  | .xfRun op x0 x1 x2 x3 => Sys2Proof.Machine.execXfRun op x0 x1 x2 x3 s

end Sys2Proof.Machine
end

