-- ==== Sys2Proof/Machine/Fetch.lean ====
section
/-! DEFINITION. Fetching the host's next statement: the block fetches no instruction words (10_state.md R103), so the host forms the
transaction of the statement at the top activity's position, and the decoder gives the instruction (30_encoding.md R302). -/
namespace Sys2Proof.Machine

/-- A transaction of the host: decoded and executed, or its bus check raised as a fault (40_bus.md R410, R411). -/
def Cpu.perform (s : State) (t : Transaction) : Host.Outcome State Fault Refusal :=
  match decode s.params t with
  | .ok i => exec i s
  | .error e => .next (s.raise (rejectFault e))

/-- The read of a RD or POLL whose address expression is a: the address, then the other operands, then the bus (log entry 14). -/
def Cpu.performRead (s : State) (n : Size) (a : Expr) : Host.Outcome State Fault Refusal :=
  match s.evalWord a with
  | .error f => .next (s.raise f)
  | .ok w =>
    match s.sink with
    | .error f => .next (s.raise f)
    | .ok _ => Cpu.perform s (.rd n w)

/-- The write of a WR. -/
def Cpu.performWrite (s : State) (n : Size) (a e : Expr) : Host.Outcome State Fault Refusal :=
  match s.wrTransaction n a e with
  | .error f => .next (s.raise f)
  | .ok t => Cpu.perform s t

/-- The background has executed HALT and no handler runs: the host has no statement step (40_bus.md R426). -/
def State.hostIdle (s : State) : Bool := s.halted && s.handlers.isEmpty

/-- One statement step of the host (40_bus.md R403). A CALL names a driver operation; one that names a bus transaction stands in no
well-formed program and only advances pc (30_encoding.md R330; log entry 7). A position at the end of the list acts as HALT in a step of
its own, after the step that moved it there (R404 names no step; DESIGN CHOICE, log entry 38). -/
def Cpu.hostStatement (s : State) : Host.Outcome State Fault Refusal :=
  if s.hostIdle then .next s
  else
    match s.top.current with
    | none => Cpu.outcome s (Cpu.runHalt s)
    | some (.rd _ n a) => Cpu.performRead s n a
    | some (.poll a _ _) => Cpu.performRead s .b4 a
    | some (.wr n a e) => Cpu.performWrite s n a e
    | some (.call i _) => if i.isOperation then exec i s else .next s.advance
    | some (.wait n) => Cpu.outcome s (Cpu.runWait s n)
    | some (.set x e) => Cpu.outcome s (Cpu.runSet s x e)
    | some (.br c l) => Cpu.outcome s (Cpu.runBr s c l)
    | some (.brFault c code info) => Cpu.outcome s (Cpu.runBrFault s c code info)
    | some (.jmp l) => Cpu.outcome s (Cpu.runJmp s l)
    | some .ret => Cpu.outcome s (Cpu.runRet s)
    | some .halt => Cpu.outcome s (Cpu.runHalt s)

/-- The host statement that issues a transaction, its operands as numerals (40_bus.md R420, R421). -/
def fetchStmt : Transaction → Stmt
  | .rd n a => .rd (.user 0) n (.num a.toNat)
  | .wr n a d => .wr n (.num a.toNat) (.num d.toNat)

/-- The background activity that runs one statement (log entry 6). -/
def fetchActivity (st : Stmt) : Activity := Activity.background [st]

end Sys2Proof.Machine
end

