-- ==== Sys2Proof/Machine/Step.lean ====
section
/-! DEFINITION. One step of the machine, and the state in which a given transaction is the next step. -/
namespace Sys2Proof.Machine

/-- One step: the move the schedule has picked, then the next pick (10_state.md R101; log entry 1). With a fault recorded no agent
has a step (60_exceptions.md R1001). -/
def step (s : State) : Host.Outcome State Fault Refusal :=
  match s.fault with
  | some f => .fault (.quiescent f.code f.info)
  | none =>
    match s.turn with
    | .statement => Cpu.schedule (Cpu.hostStatement s)
    | m => .next (s.moveOrStay m).scheduled

/-- The state whose next step is the host executing the transaction of a table word: the statement that issues it is the background
program, at position 0 with no handler above it (log entries 6 and 9). A word that stands for no transaction leaves an empty
program. -/
def State.withFetchWord (s : State) (nbits w : Nat) : State :=
  { s with
    bg := fetchActivity ((Transaction.ofTableWord s.params nbits w).elim .halt fetchStmt)
    handlers := []
    halted := false
    turn := .statement }

end Sys2Proof.Machine
end

