-- ==== Sys2Proof/Safety.lean ====
section
/-! DEFINITION. The terms claims are stated in: update events (41_pwm.md R524), runs and their final states
(70_reset_and_hazards.md R1133), the schedule's weak fairness (10_state.md R101), the premises the spec names (44_cordic.md R813,
70_reset_and_hazards.md R1131), the invariants of the machine, and the states single statements lead to. -/
namespace Sys2Proof.Machine

/-! ### Where single statements lead -/

/-- The state after `RD x, A` has read v: x holds v, the transaction's result is v, and the position is the next statement's
(40_bus.md R420). -/
def State.loaded (s : State) (x : LocalName) (v : Word) : State :=
  { s with busData := v }.setTop (s.top.setLocal x v).next

/-- The state after the first k statements of an expansion that leave only the position changed (40_bus.md R427). -/
def State.entered (s : State) (body : Prog) (k : Nat) : State := s.setTop { s.top.expand body with pc := k }

/-- The state after `LET x = E` stored v (40_bus.md R424). -/
def State.assigned (s : State) (x : LocalName) (v : Word) : State := s.setTop (s.top.setLocal x v).next

/-- The locals that occur in an expression. -/
def Expr.locals : Expr → List LocalName
  | .num _ => []
  | .loc x => [x]
  | .un _ a => Expr.locals a
  | .bin _ a b => Expr.locals a ++ Expr.locals b
  | .cond c a b => Expr.locals c ++ Expr.locals a ++ Expr.locals b

/-- Runs the machine with the schedule's moves given: each step takes the next move of the list (10_state.md R101). -/
def runMoves : List Move → State → Host.Outcome State Fault Refusal
  | [], s => .next s
  | m :: ms, s =>
    match step { s with turn := m } with
    | .next t => runMoves ms t
    | .fault r => .fault r
    | .refused r => .refused r

/-- k ticks of the PWM unit (41_pwm.md R520). -/
def Pwm.ticks : Nat → Pwm → Pwm
  | 0, p => p
  | k + 1, p => Pwm.ticks k p.tick

/-! ### Whole calls of driver operations (40_bus.md R427) -/

/-- The host is about to execute the CALL of an operation, in a machine with well-formed parameters and no fault. -/
def State.AtCall (s : State) (i : Instr) (dests : List LocalName) : Prop :=
  s.params.wf = true ∧ s.fault = none ∧ s.hostIdle = false ∧ s.top.current = some (.call i dests)

/-- The units, memory and the launch inputs are the same in both states: at most the host's activities, the recorded fault, the
result of the last transaction and the schedule differ. -/
def State.SameUnits (s t : State) : Prop :=
  t.pwm = s.pwm ∧ t.adc1 = s.adc1 ∧ t.adc2 = s.adc2 ∧ t.adcPaired = s.adcPaired ∧ t.dma = s.dma ∧ t.dmamux = s.dmamux ∧
  t.cordic = s.cordic ∧ t.xform = s.xform ∧ t.intc = s.intc ∧ t.ram = s.ram ∧ t.trim = s.trim ∧ t.vec = s.vec ∧
  t.params = s.params

/-- The moves take s, at a CALL, to the end of that call: no fault is recorded, the position is the next statement's, the activities
below are as before, the units and memory are those of u, each local of `results` holds its value, and every other local of the
program is as before. -/
def State.CallEnds (s : State) (moves : List Move) (u : State) (results : List (LocalName × Word)) : Prop :=
  ∃ t, runMoves moves s = .next t ∧ t.fault = none ∧ u.SameUnits t ∧
    t.top.prog = s.top.next.prog ∧ t.top.pc = s.top.next.pc ∧ t.top.calls = s.top.next.calls ∧
    t.top.lvl = s.top.lvl ∧ t.top.line = s.top.line ∧ t.halted = s.halted ∧
    t.handlers.length = s.handlers.length ∧ t.handlers.tail = s.handlers.tail ∧ (s.handlers ≠ [] → t.bg = s.bg) ∧
    (∀ r ∈ results, findLocal t.top.loc r.1 = some r.2) ∧
    ∀ n : Nat, (∀ r ∈ results, r.1 ≠ .user n) → findLocal t.top.loc (.user n) = findLocal s.top.loc (.user n)

/-- The moves take s, at a CALL, to a state with the fault f recorded; the units and memory are those of u. -/
def State.CallFaults (s : State) (moves : List Move) (u : State) (f : FaultRecord) : Prop :=
  ∃ t, runMoves moves s = .next t ∧ t.fault = some f ∧ u.SameUnits t

/-! ### Update events (41_pwm.md R524) -/

/-- The counter's advance in this tick is an update event: a candidate with the repetition count at 0 (41_pwm.md R524, R525). -/
def Pwm.updatesOnTick (p : Pwm) : Bool :=
  p.prescale.2 && (if p.cms then p.centreAdvance.2 else p.edgeAdvance.2) && p.rep == 0

/-- The register that a write of n bytes at an address reaches: only a write of a whole word reaches one (40_bus.md R411, R412). -/
def State.registerAt (s : State) (n : Size) (a : Word) : Option Reg :=
  match n, locate s.params n a with
  | .b4, .ok (.reg r _) => some r
  | _, _ => none

/-- The state in which the host executes its current statement: that of a CALL stands in the expansion it enters (40_bus.md R427;
log entry 7). -/
def State.atStatement (s : State) : State :=
  match s.top.current with
  | some (.call i d) => if i.isOperation then State.enterCalls 2 (expansion s.params i d) s else s
  | _ => s

/-- The register and the word that a transaction of the host writes, where it writes a register (40_bus.md R411). -/
def State.transactionStores (s : State) : Transaction → Option (Reg × Word)
  | .wr n a d => (s.registerAt n a).map fun r => (r, d)
  | .rd _ _ => none

/-- The register and the word that a statement writes, where it is a `WR` to a register (40_bus.md R421). -/
def State.stmtStores (s : State) : Stmt → Option (Reg × Word)
  | .wr n a e =>
    match s.wrTransaction n a e with
    | .ok x => s.transactionStores x
    | .error _ => none
  | _ => none

/-- The register and the word that the host's statement step writes (40_bus.md R403). -/
def State.hostStores (s : State) : Option (Reg × Word) :=
  if s.hostIdle then none else s.atStatement.top.current.bind s.atStatement.stmtStores

/-- The register and the word that a DMA beat writes, where it writes a register: only a beat towards the peripheral side does
(43_dma.md R730). -/
def State.beatStores (s : State) : Option (Reg × Word) :=
  match s.beatChannel with
  | none => none
  | some c =>
    let d := s.dma[c]
    let n := elementSize d.psize
    if d.dir && insideRegion s.params.ramBase s.params.ramSize d.mptr.toNat n.bytes then
      match s.dmaBusRead n d.mptr with
      | .value v _ => (s.registerAt n d.pptr).map fun r => (r, v)
      | _ => none
    else none

/-- The register and the word that the next step writes, by the host or by a DMA beat: no other agent writes a register by a
transaction (10_state.md R100; 40_bus.md R411, R412). -/
def State.stores (s : State) : Option (Reg × Word) :=
  match s.turn with
  | .statement => s.hostStores
  | .beat => s.beatStores
  | _ => none

/-- The write of a word to a register is a `UG` write: to `EGR`, with bit 0 set (41_pwm.md R512). -/
def isUg : Option (Reg × Word) → Bool
  | some (.pwm .egr, v) => Word.bit v 0
  | _ => false

/-- The next step is an update event of the PWM unit: in the repetition of a tick, or on a `UG` write (41_pwm.md R524, R525,
R512). -/
def State.updates (s : State) : Bool := (s.turn == .tick && s.pwm.updatesOnTick) || isUg s.stores

/-! ### Runs -/

/-- A run: from a launch with well-formed parameters and any first move, each state's step gives the next state; after a fault the
state no longer changes (10_state.md R101; 60_exceptions.md R1001; 70_reset_and_hazards.md R1133, R1134). -/
def IsRun (t : Nat → State) : Prop :=
  (∃ p trimValue bg vec first, p.wf = true ∧ t 0 = State.launch p trimValue bg vec first) ∧
  ∀ n, step (t n) = .next (t (n + 1)) ∨ ((t n).fault ≠ none ∧ t (n + 1) = t n)

/-- The top activity's statement holds in this state (00_scope.md R11). -/
def State.hostHeld (s : State) : Bool :=
  match s.top.current with
  | none => false
  | some (.call i d) => Cpu.runCall s (expansion s.params i d) == .hold
  | some st => Cpu.runStmt s st == .hold

/-- A move's step is enabled (10_state.md R101). -/
def State.moveEnabled (s : State) (m : Move) : Bool :=
  s.fault.isNone &&
    match m with
    | .statement => !s.hostIdle && !s.hostHeld
    | m => (s.agentStep m).isSome

/-- Weak fairness: a move that stays enabled is eventually taken (10_state.md R101). -/
def WeaklyFair (t : Nat → State) : Prop :=
  ∀ m n, (∀ k, n ≤ k → (t k).moveEnabled m = true) → ∃ k, n ≤ k ∧ (t k).turn = m

/-- The condition of the final state of a run (70_reset_and_hazards.md R1133). -/
def State.isFinal (s : State) : Bool :=
  s.fault.isNone && s.halted && s.handlers.isEmpty && s.intc.stack.isEmpty

/-- Step n of a run is its observation: the first final state (70_reset_and_hazards.md R1133). DESIGN CHOICE, log entry 37: a run that
reaches a final state and records a fault only later keeps that observation. R1133 makes the observation the first final state, and
also says "a faulted run refutes every observation"; the model takes the latter of a run whose fault comes before its first final
state. -/
def IsObservation (t : Nat → State) (n : Nat) : Prop := (t n).isFinal = true ∧ ∀ k, k < n → (t k).isFinal = false

/-! ### Premises the spec names -/

/-- `n = rha(x)`: the nearest integer, halves away from zero (00_scope.md R12). -/
def IsRha (x : ℝ) (n : ℤ) : Prop :=
  (0 ≤ x → (n : ℝ) ≤ x + 1 / 2 ∧ x + 1 / 2 < n + 1) ∧ (x < 0 → -(n : ℝ) ≤ -x + 1 / 2 ∧ -x + 1 / 2 < -n + 1)

/-- `sat_s32` (00_scope.md R10). -/
def satS32 (n : ℤ) : ℤ := max (-(2 ^ 31)) (min n (2 ^ 31 - 1))

/-- The named property of the CORDIC result functions: each is within `CORDIC_TOL`, a machine's `params.cordicTol`, of the ideal
(44_cordic.md R813). -/
def CordicAccurate (tol : Nat) : Prop :=
  ∀ (x m : Word) (p : BitVec 4) (sn cs : ℤ),
    IsRha (m.toInt * Real.sin (Real.pi * x.toInt / 2 ^ 31)) sn →
    IsRha (m.toInt * Real.cos (Real.pi * x.toInt / 2 ^ 31)) cs →
    |(Config.cordicSin x m p).toInt - satS32 sn| ≤ tol ∧
    |(Config.cordicCos x m p).toInt - satS32 cs| ≤ tol

/-- Step n of a run is an update event of the PWM unit, be it a tick's or that of a `UG` write by the host or a DMA beat (41_pwm.md
R524, R512). -/
def UpdateEventAt (t : Nat → State) (n : Nat) : Prop := (t n).fault = none ∧ (t n).updates = true

/-- TRGA rises at step n of a run. -/
def TrgaRiseAt (t : Nat → State) (n : Nat) : Prop := (t n).pwm.trga = false ∧ (t (n + 1)).pwm.trga = true

/-- Line 0 is entered at step n of a run. -/
def ControlEntryAt (t : Nat → State) (n : Nat) : Prop :=
  (t n).fault = none ∧ (t n).turn = .entry ∧ (t n).entryLine = some 0

/-- `ONE_TICK_PER_PERIOD`: between two entries of the control task there is an update event (70_reset_and_hazards.md R1131). -/
def OneTickPerPeriod (t : Nat → State) : Prop :=
  ∀ n m, n < m → ControlEntryAt t n → ControlEntryAt t m → ∃ k, n < k ∧ k < m ∧ UpdateEventAt t k

/-- The TRGA pulse of a period that the control task belongs to: it starts the injected sequence of a unit whose end of sequence
interrupts, with line 0 enabled. A pulse in boot, before the units are started, is none: no entry follows from it (60_exceptions.md
R1020, R1030; log entry 26). -/
def ControlPulseAt (t : Nat → State) (n : Nat) : Prop :=
  TrgaRiseAt t n ∧ (t n).intc.gen = true ∧ (t n).intc.ier.getLsbD 0 = true ∧
  ∃ u, ((t n).adc u).jact = false ∧ ((t (n + 1)).adc u).jact = true ∧ ((t n).adc u).ier.jeos = true

/-- The statements of a `PWM_SET_DUTY` are being executed by this activity. -/
def Activity.inSetDuty (a : Activity) : Bool :=
  match a.calls with
  | [] => false
  | (prog, pc) :: _ =>
    match prog[pc]? with
    | some (.call (.pwmSetDuty _ _ _) _) => true
    | _ => false

/-- Step n of a run executes the last statement of a `PWM_SET_DUTY` of the running handler: its three duties are written. -/
def DutySetAt (t : Nat → State) (n : Nat) : Prop :=
  (t n).fault = none ∧ (t n).turn = .statement ∧ (t n).top.inSetDuty = true ∧ (t (n + 1)).fault = none ∧
  (t (n + 1)).top.calls.length < (t n).top.calls.length

/-- `LATENCY_ONE_PERIOD`: the control handler's entry and its `PWM_SET_DUTY` complete between the TRGA pulse of a period and the next
update event, a tick's or that of a `UG` write (70_reset_and_hazards.md R1131; 41_pwm.md R524). The handler need not have ended by
then. -/
def LatencyOnePeriod (t : Nat → State) : Prop :=
  ∀ n m, n < m → ControlPulseAt t n → UpdateEventAt t m →
    ∃ i j, n < i ∧ i < j ∧ j < m ∧ ControlEntryAt t i ∧ DutySetAt t j ∧ (t j).handlers.length = (t i).handlers.length + 1 ∧
      (t j).top.line = some 0

/-- `CONVERSION_IN_PERIOD`: no injected sequence is in progress when TRGA rises again (70_reset_and_hazards.md R1129, R1131). -/
def ConversionInPeriod (t : Nat → State) : Prop :=
  ∀ n, TrgaRiseAt t n → (t n).adc1.jact = false ∧ (t n).adc2.jact = false

/-! ### Invariants -/

/-- Memory has its canonical form and lists RAM addresses only (20_memory.md R201, R205). -/
def State.MemoryOk (s : State) : Prop := s.ram.wf = true ∧ s.ram.inRam s.params = true

/-- The ranks in use name channels up to `CH_MAX` (30_encoding.md R322). -/
def ranksOk (chMax : Nat) (len : BitVec 2) (ch : Vector (BitVec 5) 4) : Prop :=
  ∀ r : Fin 4, r.val ≤ len.toNat → ch[r].toNat ≤ chMax

/-- No field of an ADC unit holds a reserved value, and its data are codes of `ADC_BITS` bits (30_encoding.md R322, R324; 10_state.md
R127; 42_adc.md R640). -/
def Adc.FieldsOk (p : Params) (a : Adc) : Prop :=
  a.jextsel.toNat < 2 ∧ ranksOk p.chMax a.sqLen a.sq ∧ ranksOk p.chMax a.jsqLen a.jsq ∧ a.dr.toNat < 2 ^ p.adcBits ∧
  ∀ r : Fin 4, a.jdr[r].toNat < 2 ^ p.adcBits

/-- "A field is never left holding a reserved value" (30_encoding.md R331, R320 to R328), for every enumerated field but the DMA sizes:
R325 refuses their reserved code only when EN is set, so an idle channel may hold it, and `DmaChannel.Ok` is about the enabled ones. -/
def State.FieldsOk (s : State) : Prop :=
  (∀ k : Fin 3, ocmReserved (ccmrMode s.pwm.ccmr k) = false) ∧ s.adc1.FieldsOk s.params ∧ s.adc2.FieldsOk s.params ∧
  (∀ c : Fin 16, s.dmamux[c].toNat ≤ 2) ∧ s.cordic.func.toNat < 2 ∧ s.cordic.precision ≠ 0 ∧ s.xform.op.toNat < 6

/-- The power, calibration and enable order of an ADC unit (42_adc.md R603, R630 to R632, R672). -/
def Adc.HandshakeOk (a : Adc) : Prop :=
  (a.aden = true ↔ a.en ≠ .off) ∧ (a.running = true → a.en = .ready) ∧ (a.adcal = true ↔ a.cal = .running) ∧
  (a.advregen = true ↔ a.vreg ≠ .off) ∧ ¬(a.advregen = true ∧ a.deeppwd = true) ∧
  (a.adcal = true → a.vreg = .ready ∧ a.aden = false)

/-- The sequences of an ADC unit stay inside their lengths (42_adc.md R641, R645). -/
def Adc.SequenceOk (a : Adc) : Prop :=
  (a.jact = true → a.jadstart = true) ∧ (a.adstart = true → a.rrank ≤ a.sqLen) ∧ (a.jact = true → a.jrank ≤ a.jsqLen)

/-- Both ADC units. -/
def State.AdcOk (s : State) : Prop :=
  s.adc1.HandshakeOk ∧ s.adc1.SequenceOk ∧ s.adc2.HandshakeOk ∧ s.adc2.SequenceOk

/-- An enabled DMA channel has equal, valid sizes, a count within the pass, and aligned addresses (43_dma.md R701, R710, R730). -/
def DmaChannel.Ok (d : DmaChannel) : Prop :=
  d.en = true → d.psize = d.msize ∧ d.psize ≠ 3 ∧ d.cndtr ≠ 0 ∧ d.cndtr ≤ d.init ∧
    d.cpar.toNat % 2 ^ d.psize.toNat = 0 ∧ d.cmar.toNat % 2 ^ d.psize.toNat = 0 ∧
    d.pptr.toNat % 2 ^ d.psize.toNat = 0 ∧ d.mptr.toNat % 2 ^ d.psize.toNat = 0

/-- Every DMA channel. -/
def State.DmaOk (s : State) : Prop := ∀ c : Fin 16, s.dma[c].Ok

/-- The CORDIC protocol: results and arguments are never outstanding together (44_cordic.md R801, R810, R812, R814). -/
def Cordic.Ok (k : Cordic) : Prop :=
  (k.busy = true → k.left = 0 ∧ k.latched = false) ∧ (k.latched = true → k.nargs = true ∧ k.left = 0) ∧
  k.left.toNat ≤ k.nres.toNat + 1 ∧ (k.left ≠ 0 → k.next.toNat + k.left.toNat = k.nres.toNat + 2)

/-- The dispatcher and the host's activities: the background at the bottom, one handler of a line above it each, the lines not yet
ended in the same order, their levels strictly nested, and a handler program for each enabled line (40_bus.md R401;
60_exceptions.md R1012, R1030 to R1033). -/
def State.DispatchOk (s : State) : Prop :=
  s.bg.line = none ∧ s.bg.lvl = 2 ∧ (∀ h ∈ s.handlers, ∃ k, h.line = some k ∧ h.lvl = Line.level k) ∧
  List.Sublist (s.intc.stack.map some) (s.handlers.map (·.line)) ∧
  (s.intc.stack.map Line.level).Pairwise (· < ·) ∧
  ∀ k : Line, s.intc.ier.getLsbD k.val = true → s.vec[k].isSome = true

end Sys2Proof.Machine
end

