-- ==== Sys2Proof/Certificates/Slice0/Obligations.lean ====
section
/-! DEFINITION. The statements for the provers, made from the numbered rules of spec/. Each docstring says which rule it
formalises. A read's completion is stated for a `RD` into a local; `PollReads` states the other destination of a read. The parameters
of 00_scope.md R8 are those the machine was launched with, `s.params`; a statement that goes through the bus asks that they are well
formed, as every run's are (`Params.wf`, log entry 22). -/

open Sys2Proof Sys2Proof.Machine

/-! ### Encoding and decoding -/

/-- Decoding the transaction of a well-formed instruction gives that instruction back, with every operand at every value and in
every well-formed layout of the address space (30_encoding.md R301 to R303; 00_scope.md R8). -/
def Obligations.DecodeOfEncode : Prop :=
  ∀ (p : Params) (i : Instr) (t : Transaction), p.wf = true → i.wf = true → encode p i = some t → decode p t = .ok i

/-- Every transaction the decoder accepts is the transaction of the instruction it gives, which is well formed: no two transactions
decode to one instruction (30_encoding.md R302). -/
def Obligations.EncodeOfDecode : Prop :=
  ∀ (p : Params) (t : Transaction) (i : Instr), p.wf = true → decode p t = .ok i → i.wf = true ∧ encode p i = some t

/-- Transaction words of 95_test_vectors.md section 9, one or two for each unit, decode to the instructions they stand for
(30_encoding.md R301), under the default parameters. A table word gives a transaction no kind and no size: that data 0 stands for a
read, of the size of the register row or of the highest alignment, and other data for a 4-byte write, is the model's convention
(DESIGN CHOICE, log entry 9). -/
def Obligations.WordsDecode : Prop :=
  decodeTableWord 64 0x4000002000002133 = some (.pwmArrWr 8499) ∧
  decodeTableWord 64 0x4000003C00000000 = some (.pwmBdtrRd .word) ∧
  decodeTableWord 64 0x4000040890000000 = some (.adc1CrWr 0x90000000#32) ∧
  decodeTableWord 64 0x4000088000000000 = some (.adc2Jdr1Rd .word) ∧
  decodeTableWord 64 0x40000C2C20000200 = some (.dmaCmarWr 1 0x20000200#32) ∧
  decodeTableWord 64 0x4000100000000001 = some (.dmamuxCxcrWr 0 1) ∧
  decodeTableWord 64 0x4000140420000000 = some (.cordicWdataWr 0x20000000#32) ∧
  decodeTableWord 64 0x4000180000000005 = some (.xformCtrlWrClarkePark 0) ∧
  decodeTableWord 64 0x40001C0400000007 = some (.intcIerWr 7) ∧
  decodeTableWord 64 0x2000002400000001 = some (.ramWr32 0x24#32 1) ∧
  decodeTableWord 64 0x1FFF75AA00000000 = some .trimRd16

/-! ### The bus -/

/-- The bus checks and their order: region and offset, alignment, read-only, width (20_memory.md R203, R207, R209, R210; 40_bus.md
R410, R411; 60_exceptions.md R1003). -/
def Obligations.BusChecks : Prop :=
  ∀ (p : Params) (n : Size) (a d : Word), p.wf = true →
    let ram := insideRegion p.ramBase p.ramSize a.toNat n.bytes = true
    let trim := insideRegion p.trimAddr 2 a.toNat n.bytes = true
    let mapped := ∃ r : Reg, insideRegion (r.window.base p) p.win a.toNat n.bytes = true ∧ r.present p = true ∧
      r.address p = a.toNat - a.toNat % 4
    (¬(ram ∨ trim ∨ mapped) →
      decode p (.rd n a) = .error (.unmapped a) ∧ decode p (.wr n a d) = .error (.unmapped a)) ∧
    (ram ∨ trim ∨ mapped → a.toNat % n.bytes ≠ 0 →
      decode p (.rd n a) = .error (.misaligned a) ∧ decode p (.wr n a d) = .error (.misaligned a)) ∧
    (ram ∨ trim ∨ mapped → a.toNat % n.bytes = 0 → ∃ i, decode p (.rd n a) = .ok i) ∧
    (trim → a.toNat % n.bytes = 0 → decode p (.wr n a d) = .error (.readOnly a)) ∧
    (mapped → a.toNat % n.bytes = 0 → n ≠ .b4 → decode p (.wr n a d) = .error (.subWordWrite a)) ∧
    (ram → a.toNat % n.bytes = 0 → ∃ i, decode p (.wr n a d) = .ok i)

/-- A statement whose bytes decode runs that instruction: `step` is `exec` of it, then the schedule's own advance (30_encoding.md
R302, 40_bus.md R403, R420 to R422, R427). -/
def Obligations.StepRunsInstruction : Prop :=
  ∀ (s : State), s.fault = none → s.turn = .statement → s.hostIdle = false →
    (∀ x n e a i, s.top.current = some (.rd x n e) → s.evalWord e = .ok a → decode s.params (.rd n a) = .ok i →
      step s = Cpu.schedule (exec i s)) ∧
    (∀ n e v a d i, s.top.current = some (.wr n e v) → s.evalWord e = .ok a → s.evalWord v = .ok d →
      decode s.params (.wr n a (Size.trunc n d)) = .ok i → step s = Cpu.schedule (exec i s)) ∧
    (∀ e m v a wm wv i, s.top.current = some (.poll e m v) → s.evalWord e = .ok a → s.evalWord m = .ok wm →
      s.evalWord v = .ok wv → decode s.params (.rd .b4 a) = .ok i → step s = Cpu.schedule (exec i s)) ∧
    (∀ i ds, s.top.current = some (.call i ds) → i.isOperation = true → step s = Cpu.schedule (exec i s)) ∧
    (∀ t, Cpu.schedule (.next t) = .next { t with turn := Config.freeMove t.stepNo, stepNo := t.stepNo + 1 })

/-- A host access, by a RD, a POLL or a WR, that fails a bus check raises the fault of that check, with the address as its info, and
nothing else happens (20_memory.md R203, R207, R209, R210; 40_bus.md R410, R411, R422; 45_xform.md R851). -/
def Obligations.RejectedAccessFaults : Prop :=
  ∀ (s : State), s.fault = none → s.turn = .statement → s.hostIdle = false →
    (∀ x n e a, s.top.current = some (.rd x n e) → s.evalWord e = .ok a →
      (∀ b, decode s.params (.rd n a) = .error (.unmapped b) → step s = .next (s.raise ⟨.busUnmapped, .num a.toNat⟩).scheduled) ∧
      (∀ b, decode s.params (.rd n a) = .error (.misaligned b) → step s = .next (s.raise ⟨.busAlign, .num a.toNat⟩).scheduled)) ∧
    (∀ e m v a wm wv, s.top.current = some (.poll e m v) → s.evalWord e = .ok a → s.evalWord m = .ok wm → s.evalWord v = .ok wv →
      (∀ b, decode s.params (.rd .b4 a) = .error (.unmapped b) →
        step s = .next (s.raise ⟨.busUnmapped, .num a.toNat⟩).scheduled) ∧
      (∀ b, decode s.params (.rd .b4 a) = .error (.misaligned b) →
        step s = .next (s.raise ⟨.busAlign, .num a.toNat⟩).scheduled)) ∧
    (∀ n e v a d, s.top.current = some (.wr n e v) → s.evalWord e = .ok a → s.evalWord v = .ok d →
      (∀ b, decode s.params (.wr n a (Size.trunc n d)) = .error (.unmapped b) →
        step s = .next (s.raise ⟨.busUnmapped, .num a.toNat⟩).scheduled) ∧
      (∀ b, decode s.params (.wr n a (Size.trunc n d)) = .error (.misaligned b) →
        step s = .next (s.raise ⟨.busAlign, .num a.toNat⟩).scheduled) ∧
      (∀ b, decode s.params (.wr n a (Size.trunc n d)) = .error (.readOnly b) →
        step s = .next (s.raise ⟨.busRo, .num a.toNat⟩).scheduled) ∧
      (∀ b, decode s.params (.wr n a (Size.trunc n d)) = .error (.subWordWrite b) →
        step s = .next (s.raise ⟨.busWidth, .num a.toNat⟩).scheduled) ∧
      (∀ op, decode s.params (.wr n a (Size.trunc n d)) = .error (.reservedOp op) →
        6 ≤ op.toNat ∧ step s = .next (s.raise ⟨.xformBadOp, .num op.toNat⟩).scheduled))

/-! ### Memory -/

/-- RAM writes of each size: byte i of the value goes to address a+i, every other byte and all other state stay, and the position
moves on (20_memory.md R204 to R206). -/
def Obligations.RamWrites : Prop :=
  ∀ (s : State) (off : BitVec 32) (d : Word),
    let a := s.params.ramBase + off.toNat
    exec (.ramWr8 off d) s = .next (s.memWrite .b1 a d).advance ∧
    exec (.ramWr16 off d) s = .next (s.memWrite .b2 a d).advance ∧
    exec (.ramWr32 off d) s = .next (s.memWrite .b4 a d).advance ∧
    ∀ n : Size,
      (∀ i, i < n.bytes → (s.memWrite n a d).advance.byteAt (a + i) = d.extractLsb' (8 * i) 8) ∧
      (∀ e, e < a ∨ a + n.bytes ≤ e → (s.memWrite n a d).advance.byteAt e = s.byteAt e) ∧
      (s.memWrite n a d).advance = { s.advance with ram := (s.memWrite n a d).ram }

/-- RAM reads of each size, and reads of the trim halfword: the bytes, least significant first, zero-extended (20_memory.md R204,
R205). A byte of RAM reads as it was written last. -/
def Obligations.RamAndTrimReads : Prop :=
  ∀ (s : State) (x : LocalName) (off : BitVec 32) (low : BitVec 1), s.sink = .ok (.store x) →
    let a := s.params.ramBase + off.toNat
    exec (.ramRd8 off) s = .next (s.loaded x (0#24 ++ s.byteAt a)) ∧
    exec (.ramRd16 off) s = .next (s.loaded x (0#16 ++ s.byteAt (a + 1) ++ s.byteAt a)) ∧
    exec (.ramRd32 off) s =
      .next (s.loaded x (s.byteAt (a + 3) ++ s.byteAt (a + 2) ++ s.byteAt (a + 1) ++ s.byteAt a)) ∧
    exec (.trimRd8 low) s =
      .next (s.loaded x (0#24 ++ (if low = 0 then s.trim.extractLsb' 0 8 else s.trim.extractLsb' 8 8))) ∧
    exec .trimRd16 s = .next (s.loaded x (0#16 ++ s.trim)) ∧
    ∀ e b, s.ram.find e = some b → s.byteAt e = b

/-! ### Faults -/

/-- A fatal fault: the step that raises it changes nothing but the record (and the model's schedule), and from a state with a record
no step is taken any more. -/
def Obligations.FaultIsFatal : Prop :=
  (∀ s t : State, step s = .next t → t.fault = none ∨ ∃ f, t = { s with fault := some f }.scheduled) ∧
  ∀ (s : State) (f : FaultRecord), s.fault = some f → step s = .fault (.quiescent f.code f.info)

/-! ### Host statements -/

/-- `LET`, `JMP`, `BR`, the fault form of `BR`, and `WAIT`, for a program that runs no CALL at this moment (40_bus.md R403, R404,
R423 to R425). `WAIT N` is N steps; that the last of them moves the position is log entry 17; `WAIT 0` is one step. -/
def Obligations.HostStatements : Prop :=
  ∀ (s : State), s.fault = none → s.turn = .statement → s.hostIdle = false → s.top.calls = [] →
    (∀ x e v, s.top.current = some (.set x e) → s.eval e = .ok v →
      step s = .next (s.setTop { s.top with
        loc := writeLocal s.top.loc x (BitVec.ofInt 32 v), pc := s.top.pc + 1, polls := 0, waits := 0 }).scheduled) ∧
    (∀ l, s.top.current = some (.jmp l) →
      step s = .next (s.setTop { s.top with pc := l, polls := 0, waits := 0 }).scheduled) ∧
    (∀ c l v, s.top.current = some (.br c l) → s.eval c = .ok v →
      step s = .next (s.setTop { s.top with
        pc := if v ≠ 0 then l else s.top.pc + 1, polls := 0, waits := 0 }).scheduled) ∧
    (∀ c code info v w, s.top.current = some (.brFault c code info) → s.eval c = .ok v → s.eval info = .ok w →
      step s = .next (if v ≠ 0 then s.raise ⟨code, .num w⟩
        else s.setTop { s.top with pc := s.top.pc + 1, polls := 0, waits := 0 }).scheduled) ∧
    (∀ n, s.top.current = some (.wait n) →
      step s = .next (s.setTop (if s.top.waits + 1 < n then { s.top with waits := s.top.waits + 1 }
        else { s.top with pc := s.top.pc + 1, polls := 0, waits := 0 })).scheduled)

/-- Reading a local that the activity has not written raises `HOST_UNDEF_LOCAL` (40_bus.md R402). An error of an expression that a
statement evaluates, wherever it stands in the statement, is the step's fault; the operand a driver operation checks first is
evaluated by the call, whose first statement runs in the same step (the model's choice, log entry 7). An expression reads its
operands from the left, and the chosen arm of a conditional (log entry 14); it gives `HOST_UNDEF_LOCAL` only for a local that occurs
in it and is not written. A local just written reads back, and the other locals keep their values. -/
def Obligations.Locals : Prop :=
  (∀ (s : State) (f : FaultRecord), s.fault = none → s.turn = .statement → s.hostIdle = false →
    (∃ x n e, s.top.current = some (.rd x n e) ∧ s.eval e = .error f) ∨
    (∃ n e v, s.top.current = some (.wr n e v) ∧ (s.eval e = .error f ∨ (∃ a, s.eval e = .ok a) ∧ s.eval v = .error f)) ∨
    (∃ e m v, s.top.current = some (.poll e m v) ∧ (s.eval e = .error f ∨ (∃ a, s.eval e = .ok a) ∧
      (s.eval m = .error f ∨ (∃ w, s.eval m = .ok w) ∧ s.eval v = .error f))) ∨
    (∃ c l, s.top.current = some (.br c l) ∧ s.eval c = .error f) ∨
    (∃ c code e, s.top.current = some (.brFault c code e) ∧
      (s.eval c = .error f ∨ (∃ v, s.eval c = .ok v ∧ v ≠ 0) ∧ s.eval e = .error f)) ∨
    (∃ x e, s.top.current = some (.set x e) ∧ s.eval e = .error f) →
    step s = .next (s.raise f).scheduled) ∧
  (∀ (s : State) (f : FaultRecord) (u : AdcUnit) (e a b c d : Expr), s.eval e = .error f →
    ∀ i ∈ [Instr.pwmConfigure e, .pwmSetDuty e a b, .adcConfigureProduction u e a b, .adcOneShot u e a b, .adcGetAverage u e,
      .adcReadInjectedData u e, .dmamuxMap e a, .dmaBind e a, .dmaStart e a b, .dmaStop e, .dmaTc e, .dmaClearTc e, .dmaClearAll e,
      .floatToQ31 e, .q31ToFloat e, .cordicCompute e, .cordicRequest e, .xfRun e a b c d],
    exec i s = .next (s.raise f)) ∧
  (∀ (loc : List (LocalName × Word)) (y : LocalName), findLocal loc y = none →
    Expr.eval loc (.loc y) = .error ⟨.hostUndefLocal, .loc y⟩) ∧
  (∀ (loc : List (LocalName × Word)) (e a b : Expr) (f : FaultRecord),
    (∀ op, Expr.eval loc e = .error f → Expr.eval loc (.un op e) = .error f) ∧
    (∀ op, Expr.eval loc e = .error f → Expr.eval loc (.bin op e a) = .error f) ∧
    (∀ op v, Expr.eval loc e = .ok v → Expr.eval loc a = .error f → Expr.eval loc (.bin op e a) = .error f) ∧
    (Expr.eval loc e = .error f → Expr.eval loc (.cond e a b) = .error f) ∧
    (∀ v, Expr.eval loc e = .ok v → Expr.eval loc (.cond e a b) = if v ≠ 0 then Expr.eval loc a else Expr.eval loc b)) ∧
  (∀ (loc : List (LocalName × Word)) (e : Expr) (info : FaultInfo), Expr.eval loc e = .error ⟨.hostUndefLocal, info⟩ →
    ∃ y ∈ Expr.locals e, findLocal loc y = none ∧ info = .loc y) ∧
  ∀ (loc : List (LocalName × Word)) (x y : LocalName) (v : Word),
    findLocal (writeLocal loc x v) y = if y = x then some v else findLocal loc y

/-- `HALT` and `RET`, and running off the end of a program (40_bus.md R404, R426; 60_exceptions.md R1033). Once the background has
halted and no handler runs the spec gives the host no statement step; that its move then leaves the state as it is, is the model's
choice (log entries 1 and 5), and so are that the end of a list acts in a step of its own (log entry 38) and that HALT leaves the
background's pc where it is (log entry 39). -/
def Obligations.HaltAndReturn : Prop :=
  ∀ (s : State), s.fault = none → s.turn = .statement →
    (s.handlers = [] → s.halted = false → s.bg.current = some .halt ∨ s.bg.current = none →
      step s = .next { s with halted := true }.scheduled) ∧
    (s.handlers = [] → s.halted = false → s.bg.current = some .ret →
      step s = .next (s.raise ⟨.hostPcRange, .none⟩).scheduled) ∧
    (∀ h rest k, s.handlers = h :: rest → h.line = some k → h.current = some .halt ∨ h.current = none →
      step s = .next (s.raise ⟨.hostPcRange, .num k.val⟩).scheduled) ∧
    (∀ h rest k, s.handlers = h :: rest → h.line = some k → h.current = some .ret →
      step s = .next (if s.intc.stack.head? = some k then s.raise ⟨.intcNoEoi, .num k.val⟩
        else { s with handlers := rest }).scheduled) ∧
    (s.hostIdle = true → step s = .next s.scheduled)

/-- `POLL`: each read is one step; the position moves only when `(r & M) == V`, otherwise the count goes up, and a finite
`POLL_LIMIT` reached is `HW_TIMEOUT` (40_bus.md R422). A read that faults (R410) raises its fault. While a read holds the spec
gives the host no step (00_scope.md R11, 44_cordic.md R814); that its move then leaves the state as it is, is the model's choice
(log entry 5). -/
def Obligations.PollReads : Prop :=
  ∀ (s : State) (e m v : Expr) (a wm wv : Word), s.fault = none → s.turn = .statement → s.hostIdle = false →
    s.top.current = some (.poll e m v) → s.evalWord e = .ok a → s.evalWord m = .ok wm → s.evalWord v = .ok wv →
    (∀ r t, s.hostRead .b4 a = (.word, .value r t) →
      (r &&& wm = wv → step s = .next { t with busData := r }.advance.scheduled) ∧
      (r &&& wm ≠ wv → s.params.pollLimit = some (s.top.polls + 1) →
        step s = .next (s.raise ⟨.hwTimeout, .num a.toNat⟩).scheduled) ∧
      (r &&& wm ≠ wv → s.params.pollLimit ≠ some (s.top.polls + 1) →
        step s = .next ({ t with busData := r }.setTop { s.top with polls := s.top.polls + 1 }).scheduled)) ∧
    (∀ l f, s.hostRead .b4 a = (l, .fault f) → step s = .next (s.raise f).scheduled) ∧
    (∀ l, s.hostRead .b4 a = (l, .hold) → step s = .next s.scheduled)

/-! ### Interrupts -/

/-- Interrupt entry: the line of the lowest level, then of the lowest number, among those enabled, asserted and above the running
level; its number goes on the dispatcher's stack and its handler's activity on the host's, and nothing else changes
(60_exceptions.md R1020, R1030). -/
def Obligations.InterruptEntry : Prop :=
  ∀ (s : State) (k : Line) (prog : Prog), s.fault = none → s.turn = .entry → s.intc.gen = true →
    s.intc.ier.getLsbD k.val = true → s.asserted k = true → Line.level k < s.intc.curlvl → s.vec[k] = some prog →
    (∀ j : Line, s.intc.ier.getLsbD j.val = true → s.asserted j = true → Line.level j < s.intc.curlvl →
      Line.level k < Line.level j ∨ (Line.level k = Line.level j ∧ k ≤ j)) →
    step s = .next { s with
      intc := { s.intc with stack := k :: s.intc.stack }
      handlers := ⟨prog, 0, [], [], if k.val = 0 then 0 else 1, some k, 0, 0⟩ :: s.handlers }.scheduled

/-- Masking: with `GEN` 0, or with no line enabled, asserted and strictly above the running level, no entry is taken. So nothing
preempts the injected handler, and no DMA handler another (60_exceptions.md R1031). -/
def Obligations.InterruptMasking : Prop :=
  (∀ s : State, s.intc.gen = false → s.entryStep = none) ∧
  (∀ s : State, (∀ j : Line, ¬(s.intc.ier.getLsbD j.val = true ∧ s.asserted j = true ∧ Line.level j < s.intc.curlvl)) →
    s.entryStep = none) ∧
  (∀ (s : State) (r : List Line), s.intc.stack = 0 :: r → s.entryStep = none) ∧
  (∀ (s t : State) (k : Line) (r : List Line), s.intc.stack = k :: r → k ≠ 0 → s.entryStep = some t →
    t.intc.stack = 0 :: s.intc.stack)

/-- Line assertion is a level, computed from the current flags and enables (42_adc.md R650, 43_dma.md R745, 60_exceptions.md
R1021). -/
def Obligations.LineAssertion : Prop :=
  ∀ (s : State) (c : Fin 16),
    let irq := fun a : Adc => (a.isr.adrdy && a.ier.adrdy) || (a.isr.eoc && a.ier.eoc) || (a.isr.eos && a.ier.eos) ||
      (a.isr.ovr && a.ier.ovr) || (a.isr.jeoc && a.ier.jeoc) || (a.isr.jeos && a.ier.jeos)
    s.asserted 0 = (irq s.adc1 || irq s.adc2) ∧
    s.asserted ⟨c.val + 1, by omega⟩ = ((s.dma[c].tcif && s.dma[c].cfg.getLsbD 0) || (s.dma[c].htif && s.dma[c].cfg.getLsbD 1) ||
      (s.dma[c].teif && s.dma[c].cfg.getLsbD 2))
/-! ### Register reads -/

/-- Reads of the PWM registers, in any size, into a local: the stored value, DIR from the counter, 0 in every RSV bit, and no side
effect (41_pwm.md R500, 20_memory.md R208). -/
def Obligations.PwmReads : Prop :=
  ∀ (s : State) (x : LocalName) (lane : Lane), s.sink = .ok (.store x) →
    exec (.pwmCr1Rd lane) s = .next (s.loaded x (Lane.take lane (0#27 ++ BitVec.ofBool s.pwm.dir ++ 0#2 ++ BitVec.ofBool s.pwm.cms ++ BitVec.ofBool s.pwm.cen))) ∧
    exec (.pwmCr2Rd lane) s = .next (s.loaded x (Lane.take lane (0#28 ++ s.pwm.cr2))) ∧
    exec (.pwmSrRd lane) s = .next (s.loaded x (Lane.take lane (0#31 ++ BitVec.ofBool s.pwm.uif))) ∧
    exec (.pwmEgrRd lane) s = .next (s.loaded x (Lane.take lane (0#32))) ∧
    exec (.pwmCcmrRd lane) s = .next (s.loaded x (Lane.take lane (0#18 ++ s.pwm.ccmr))) ∧
    exec (.pwmCcerRd lane) s = .next (s.loaded x (Lane.take lane (0#26 ++ s.pwm.ccer))) ∧
    exec (.pwmCntRd lane) s = .next (s.loaded x (Lane.take lane (0#16 ++ s.pwm.cnt))) ∧
    exec (.pwmPscRd lane) s = .next (s.loaded x (Lane.take lane (0#16 ++ s.pwm.psc))) ∧
    exec (.pwmArrRd lane) s = .next (s.loaded x (Lane.take lane (0#16 ++ s.pwm.arr))) ∧
    exec (.pwmRcrRd lane) s = .next (s.loaded x (Lane.take lane (0#24 ++ s.pwm.rcr))) ∧
    exec (.pwmCcr1Rd lane) s = .next (s.loaded x (Lane.take lane (0#16 ++ s.pwm.ccr[0]))) ∧
    exec (.pwmCcr2Rd lane) s = .next (s.loaded x (Lane.take lane (0#16 ++ s.pwm.ccr[1]))) ∧
    exec (.pwmCcr3Rd lane) s = .next (s.loaded x (Lane.take lane (0#16 ++ s.pwm.ccr[2]))) ∧
    exec (.pwmCcr4Rd lane) s = .next (s.loaded x (Lane.take lane (0#16 ++ s.pwm.ccr[3]))) ∧
    exec (.pwmCcr5Rd lane) s = .next (s.loaded x (Lane.take lane (0#16 ++ s.pwm.ccr[4]))) ∧
    exec (.pwmBdtrRd lane) s = .next (s.loaded x (Lane.take lane (0#16 ++ BitVec.ofBool s.pwm.moe ++ 0#4 ++ BitVec.ofBool s.pwm.ossi ++ 0#2 ++ s.pwm.dtg)))

/-- Reads of the registers of both ADC units, in any size, into a local: the stored value, LDORDY exactly when the regulator is
READY, 0 in every RSV bit; a read of `DR` clears `EOC` in the same step, once whatever the size (42_adc.md R600, R621; 20_memory.md
R208). -/
def Obligations.AdcReads : Prop :=
  (∀ (s : State) (x : LocalName) (lane : Lane), s.sink = .ok (.store x) →
      exec (.adc1IsrRd lane) s = .next (s.loaded x (Lane.take lane (0#19 ++ BitVec.ofBool (s.adc1.vreg == .ready) ++ 0#5 ++ BitVec.ofBool s.adc1.isr.jeos ++ BitVec.ofBool s.adc1.isr.jeoc ++ BitVec.ofBool s.adc1.isr.ovr ++ BitVec.ofBool s.adc1.isr.eos ++ BitVec.ofBool s.adc1.isr.eoc ++ 0#1 ++ BitVec.ofBool s.adc1.isr.adrdy))) ∧
      exec (.adc1IerRd lane) s = .next (s.loaded x (Lane.take lane (0#25 ++ BitVec.ofBool s.adc1.ier.jeos ++ BitVec.ofBool s.adc1.ier.jeoc ++ BitVec.ofBool s.adc1.ier.ovr ++ BitVec.ofBool s.adc1.ier.eos ++ BitVec.ofBool s.adc1.ier.eoc ++ 0#1 ++ BitVec.ofBool s.adc1.ier.adrdy))) ∧
      exec (.adc1CrRd lane) s = .next (s.loaded x (Lane.take lane (BitVec.ofBool s.adc1.adcal ++ BitVec.ofBool s.adc1.adcaldif ++ BitVec.ofBool s.adc1.deeppwd ++ BitVec.ofBool s.adc1.advregen ++ 0#24 ++ BitVec.ofBool s.adc1.jadstart ++ BitVec.ofBool s.adc1.adstart ++ 0#1 ++ BitVec.ofBool s.adc1.aden))) ∧
      exec (.adc1CfgrRd lane) s = .next (s.loaded x (Lane.take lane (0#18 ++ BitVec.ofBool s.adc1.cont ++ BitVec.ofBool s.adc1.ovrmod ++ 0#11 ++ BitVec.ofBool s.adc1.dmaen))) ∧
      exec (.adc1Smpr1Rd lane) s = .next (s.loaded x (Lane.take lane (0#2 ++ s.adc1.smpr1))) ∧
      exec (.adc1Smpr2Rd lane) s = .next (s.loaded x (Lane.take lane (0#5 ++ s.adc1.smpr2))) ∧
      exec (.adc1Sqr1Rd lane) s = .next (s.loaded x (Lane.take lane (0#3 ++ s.adc1.sq[3] ++ 0#1 ++ s.adc1.sq[2] ++ 0#1 ++ s.adc1.sq[1] ++ 0#1 ++ s.adc1.sq[0] ++ 0#4 ++ s.adc1.sqLen))) ∧
      exec (.adc1JsqrRd lane) s = .next (s.loaded x (Lane.take lane (s.adc1.jsq[3] ++ 0#1 ++ s.adc1.jsq[2] ++ 0#1 ++ s.adc1.jsq[1] ++ 0#1 ++ s.adc1.jsq[0] ++ s.adc1.jexten ++ s.adc1.jextsel ++ s.adc1.jsqLen))) ∧
      exec (.adc1Jdr1Rd lane) s = .next (s.loaded x (Lane.take lane (0#16 ++ s.adc1.jdr[0]))) ∧
      exec (.adc1Jdr2Rd lane) s = .next (s.loaded x (Lane.take lane (0#16 ++ s.adc1.jdr[1]))) ∧
      exec (.adc1Jdr3Rd lane) s = .next (s.loaded x (Lane.take lane (0#16 ++ s.adc1.jdr[2]))) ∧
      exec (.adc1Jdr4Rd lane) s = .next (s.loaded x (Lane.take lane (0#16 ++ s.adc1.jdr[3]))) ∧
      exec (.adc1DrRd lane) s = .next ({ s with
        adc1 := { s.adc1 with isr := { s.adc1.isr with eoc := false } } }.loaded x (Lane.take lane (0#16 ++ s.adc1.dr)))) ∧
  ∀ (s : State) (x : LocalName) (lane : Lane), s.sink = .ok (.store x) →
    exec (.adc2IsrRd lane) s = .next (s.loaded x (Lane.take lane (0#19 ++ BitVec.ofBool (s.adc2.vreg == .ready) ++ 0#5 ++ BitVec.ofBool s.adc2.isr.jeos ++ BitVec.ofBool s.adc2.isr.jeoc ++ BitVec.ofBool s.adc2.isr.ovr ++ BitVec.ofBool s.adc2.isr.eos ++ BitVec.ofBool s.adc2.isr.eoc ++ 0#1 ++ BitVec.ofBool s.adc2.isr.adrdy))) ∧
    exec (.adc2IerRd lane) s = .next (s.loaded x (Lane.take lane (0#25 ++ BitVec.ofBool s.adc2.ier.jeos ++ BitVec.ofBool s.adc2.ier.jeoc ++ BitVec.ofBool s.adc2.ier.ovr ++ BitVec.ofBool s.adc2.ier.eos ++ BitVec.ofBool s.adc2.ier.eoc ++ 0#1 ++ BitVec.ofBool s.adc2.ier.adrdy))) ∧
    exec (.adc2CrRd lane) s = .next (s.loaded x (Lane.take lane (BitVec.ofBool s.adc2.adcal ++ BitVec.ofBool s.adc2.adcaldif ++ BitVec.ofBool s.adc2.deeppwd ++ BitVec.ofBool s.adc2.advregen ++ 0#24 ++ BitVec.ofBool s.adc2.jadstart ++ BitVec.ofBool s.adc2.adstart ++ 0#1 ++ BitVec.ofBool s.adc2.aden))) ∧
    exec (.adc2CfgrRd lane) s = .next (s.loaded x (Lane.take lane (0#18 ++ BitVec.ofBool s.adc2.cont ++ BitVec.ofBool s.adc2.ovrmod ++ 0#11 ++ BitVec.ofBool s.adc2.dmaen))) ∧
    exec (.adc2Smpr1Rd lane) s = .next (s.loaded x (Lane.take lane (0#2 ++ s.adc2.smpr1))) ∧
    exec (.adc2Smpr2Rd lane) s = .next (s.loaded x (Lane.take lane (0#5 ++ s.adc2.smpr2))) ∧
    exec (.adc2Sqr1Rd lane) s = .next (s.loaded x (Lane.take lane (0#3 ++ s.adc2.sq[3] ++ 0#1 ++ s.adc2.sq[2] ++ 0#1 ++ s.adc2.sq[1] ++ 0#1 ++ s.adc2.sq[0] ++ 0#4 ++ s.adc2.sqLen))) ∧
    exec (.adc2JsqrRd lane) s = .next (s.loaded x (Lane.take lane (s.adc2.jsq[3] ++ 0#1 ++ s.adc2.jsq[2] ++ 0#1 ++ s.adc2.jsq[1] ++ 0#1 ++ s.adc2.jsq[0] ++ s.adc2.jexten ++ s.adc2.jextsel ++ s.adc2.jsqLen))) ∧
    exec (.adc2Jdr1Rd lane) s = .next (s.loaded x (Lane.take lane (0#16 ++ s.adc2.jdr[0]))) ∧
    exec (.adc2Jdr2Rd lane) s = .next (s.loaded x (Lane.take lane (0#16 ++ s.adc2.jdr[1]))) ∧
    exec (.adc2Jdr3Rd lane) s = .next (s.loaded x (Lane.take lane (0#16 ++ s.adc2.jdr[2]))) ∧
    exec (.adc2Jdr4Rd lane) s = .next (s.loaded x (Lane.take lane (0#16 ++ s.adc2.jdr[3]))) ∧
    exec (.adc2DrRd lane) s = .next ({ s with
      adc2 := { s.adc2 with isr := { s.adc2.isr with eoc := false } } }.loaded x (Lane.take lane (0#16 ++ s.adc2.dr)))

/-- Reads of the registers of a DMA channel and of its router register, in any size, into a local: the stored value, GIF the
disjunction of the three flags, CIFCR 0, RSV bits 0, no side effect; EN reads 1 also while a stop is pending (43_dma.md R700,
R740). -/
def Obligations.DmaReads : Prop :=
  ∀ (s : State) (x : LocalName) (lane : Lane) (c : Fin 16), s.sink = .ok (.store x) →
    exec (.dmaCcrRd c lane) s = .next (s.loaded x (Lane.take lane
      (0#20 ++ s.dma[c].cfg ++ BitVec.ofBool (s.dma[c].en || s.dma[c].stopping)))) ∧
    exec (.dmaCndtrRd c lane) s = .next (s.loaded x (Lane.take lane (0#16 ++ s.dma[c].cndtr))) ∧
    exec (.dmaCparRd c lane) s = .next (s.loaded x (Lane.take lane (s.dma[c].cpar))) ∧
    exec (.dmaCmarRd c lane) s = .next (s.loaded x (Lane.take lane (s.dma[c].cmar))) ∧
    exec (.dmaCisrRd c lane) s = .next (s.loaded x (Lane.take lane (0#28 ++ BitVec.ofBool s.dma[c].teif ++ BitVec.ofBool s.dma[c].htif ++ BitVec.ofBool s.dma[c].tcif ++ BitVec.ofBool (s.dma[c].tcif || s.dma[c].htif || s.dma[c].teif)))) ∧
    exec (.dmaCifcrRd c lane) s = .next (s.loaded x (Lane.take lane (0#32))) ∧
    exec (.dmamuxCxcrRd c lane) s = .next (s.loaded x (Lane.take lane (0#25 ++ s.dmamux[c])))

/-- Reads of the registers of the CORDIC and of the transform unit, in any size. CSR gives its fields and RRDY exactly when a result
waits; WDATA reads 0; RDATA holds while a computation runs (the spec gives the host no step then; that its move leaves the state as
it is, is log entry 5), faults with no result pending, else gives the next result and takes it (44_cordic.md R800, R814). Where a
result is pending, `next` is 1 or 2 (`CordicProtocol`). The transform unit's registers read the last operation code, the inputs and
the outputs, with no side effect (45_xform.md R850). -/
def Obligations.CordicXformReads : Prop :=
  (∀ (s : State) (x : LocalName) (lane : Lane), s.sink = .ok (.store x) →
      exec (.cordicCsrRd lane) s = .next (s.loaded x (Lane.take lane (BitVec.ofBool (!s.cordic.busy && s.cordic.left != 0) ++ 0#10 ++ BitVec.ofBool s.cordic.nargs ++ BitVec.ofBool s.cordic.nres ++ 0#11 ++ s.cordic.precision ++ s.cordic.func))) ∧
      exec (.cordicWdataRd lane) s = .next (s.loaded x (Lane.take lane (0#32))) ∧
      (s.cordic.busy = true → exec (.cordicRdataRd lane) s = .next s) ∧
      (s.cordic.busy = false → s.cordic.left = 0 → exec (.cordicRdataRd lane) s = .next (s.raise ⟨.cordicNoResult, .num 0⟩)) ∧
      (s.cordic.busy = false → s.cordic.left ≠ 0 → s.cordic.next = 1 → exec (.cordicRdataRd lane) s = .next
        ({ s with cordic := { s.cordic with next := 2, left := s.cordic.left - 1 } }.loaded x (Lane.take lane s.cordic.res1))) ∧
      (s.cordic.busy = false → s.cordic.left ≠ 0 → s.cordic.next = 2 → exec (.cordicRdataRd lane) s = .next
        ({ s with cordic := { s.cordic with next := 3, left := s.cordic.left - 1 } }.loaded x (Lane.take lane s.cordic.res2)))) ∧
  ∀ (s : State) (x : LocalName) (lane : Lane), s.sink = .ok (.store x) →
    exec (.xformCtrlRd lane) s = .next (s.loaded x (Lane.take lane (0#29 ++ s.xform.op))) ∧
    exec (.xformIn0Rd lane) s = .next (s.loaded x (Lane.take lane (s.xform.inp[0]))) ∧
    exec (.xformIn1Rd lane) s = .next (s.loaded x (Lane.take lane (s.xform.inp[1]))) ∧
    exec (.xformIn2Rd lane) s = .next (s.loaded x (Lane.take lane (s.xform.inp[2]))) ∧
    exec (.xformIn3Rd lane) s = .next (s.loaded x (Lane.take lane (s.xform.inp[3]))) ∧
    exec (.xformOut0Rd lane) s = .next (s.loaded x (Lane.take lane (s.xform.out[0]))) ∧
    exec (.xformOut1Rd lane) s = .next (s.loaded x (Lane.take lane (s.xform.out[1]))) ∧
    exec (.xformOut2Rd lane) s = .next (s.loaded x (Lane.take lane (s.xform.out[2]))) ∧
    exec (.xformOut3Rd lane) s = .next (s.loaded x (Lane.take lane (s.xform.out[3])))

/-- Reads of the dispatcher's registers, in any size, into a local (60_exceptions.md R1010): `IPR` has bit k set exactly when line
k is asserted, `IABR` exactly when it is on the stack; `CURPRI` is the level of the head of the stack or 2, `ACTIVE` its line or
0x1F. -/
def Obligations.IntcReads : Prop :=
  ∀ (s : State) (x : LocalName) (lane : Lane), s.sink = .ok (.store x) →
    exec (.intcCtrlRd lane) s = .next (s.loaded x (Lane.take lane (0#31 ++ BitVec.ofBool s.intc.gen))) ∧
    exec (.intcIerRd lane) s = .next (s.loaded x (Lane.take lane (0#15 ++ s.intc.ier))) ∧
    exec (.intcEoiRd lane) s = .next (s.loaded x (Lane.take lane (0#32))) ∧
    (∀ v : Word, (∀ k : Fin 32, v.getLsbD k.val = if h : k.val < 17 then s.asserted ⟨k.val, h⟩ else false) →
      exec (.intcIprRd lane) s = .next (s.loaded x (Lane.take lane v))) ∧
    (∀ v : Word, (∀ k : Fin 32, v.getLsbD k.val = if h : k.val < 17 then decide ((⟨k.val, h⟩ : Line) ∈ s.intc.stack) else false) →
      exec (.intcIabrRd lane) s = .next (s.loaded x (Lane.take lane v))) ∧
    (s.intc.stack = [] → exec (.intcCurpriRd lane) s = .next (s.loaded x (Lane.take lane 2#32)) ∧
      exec (.intcActiveRd lane) s = .next (s.loaded x (Lane.take lane 0x1F#32))) ∧
    (∀ (k : Line) (r : List Line), s.intc.stack = k :: r →
      exec (.intcCurpriRd lane) s = .next (s.loaded x (Lane.take lane (if k = 0 then 0#32 else 1#32))) ∧
      exec (.intcActiveRd lane) s = .next (s.loaded x (Lane.take lane (BitVec.ofNat 32 k.val))))

/-- The frame of every register read: only the position, the destination local and the transaction's result change, but for `EOC`
of the unit whose `DR` is read and for the CORDIC result taken by `RDATA`; every byte of memory stays (20_memory.md R208,
42_adc.md R600 and R621, 44_cordic.md R800 and R814). -/
def Obligations.RegisterReadFrame : Prop :=
  ∀ (s t : State) (r : Reg) (lane : Lane), exec (r.rdInstr lane) s = .next t →
    t.pwm = s.pwm ∧ t.adcPaired = s.adcPaired ∧ t.dma = s.dma ∧ t.dmamux = s.dmamux ∧ t.xform = s.xform ∧ t.intc = s.intc ∧
    t.trim = s.trim ∧ t.params = s.params ∧ t.vec = s.vec ∧ t.halted = s.halted ∧ (∀ a, t.byteAt a = s.byteAt a) ∧
    (r ≠ .adc .one .dr → t.adc1 = s.adc1) ∧ (r ≠ .adc .two .dr → t.adc2 = s.adc2) ∧
    { t.adc1 with isr := { t.adc1.isr with eoc := s.adc1.isr.eoc } } = s.adc1 ∧
    { t.adc2 with isr := { t.adc2.isr with eoc := s.adc2.isr.eoc } } = s.adc2 ∧
    (r ≠ .cordic .rdata → t.cordic = s.cordic) ∧
    { t.cordic with left := s.cordic.left, next := s.cordic.next } = s.cordic ∧
    t.handlers.length = s.handlers.length ∧ t.handlers.tail = s.handlers.tail ∧ (s.handlers ≠ [] → t.bg = s.bg) ∧
    t.top.lvl = s.top.lvl ∧ t.top.line = s.top.line ∧
    ∀ y, s.sink ≠ .ok (.store y) → findLocal t.top.loc y = findLocal s.top.loc y

/-! ### Register writes -/

/-- Writes of the PWM registers. Those that check nothing: each field takes its value from the word, RSV bits have no effect, `UIF`
is cleared by a 1, and `EGR` with UG set is an update event that also restarts the counter. Those that check: `CR1` may not change
the mode while the counter runs on, `ARR` may not be written while it runs, a mode field of `CCMR` may not be 1, 2 or 3 (the lowest
such channel is named), and `CCR1` to `CCR3` may not be above `ARR`; otherwise the fields take their values from the word. A cleared
CEN freezes the counter, the prescaler count and the direction (41_pwm.md R501 to R512, R524). -/
def Obligations.PwmWrites : Prop :=
  (∀ (s : State) (v : Word),
      exec (.pwmCr2Wr v) s = .next { s with pwm := { s.pwm with cr2 := v.extractLsb' 0 4 } }.advance ∧
      exec (.pwmSrWr v) s = .next { s with pwm := { s.pwm with uif := s.pwm.uif && !v.getLsbD 0 } }.advance ∧
      (v.getLsbD 0 = false → exec (.pwmEgrWr v) s = .next s.advance) ∧
      (v.getLsbD 0 = true → exec (.pwmEgrWr v) s = .next { s with pwm := { s.pwm with
        ccrAct := s.pwm.ccr, pscAct := s.pwm.psc, rep := s.pwm.rcr, uif := true, cnt := 0, dir := false, pscCnt := 0 } }.advance) ∧
      exec (.pwmCcerWr v) s = .next { s with pwm := { s.pwm with ccer := v.extractLsb' 0 6 } }.advance ∧
      exec (.pwmCntWr v) s = .next { s with pwm := { s.pwm with cnt := v.extractLsb' 0 16 } }.advance ∧
      exec (.pwmPscWr v) s = .next { s with pwm := { s.pwm with psc := v.extractLsb' 0 16 } }.advance ∧
      exec (.pwmRcrWr v) s = .next { s with pwm := { s.pwm with rcr := v.extractLsb' 0 8 } }.advance ∧
      exec (.pwmCcr4Wr v) s = .next { s with pwm := { s.pwm with ccr := s.pwm.ccr.set 3 (v.extractLsb' 0 16) } }.advance ∧
      exec (.pwmCcr5Wr v) s = .next { s with pwm := { s.pwm with ccr := s.pwm.ccr.set 4 (v.extractLsb' 0 16) } }.advance ∧
      exec (.pwmBdtrWr v) s = .next { s with pwm := { s.pwm with
        dtg := v.extractLsb' 0 8, ossi := v.getLsbD 10, moe := v.getLsbD 15 } }.advance) ∧
  ∀ (s : State) (v : Word),
    let bad := fun k : Nat => 1 ≤ (v.extractLsb' (4 * k) 3).toNat ∧ (v.extractLsb' (4 * k) 3).toNat ≤ 3
    (s.pwm.cen = true ∧ v.getLsbD 0 = true ∧ v.getLsbD 1 ≠ s.pwm.cms →
      exec (.pwmCr1Wr v) s = .next (s.raise ⟨.pwmCmsRun, .num v.toNat⟩)) ∧
    (¬(s.pwm.cen = true ∧ v.getLsbD 0 = true ∧ v.getLsbD 1 ≠ s.pwm.cms) →
      exec (.pwmCr1Wr v) s = .next { s with pwm := { s.pwm with
        cen := v.getLsbD 0, cms := v.getLsbD 1,
        dir := if v.getLsbD 1 = s.pwm.cms then s.pwm.dir else false } }.advance) ∧
    (s.pwm.cen = false → s.pwm.tick.cnt = s.pwm.cnt ∧ s.pwm.tick.pscCnt = s.pwm.pscCnt ∧ s.pwm.tick.dir = s.pwm.dir) ∧
    (s.pwm.cen = true → exec (.pwmArrWr v) s = .next (s.raise ⟨.pwmArrRun, .num v.toNat⟩)) ∧
    (s.pwm.cen = false →
      exec (.pwmArrWr v) s = .next { s with pwm := { s.pwm with arr := v.extractLsb' 0 16 } }.advance) ∧
    (bad 0 → exec (.pwmCcmrWr v) s = .next (s.raise ⟨.pwmOcmRsv, .num 1⟩)) ∧
    (¬bad 0 ∧ bad 1 → exec (.pwmCcmrWr v) s = .next (s.raise ⟨.pwmOcmRsv, .num 2⟩)) ∧
    (¬bad 0 ∧ ¬bad 1 ∧ bad 2 → exec (.pwmCcmrWr v) s = .next (s.raise ⟨.pwmOcmRsv, .num 3⟩)) ∧
    (¬bad 0 ∧ ¬bad 1 ∧ ¬bad 2 →
      exec (.pwmCcmrWr v) s = .next { s with pwm := { s.pwm with ccmr := v.extractLsb' 0 14 } }.advance) ∧
    (s.pwm.arr.toNat < (v.extractLsb' 0 16).toNat →
      exec (.pwmCcr1Wr v) s = .next (s.raise ⟨.pwmCcrRange, .num 1⟩) ∧
      exec (.pwmCcr2Wr v) s = .next (s.raise ⟨.pwmCcrRange, .num 2⟩) ∧
      exec (.pwmCcr3Wr v) s = .next (s.raise ⟨.pwmCcrRange, .num 3⟩)) ∧
    ((v.extractLsb' 0 16).toNat ≤ s.pwm.arr.toNat →
      exec (.pwmCcr1Wr v) s = .next { s with pwm := { s.pwm with ccr := s.pwm.ccr.set 0 (v.extractLsb' 0 16) } }.advance ∧
      exec (.pwmCcr2Wr v) s = .next { s with pwm := { s.pwm with ccr := s.pwm.ccr.set 1 (v.extractLsb' 0 16) } }.advance ∧
      exec (.pwmCcr3Wr v) s = .next { s with pwm := { s.pwm with ccr := s.pwm.ccr.set 2 (v.extractLsb' 0 16) } }.advance)

/-- Writes of the ADC registers that check nothing: the write-1-to-clear flags of `ISR`, the enables of `IER`, and the data
registers, which ignore a write (42_adc.md R601, R602). -/
def Obligations.AdcPlainWrites : Prop :=
  ∀ (s : State) (v : Word),
    let flags := fun f : AdcFlags => (⟨f.adrdy && !v.getLsbD 0, f.eoc && !v.getLsbD 2, f.eos && !v.getLsbD 3,
      f.ovr && !v.getLsbD 4, f.jeoc && !v.getLsbD 5, f.jeos && !v.getLsbD 6⟩ : AdcFlags)
    let enables : AdcFlags :=
      ⟨v.getLsbD 0, v.getLsbD 2, v.getLsbD 3, v.getLsbD 4, v.getLsbD 5, v.getLsbD 6⟩
    exec (.adc1IsrWr v) s = .next { s with adc1 := { s.adc1 with isr := flags s.adc1.isr } }.advance ∧
    exec (.adc2IsrWr v) s = .next { s with adc2 := { s.adc2 with isr := flags s.adc2.isr } }.advance ∧
    exec (.adc1IerWr v) s = .next { s with adc1 := { s.adc1 with ier := enables } }.advance ∧
    exec (.adc2IerWr v) s = .next { s with adc2 := { s.adc2 with ier := enables } }.advance ∧
    exec (.adc1DrWr v) s = .next s.advance ∧ exec (.adc2DrWr v) s = .next s.advance ∧
    exec (.adc1Jdr1Wr v) s = .next s.advance ∧ exec (.adc2Jdr1Wr v) s = .next s.advance ∧
    exec (.adc1Jdr2Wr v) s = .next s.advance ∧ exec (.adc2Jdr2Wr v) s = .next s.advance ∧
    exec (.adc1Jdr3Wr v) s = .next s.advance ∧ exec (.adc2Jdr3Wr v) s = .next s.advance ∧
    exec (.adc1Jdr4Wr v) s = .next s.advance ∧ exec (.adc2Jdr4Wr v) s = .next s.advance

/-- A write of `CR` is refused with `ADC_SEQ` exactly when one of the six checks fails on the state before it. An accepted write
has its effects one by one: the regulator starts or stops with ADVREGEN, the RW bits take their values, each W1S bit is set once
and starts its handshake, calibration or sequence, a bit already 1 is left as it is, and a software start of the injected sequence
unpairs the units (42_adc.md R603). -/
def Obligations.AdcControlWrite : Prop :=
  ∀ (s : State) (v : Word),
    let refused := fun a : Adc =>
      ((a.aden = true ∨ a.adcal = true) ∧
        (v.getLsbD 28 ≠ a.advregen ∨ v.getLsbD 29 ≠ a.deeppwd ∨ v.getLsbD 30 ≠ a.adcaldif)) ∨
      (v.getLsbD 28 = true ∧ v.getLsbD 29 = true) ∨
      (v.getLsbD 31 = true ∧ a.adcal = false ∧ (a.aden = true ∨ a.vreg ≠ .ready ∨ v.getLsbD 28 = false)) ∨
      (v.getLsbD 0 = true ∧ a.aden = false ∧ (a.adcal = true ∨ v.getLsbD 31 = true ∨ a.vreg ≠ .ready)) ∨
      (v.getLsbD 2 = true ∧ a.adstart = false ∧ a.en ≠ .ready) ∨
      (v.getLsbD 3 = true ∧ a.jadstart = false ∧ a.en ≠ .ready)
    let soft := fun a : Adc => v.getLsbD 3 = true ∧ a.jadstart = false ∧ a.jexten = 0 ∧ a.jact = false
    let after := fun a : Adc => { a with
      vreg := if v.getLsbD 28 = true ∧ a.advregen = false then .starting
        else if v.getLsbD 28 = false ∧ a.advregen = true then .off else a.vreg
      advregen := v.getLsbD 28
      deeppwd := v.getLsbD 29
      adcaldif := v.getLsbD 30
      adcal := a.adcal || v.getLsbD 31
      cal := if v.getLsbD 31 = true ∧ a.adcal = false then .running else a.cal
      aden := a.aden || v.getLsbD 0
      en := if v.getLsbD 0 = true ∧ a.aden = false then .enabling else a.en
      adstart := a.adstart || v.getLsbD 2
      rrank := if v.getLsbD 2 = true ∧ a.adstart = false then 0 else a.rrank
      jadstart := a.jadstart || v.getLsbD 3
      jact := if soft a then true else a.jact
      jrank := if soft a then 0 else a.jrank }
    (refused s.adc1 → exec (.adc1CrWr v) s = .next (s.raise ⟨.adcSeq, .num 1⟩)) ∧
    (refused s.adc2 → exec (.adc2CrWr v) s = .next (s.raise ⟨.adcSeq, .num 2⟩)) ∧
    (¬refused s.adc1 → exec (.adc1CrWr v) s = .next { s with
      adc1 := after s.adc1, adcPaired := if soft s.adc1 then false else s.adcPaired }.advance) ∧
    (¬refused s.adc2 → exec (.adc2CrWr v) s = .next { s with
      adc2 := after s.adc2, adcPaired := if soft s.adc2 then false else s.adcPaired }.advance)

/-- Writes of the configuration registers of a unit: refused with `ADC_RUN` while the unit is Running; `JSQR` refuses a trigger
select of 2 or above, then `SQR1` and `JSQR` refuse the first channel above `CH_MAX` in a rank in use (that it is the first in
rank order is log entry 31); otherwise every field takes its value from the word (42_adc.md R604 to R608, 30_encoding.md R322,
R324). -/
def Obligations.AdcConfigWrites : Prop :=
  ∀ (s : State) (v : Word),
    let run := fun a : Adc => a.adstart = true ∨ a.jadstart = true
    let high := fun (len : BitVec 2) (lo k : Nat) => k ≤ len.toNat ∧ s.params.chMax < (v.extractLsb' (lo + 6 * k) 5).toNat
    let first := fun (lo k : Nat) => high (v.extractLsb' 0 2) lo k ∧ ∀ j, j < k → ¬high (v.extractLsb' 0 2) lo j
    let ch := fun (lo k : Nat) => v.extractLsb' (lo + 6 * k) 5
    let good := fun lo : Nat => ∀ k, k < 4 → ¬high (v.extractLsb' 0 2) lo k
    let cfg := fun a : Adc => { a with dmaen := v.getLsbD 0, ovrmod := v.getLsbD 12, cont := v.getLsbD 13 }
    let seq := fun a : Adc => { a with sqLen := v.extractLsb' 0 2, sq := #v[ch 6 0, ch 6 1, ch 6 2, ch 6 3] }
    let inj := fun a : Adc => { a with
      jsqLen := v.extractLsb' 0 2, jextsel := v.extractLsb' 2 5, jexten := v.extractLsb' 7 2, jsq := #v[ch 9 0, ch 9 1, ch 9 2, ch 9 3] }
    (run s.adc1 → ∀ i ∈ [Instr.adc1CfgrWr v, .adc1Smpr1Wr v, .adc1Smpr2Wr v, .adc1Sqr1Wr v, .adc1JsqrWr v],
      exec i s = .next (s.raise ⟨.adcRun, .num 1⟩)) ∧
    (run s.adc2 → ∀ i ∈ [Instr.adc2CfgrWr v, .adc2Smpr1Wr v, .adc2Smpr2Wr v, .adc2Sqr1Wr v, .adc2JsqrWr v],
      exec i s = .next (s.raise ⟨.adcRun, .num 2⟩)) ∧
    (¬run s.adc1 →
      exec (.adc1CfgrWr v) s = .next { s with adc1 := cfg s.adc1 }.advance ∧
      exec (.adc1Smpr1Wr v) s = .next { s with adc1 := { s.adc1 with smpr1 := v.extractLsb' 0 30 } }.advance ∧
      exec (.adc1Smpr2Wr v) s = .next { s with adc1 := { s.adc1 with smpr2 := v.extractLsb' 0 27 } }.advance ∧
      (∀ k, k < 4 → first 6 k → exec (.adc1Sqr1Wr v) s = .next (s.raise ⟨.adcBadChannel, .num (ch 6 k).toNat⟩)) ∧
      (good 6 → exec (.adc1Sqr1Wr v) s = .next { s with adc1 := seq s.adc1 }.advance) ∧
      (2 ≤ (v.extractLsb' 2 5).toNat →
        exec (.adc1JsqrWr v) s = .next (s.raise ⟨.adcBadTrigger, .num (v.extractLsb' 2 5).toNat⟩)) ∧
      ((v.extractLsb' 2 5).toNat < 2 → ∀ k, k < 4 → first 9 k →
        exec (.adc1JsqrWr v) s = .next (s.raise ⟨.adcBadChannel, .num (ch 9 k).toNat⟩)) ∧
      ((v.extractLsb' 2 5).toNat < 2 → good 9 → exec (.adc1JsqrWr v) s = .next { s with adc1 := inj s.adc1 }.advance)) ∧
    (¬run s.adc2 →
      exec (.adc2CfgrWr v) s = .next { s with adc2 := cfg s.adc2 }.advance ∧
      exec (.adc2Smpr1Wr v) s = .next { s with adc2 := { s.adc2 with smpr1 := v.extractLsb' 0 30 } }.advance ∧
      exec (.adc2Smpr2Wr v) s = .next { s with adc2 := { s.adc2 with smpr2 := v.extractLsb' 0 27 } }.advance ∧
      (∀ k, k < 4 → first 6 k → exec (.adc2Sqr1Wr v) s = .next (s.raise ⟨.adcBadChannel, .num (ch 6 k).toNat⟩)) ∧
      (good 6 → exec (.adc2Sqr1Wr v) s = .next { s with adc2 := seq s.adc2 }.advance) ∧
      (2 ≤ (v.extractLsb' 2 5).toNat →
        exec (.adc2JsqrWr v) s = .next (s.raise ⟨.adcBadTrigger, .num (v.extractLsb' 2 5).toNat⟩)) ∧
      ((v.extractLsb' 2 5).toNat < 2 → ∀ k, k < 4 → first 9 k →
        exec (.adc2JsqrWr v) s = .next (s.raise ⟨.adcBadChannel, .num (ch 9 k).toNat⟩)) ∧
      ((v.extractLsb' 2 5).toNat < 2 → good 9 → exec (.adc2JsqrWr v) s = .next { s with adc2 := inj s.adc2 }.advance))

/-- Writes of a DMA channel and of its router register. A channel is active while EN reads 1, also when a beat has cleared the
stored bit with a stop pending (log entry 34). `CCR`: an active channel refuses a changed configuration, takes EN 0 as a stop
request and EN 1 as nothing; an idle one refuses to be enabled with bad sizes, a zero count or misaligned addresses, and else
stores the configuration and, with EN 1, starts a pass. Count and addresses are written only while the channel is idle, `CIFCR`
clears flags, `CISR` ignores a write, and the router checks the request ID before the channel (43_dma.md R700, R701, R710, R711,
R714, R741). -/
def Obligations.DmaWrites : Prop :=
  ∀ (s : State) (c : Fin 16) (v : Word),
    let d := s.dma[c]
    let active := d.en = true ∨ d.stopping = true
    let put := fun e : DmaChannel => { s with dma := s.dma.set c e }.advance
    let bad := v.extractLsb' 8 2 = 3#2 ∨ v.extractLsb' 10 2 = 3#2 ∨ v.extractLsb' 8 2 ≠ v.extractLsb' 10 2 ∨ d.cndtr = 0 ∨
      d.cpar.toNat % 2 ^ (v.extractLsb' 8 2).toNat ≠ 0 ∨ d.cmar.toNat % 2 ^ (v.extractLsb' 10 2).toNat ≠ 0
    (active → v.extractLsb' 1 11 ≠ d.cfg → exec (.dmaCcrWr c v) s = .next (s.raise ⟨.dmaReconfig, .num c.val⟩)) ∧
    (active → v.extractLsb' 1 11 = d.cfg → v.getLsbD 0 = true → exec (.dmaCcrWr c v) s = .next s.advance) ∧
    (active → v.extractLsb' 1 11 = d.cfg → v.getLsbD 0 = false →
      exec (.dmaCcrWr c v) s = .next { s with dma := s.dma.set c { d with stopping := true } }.advance) ∧
    (¬active → v.getLsbD 0 = true → bad → exec (.dmaCcrWr c v) s = .next (s.raise ⟨.dmaBadConfig, .num c.val⟩)) ∧
    (¬active → v.getLsbD 0 = true → ¬bad → exec (.dmaCcrWr c v) s = .next { s with dma := s.dma.set c { d with
      cfg := v.extractLsb' 1 11, en := true, stopping := false, init := d.cndtr, pptr := d.cpar, mptr := d.cmar } }.advance) ∧
    (¬active → v.getLsbD 0 = false →
      exec (.dmaCcrWr c v) s = .next { s with dma := s.dma.set c { d with cfg := v.extractLsb' 1 11 } }.advance) ∧
    (active → ∀ i ∈ [Instr.dmaCndtrWr c v, .dmaCparWr c v, .dmaCmarWr c v],
      exec i s = .next (s.raise ⟨.dmaReconfig, .num c.val⟩)) ∧
    (¬active → exec (.dmaCndtrWr c v) s = .next (put { d with cndtr := v.extractLsb' 0 16 }) ∧
      exec (.dmaCparWr c v) s = .next (put { d with cpar := v }) ∧
      exec (.dmaCmarWr c v) s = .next (put { d with cmar := v })) ∧
    exec (.dmaCisrWr c v) s = .next s.advance ∧
    exec (.dmaCifcrWr c v) s = .next (put { d with
      tcif := d.tcif && !v.getLsbD 0 && !v.getLsbD 1
      htif := d.htif && !v.getLsbD 0 && !v.getLsbD 2
      teif := d.teif && !v.getLsbD 0 && !v.getLsbD 3 }) ∧
    (3 ≤ (v.extractLsb' 0 7).toNat →
      exec (.dmamuxCxcrWr c v) s = .next (s.raise ⟨.dmamuxBadId, .num (v.extractLsb' 0 7).toNat⟩)) ∧
    ((v.extractLsb' 0 7).toNat < 3 → active →
      exec (.dmamuxCxcrWr c v) s = .next (s.raise ⟨.dmamuxReconfig, .num c.val⟩)) ∧
    ((v.extractLsb' 0 7).toNat < 3 → ¬active →
      exec (.dmamuxCxcrWr c v) s = .next { s with dmamux := s.dmamux.set c (v.extractLsb' 0 7) }.advance)

/-- Writes of the CORDIC registers: `CSR` is refused with anything outstanding, then for a bad function or precision; `WDATA` is
refused while busy or with results unread, else latches the first of a pair or starts a computation; `RDATA` ignores a write
(44_cordic.md R800, R801, R810). -/
def Obligations.CordicWrites : Prop :=
  ∀ (s : State) (v : Word),
    let k := s.cordic
    let put := fun e : Cordic => { s with cordic := e }.advance
    (k.busy = true ∨ k.left ≠ 0 ∨ k.latched = true →
      exec (.cordicCsrWr v) s = .next (s.raise ⟨.cordicBusy, .num v.toNat⟩)) ∧
    (k.busy = false → k.left = 0 → k.latched = false → 2 ≤ (v.extractLsb' 0 4).toNat ∨ v.extractLsb' 4 4 = 0#4 →
      exec (.cordicCsrWr v) s = .next (s.raise ⟨.cordicBadFunc, .num v.toNat⟩)) ∧
    (k.busy = false → k.left = 0 → k.latched = false → (v.extractLsb' 0 4).toNat < 2 → v.extractLsb' 4 4 ≠ 0#4 →
      exec (.cordicCsrWr v) s = .next (put { k with
        func := v.extractLsb' 0 4, precision := v.extractLsb' 4 4, nres := v.getLsbD 19, nargs := v.getLsbD 20 })) ∧
    (k.busy = true ∨ k.left ≠ 0 → exec (.cordicWdataWr v) s = .next (s.raise ⟨.cordicOverrun, .num v.toNat⟩)) ∧
    (k.busy = false → k.left = 0 → k.nargs = true → k.latched = false →
      exec (.cordicWdataWr v) s = .next (put { k with arg1 := v, latched := true })) ∧
    (k.busy = false → k.left = 0 → k.nargs = true → k.latched = true →
      exec (.cordicWdataWr v) s = .next (put { k with x := k.arg1, m := v, latched := false, busy := true })) ∧
    (k.busy = false → k.left = 0 → k.nargs = false →
      exec (.cordicWdataWr v) s = .next (put { k with x := v, m := 0x7FFFFFFF#32, busy := true })) ∧
    exec (.cordicRdataWr v) s = .next s.advance

/-- Writes of the transform unit: the inputs are stored, the outputs ignore a write, and a write of `CTRL`, whatever its RSV bits,
runs NOP, Clarke, Park, inverse Park, SVPWM or Clarke with Park in the operation order of its rule; outputs a transform does not
name keep their values. SVPWM gives the three duties and the sector; the duties of a finite scale M above 0 are products with M of
numbers clamped to [0, 1], any other scale counts as +0 (45_xform.md R850 to R852, R860 to R865). The cases of the binary32 operations
that the spec does not write out follow IEEE 754, the model's choice (PRESUMED, log entry 30). -/
def Obligations.XformWrites : Prop :=
  (∀ (s : State) (v : Word) (hi : BitVec 29),
      let inp := fun k : Fin 4 => { s with xform := { s.xform with inp := s.xform.inp.set k v } }.advance
      let i0 := s.xform.inp[0]
      let i1 := s.xform.inp[1]
      let i2 := s.xform.inp[2]
      let i3 := s.xform.inp[3]
      let o2 := s.xform.out[2]
      let o3 := s.xform.out[3]
      let put := fun (op : BitVec 3) (out : Vector Word 4) => { s with xform := { s.xform with op := op, out := out } }.advance
      let beta := F32.div (F32.add i0 (F32.add i1 i1)) Config.sqrt3
      exec (.xformIn0Wr v) s = .next (inp 0) ∧ exec (.xformIn1Wr v) s = .next (inp 1) ∧
      exec (.xformIn2Wr v) s = .next (inp 2) ∧ exec (.xformIn3Wr v) s = .next (inp 3) ∧
      exec (.xformOut0Wr v) s = .next s.advance ∧ exec (.xformOut1Wr v) s = .next s.advance ∧
      exec (.xformOut2Wr v) s = .next s.advance ∧ exec (.xformOut3Wr v) s = .next s.advance ∧
      exec (.xformCtrlWrNop hi) s = .next (put 0 s.xform.out) ∧
      exec (.xformCtrlWrClarke hi) s = .next (put 1 #v[i0, beta, o2, o3]) ∧
      exec (.xformCtrlWrPark hi) s = .next (put 2 #v[F32.add (F32.mul i0 i3) (F32.mul i1 i2),
        F32.sub (F32.mul i1 i3) (F32.mul i0 i2), o2, o3]) ∧
      exec (.xformCtrlWrIpark hi) s = .next (put 3 #v[F32.sub (F32.mul i0 i3) (F32.mul i1 i2),
        F32.add (F32.mul i1 i3) (F32.mul i0 i2), o2, o3]) ∧
      exec (.xformCtrlWrClarkePark hi) s = .next (put 5 #v[F32.add (F32.mul i0 i3) (F32.mul beta i2),
        F32.sub (F32.mul beta i3) (F32.mul i0 i2), i0, beta])) ∧
  ∀ (s : State) (hi : BitVec 29),
    let a := s.xform.inp[0]
    let b := s.xform.inp[1]
    let h := 0x3F000000#32
    let r := 0x3F5DB3D7#32
    let vb := F32.add (F32.mul (F32.neg h) a) (F32.mul r b)
    let vc := F32.sub (F32.mul (F32.neg h) a) (F32.mul r b)
    let vo := F32.neg (F32.mul h (F32.add (F32.max (F32.max a vb) vc) (F32.min (F32.min a vb) vc)))
    let m := if F32.isFinite s.xform.inp[2] = true ∧ F32.lt 0 s.xform.inp[2] = true then s.xform.inp[2] else 0
    let duty := fun v : Word => F32.mul (F32.clamp01 (F32.add h (F32.add v vo))) m
    let one := fun v : Word => if F32.lt 0 v = true then 1 else 0
    let n := one b + 2 * one (F32.sub (F32.mul r a) (F32.mul h b)) + 4 * one (F32.sub (F32.mul (F32.neg r) a) (F32.mul h b))
    exec (.xformCtrlWrSvpwm hi) s = .next { s with xform := { s.xform with
      op := 4, out := #v[duty a, duty vb, duty vc, #[0#32, 2, 6, 1, 4, 3, 5, 0].getD n 0] } }.advance

/-- Writes of the dispatcher's registers: GEN; `IER`, refused for the least line it enables that has no handler program; `EOI`,
which ends the claim of the running handler or is refused; the read-only ones ignore a write (60_exceptions.md R1010 to R1012,
R1032). -/
def Obligations.IntcWrites : Prop :=
  ∀ (s : State) (v : Word),
    exec (.intcCtrlWr v) s = .next { s with intc := { s.intc with gen := v.getLsbD 0 } }.advance ∧
    (∀ k : Line, v.getLsbD k.val = true → s.vec[k] = none → (∀ j : Line, j < k → v.getLsbD j.val = true → s.vec[j] ≠ none) →
      exec (.intcIerWr v) s = .next (s.raise ⟨.intcNoHandler, .num k.val⟩)) ∧
    ((∀ k : Line, v.getLsbD k.val = true → s.vec[k] ≠ none) →
      exec (.intcIerWr v) s = .next { s with intc := { s.intc with ier := v.extractLsb' 0 17 } }.advance) ∧
    (∀ h hs k ks, s.handlers = h :: hs → s.intc.stack = k :: ks → h.line = some k →
      exec (.intcEoiWr v) s = .next { s with intc := { s.intc with stack := ks } }.advance) ∧
    (s.intc.stack = [] ∨ s.handlers = [] ∨ (∃ h hs, s.handlers = h :: hs ∧ h.line ≠ s.intc.stack.head?) →
      exec (.intcEoiWr v) s = .next (s.raise ⟨.intcBadEoi, .num 0⟩)) ∧
    exec (.intcIprWr v) s = .next s.advance ∧ exec (.intcIabrWr v) s = .next s.advance ∧
    exec (.intcCurpriWr v) s = .next s.advance ∧ exec (.intcActiveWr v) s = .next s.advance

/-- The frame of every register write: only the registers of the unit written (and `paired`, by a write of an ADC `CR`) and the
position change; every byte of memory, the locals and the other units stay, also when the write is refused (41_pwm.md R501 to R512,
42_adc.md R601 to R607, 43_dma.md R710 to R714 and R741, 44_cordic.md R801 and R810, 45_xform.md R851 and R852, 60_exceptions.md
R1011, R1012 and R1032). -/
def Obligations.RegisterWriteFrame : Prop :=
  ∀ (s t : State) (r : Reg) (v : Word) (i : Instr), r.wrInstr v = .ok i → exec i s = .next t →
    ((∀ q, r ≠ .pwm q) → t.pwm = s.pwm) ∧
    ((∀ q, r ≠ .adc .one q) → t.adc1 = s.adc1) ∧ ((∀ q, r ≠ .adc .two q) → t.adc2 = s.adc2) ∧
    (r ≠ .adc .one .cr → r ≠ .adc .two .cr → t.adcPaired = s.adcPaired) ∧
    (∀ c : Fin 16, (∀ q, r ≠ .dma c q) → t.dma[c] = s.dma[c]) ∧
    (∀ c : Fin 16, r ≠ .dmamux c → t.dmamux[c] = s.dmamux[c]) ∧
    ((∀ q, r ≠ .cordic q) → t.cordic = s.cordic) ∧ ((∀ q, r ≠ .xform q) → t.xform = s.xform) ∧
    ((∀ q, r ≠ .intc q) → t.intc = s.intc) ∧
    t.trim = s.trim ∧ t.params = s.params ∧ t.vec = s.vec ∧ t.halted = s.halted ∧ t.busData = s.busData ∧
    (∀ a, t.byteAt a = s.byteAt a) ∧
    t.top.loc = s.top.loc ∧ t.top.lvl = s.top.lvl ∧ t.top.line = s.top.line ∧
    t.handlers.length = s.handlers.length ∧ t.handlers.tail = s.handlers.tail ∧ (s.handlers ≠ [] → t.bg = s.bg)

/-! ### Driver operations: the call -/

/-- The calls of the PWM operations: the argument check comes first and refuses a bad operand before any transaction; else the
call has run its first statement and stands at its second. `PWM_DEADTIME_TICKS` is one statement and gives the ticks of `DT_NS` at
`F_TIM`, rounded up and at most 255, which the defaults make 85 (41_pwm.md R550, R552 to R554; 40_bus.md R427; log entry 7 says
that a call and its first statement are one step). -/
def Obligations.PwmOperationCalls : Prop :=
  (min 255 ((Params.default.fTim * Params.default.dtNs + 999999999) / 1000000000) = 85) ∧
  ∀ (s : State), s.params.wf = true →
    (∀ p v, s.eval p = .ok v → 2 ≤ v → v ≤ 65536 →
      exec (.pwmConfigure p) s = .next (s.entered (bodyPwmConfigure s.params p) 1)) ∧
    (∀ p v, s.eval p = .ok v → v < 2 ∨ 65536 < v → exec (.pwmConfigure p) s = .next (s.raise ⟨.pwmBadArg, .num v⟩)) ∧
    exec .pwmDeadtimeTicks s = .next (s.assigned (destOr s.callDests 0 .pwmDeadtimeTicksDt)
      (BitVec.ofNat 32 (min 255 ((s.params.fTim * s.params.dtNs + 999999999) / 1000000000)))) ∧
    exec .pwmEnableOutputs s = .next ((s.setTop (s.top.expand (bodyPwmEnableOutputs s.params))).loaded .pwmEnableOutputsB
      (s.pwm.read .bdtr)) ∧
    (∀ a b c x y z, s.eval a = .ok x → s.eval b = .ok y → s.eval c = .ok z → x ≤ 65535 → y ≤ 65535 → z ≤ 65535 →
      exec (.pwmSetDuty a b c) s = .next (s.entered (bodyPwmSetDuty s.params a b c) 1)) ∧
    (∀ a b c x y z, s.eval a = .ok x → s.eval b = .ok y → s.eval c = .ok z → 65535 < x ∨ 65535 < y ∨ 65535 < z →
      exec (.pwmSetDuty a b c) s = .next (s.raise ⟨.pwmBadArg, .num (max (max x y) z)⟩))

/-- The calls of the ADC operations, as for the PWM ones. `ADC_POWERUP_CALIBRATE` begins with a write of 0 to CR, which is refused
with `ADC_SEQ` while the unit is enabled or calibrates and one of the power-up fields is 1 (42_adc.md R603, R660 to R671; 40_bus.md
R427; log entry 7). That the channels of CONFIGURE_PRODUCTION, ONE_SHOT and GET_AVERAGE are bounded by the parameter `CH_MAX`, where
R663 and R664 write its default 18, is the model's choice (DESIGN CHOICE, log entry 36). What the operations do as a whole is stated
in `AdcSetupRuns` and `AdcMeasureRuns`. -/
def Obligations.AdcOperationCalls : Prop :=
  ∀ (s : State) (u : AdcUnit), s.params.wf = true →
    let a := s.adc u
    let refused := (a.aden = true ∨ a.adcal = true) ∧ (a.advregen = true ∨ a.deeppwd = true ∨ a.adcaldif = true)
    (¬refused → exec (.adcPowerupCalibrate u) s =
      .next ((s.setAdc u { a with
        vreg := if a.advregen then .off else a.vreg, advregen := false, deeppwd := false, adcaldif := false }).entered
        (bodyAdcPowerupCalibrate s.params u) 1)) ∧
    (refused → exec (.adcPowerupCalibrate u) s = .next (s.raise ⟨.adcSeq, .num (if u = .one then 1 else 2)⟩)) ∧
    exec (.adcEnable u) s = .next ((s.setTop (s.top.expand (bodyAdcEnable s.params u))).loaded .adcEnableC ((s.adc u).read .cr)) ∧
    exec (.adcStart u) s = .next ((s.setTop (s.top.expand (bodyAdcStart s.params u))).loaded .adcStartC ((s.adc u).read .cr)) ∧
    (∀ r j k x y z, s.eval r = .ok x → s.eval j = .ok y → s.eval k = .ok z →
      x ≤ s.params.chMax → y ≤ s.params.chMax → z ≤ s.params.chMax →
      exec (.adcConfigureProduction u r j k) s = .next (s.entered (bodyAdcConfigureProduction s.params u r j k) 1)) ∧
    (∀ r j k x y z, s.eval r = .ok x → s.eval j = .ok y → s.eval k = .ok z →
      s.params.chMax < x ∨ s.params.chMax < y ∨ s.params.chMax < z →
      exec (.adcConfigureProduction u r j k) s = .next (s.raise ⟨.adcBadChannel, .num (max (max x y) z)⟩)) ∧
    (∀ ch n smp v, s.eval ch = .ok v → v ≤ s.params.chMax → exec (.adcOneShot u ch n smp) s =
      .next (s.entered (bodyAdcOneShot s.params u ch n smp (destOr s.callDests 0 .adcOneShotAvg)) 1)) ∧
    (∀ ch n smp v, s.eval ch = .ok v → s.params.chMax < v →
      exec (.adcOneShot u ch n smp) s = .next (s.raise ⟨.adcBadChannel, .num v⟩)) ∧
    (∀ ch v, s.eval ch = .ok v → v ≤ s.params.chMax → exec (.adcGetAverage u ch) s =
      .next ((s.setTop (s.top.expand (bodyAdcGetAverage s.params u ch (destOr s.callDests 0 .adcGetAverageAvg)))).entered
        (bodyAdcOneShot s.params u ch (.num 64) (.num s.params.smpMax) (destOr s.callDests 0 .adcGetAverageAvg)) 1)) ∧
    (∀ ch v, s.eval ch = .ok v → s.params.chMax < v →
      exec (.adcGetAverage u ch) s = .next (s.raise ⟨.adcBadChannel, .num v⟩)) ∧
    exec .adcReferenceVoltage s = .next ((s.setTop (s.top.expand (bodyAdcReferenceVoltage s.params
      (destOr s.callDests 0 .adcReferenceVoltageRef)))).loaded .adcReferenceVoltageC (0#16 ++ s.trim)) ∧
    exec .adcVrefCalibrate s = .next (((s.setTop (s.top.expand (bodyAdcVrefCalibrate s.params
      (destOr s.callDests 0 .adcVrefCalibrateVrefCal)))).setTop ((s.top.expand (bodyAdcVrefCalibrate s.params
      (destOr s.callDests 0 .adcVrefCalibrateVrefCal))).expand (bodyAdcReferenceVoltage s.params .adcVrefCalibrateRef))).loaded
      .adcReferenceVoltageC (0#16 ++ s.trim)) ∧
    exec (.adcClearInjectedFlag u) s =
      .next (s.setAdc u { s.adc u with isr := { (s.adc u).isr with jeos := false } }).advance ∧
    exec (.adcReadInjectedFlag u) s = .next ((s.setTop (s.top.expand (bodyAdcReadInjectedFlag s.params u
      (destOr s.callDests 0 .adcReadInjectedFlagFlag)))).loaded .adcReadInjectedFlagF ((s.adc u).read .isr)) ∧
    (∀ k v, s.eval k = .ok v → 1 ≤ v → v ≤ 2 → exec (.adcReadInjectedData u k) s =
      .next (s.entered (bodyAdcReadInjectedData s.params u k (destOr s.callDests 0 .adcReadInjectedDataCode)) 1)) ∧
    (∀ k v, s.eval k = .ok v → v < 1 ∨ 2 < v → exec (.adcReadInjectedData u k) s = .next (s.raise ⟨.adcBadRank, .num v⟩)) ∧
    exec (.adcRawDrAddress u) s = .next (s.assigned (destOr s.callDests 0 .adcRawDrAddressA)
      (BitVec.ofNat 32 ((if u = .one then s.params.adc1Base else s.params.adc2Base) + 0x40)))

/-- The calls of the DMA operations: each refuses a channel that is not below `N_DMA` first (43_dma.md R750 to R756). That the bound
is the parameter `N_DMA - 1`, where 43_dma.md section 4 writes its default 15, is the model's choice (DESIGN CHOICE, log entry 36);
that a call and its first statement are one step is log entry 7. What the operations do as a whole is stated in
`DmaOperationRuns`. -/
def Obligations.DmaOperationCalls : Prop :=
  ∀ (s : State) (c a b : Expr) (v : Int), s.eval c = .ok v →
    (v ≤ (s.params.nDma : Int) - 1 →
      exec (.dmamuxMap c a) s = .next (s.entered (bodyDmamuxMap s.params c a) 1) ∧
      exec (.dmaBind c a) s = .next (s.entered (bodyDmaBind s.params c a) 1) ∧
      exec (.dmaStart c a b) s = .next (s.entered (bodyDmaStart s.params c a b) 1) ∧
      exec (.dmaStop c) s = .next (s.entered (bodyDmaStop s.params c) 1) ∧
      exec (.dmaTc c) s = .next (s.entered (bodyDmaTc s.params c (destOr s.callDests 0 .dmaTcFlag)) 1) ∧
      exec (.dmaClearTc c) s = .next (s.entered (bodyDmaClearTc s.params c) 1) ∧
      exec (.dmaClearAll c) s = .next (s.entered (bodyDmaClearAll s.params c) 1)) ∧
    ((s.params.nDma : Int) - 1 < v →
      ∀ i ∈ [Instr.dmamuxMap c a, .dmaBind c a, .dmaStart c a b, .dmaStop c, .dmaTc c, .dmaClearTc c, .dmaClearAll c],
        exec i s = .next (s.raise ⟨.dmaBadChannel, .num v⟩))

/-- The calls of the CORDIC and transform operations and the two Q31 conversions (44_cordic.md R801, R814, R820, R821, R830 to
R833; 45_xform.md R870; log entry 7). While a computation runs the spec gives `CORDIC_COLLECT` no step (00_scope.md R11,
44_cordic.md R814); that it leaves the state as it is, is the model's choice (log entry 5). What `CORDIC_INIT`, `REQUEST` and
`COLLECT` do as a whole is stated in `PwmCordicOperationRuns`. -/
def Obligations.CordicXformOperationCalls : Prop :=
  ∀ (s : State), s.params.wf = true →
    (∀ e v q, s.eval e = .ok v → F32.toQ31 (BitVec.ofInt 32 v) = some q →
      exec (.floatToQ31 e) s = .next (s.assigned (destOr s.callDests 0 .floatToQ31Q) q)) ∧
    (∀ e v, s.eval e = .ok v → F32.toQ31 (BitVec.ofInt 32 v) = none →
      exec (.floatToQ31 e) s = .next (s.raise ⟨.q31Domain, .num (BitVec.ofInt 32 v).toNat⟩)) ∧
    (∀ e v, s.eval e = .ok v → exec (.q31ToFloat e) s =
      .next (s.assigned (destOr s.callDests 0 .q31ToFloatF) (F32.ofQ31 (BitVec.ofInt 32 v)))) ∧
    (s.cordic.busy = false → s.cordic.left = 0 → s.cordic.latched = false → exec .cordicInit s =
      .next ({ s with cordic := { s.cordic with 
        func := 1, precision := BitVec.ofNat 4 s.params.cordicPrecision, nres := true, nargs := true } }.entered (bodyCordicInit s.params) 1)) ∧
    (s.cordic.busy = true ∨ s.cordic.left ≠ 0 ∨ s.cordic.latched = true → exec .cordicInit s =
      .next (s.raise ⟨.cordicBusy, .num (0x180001 + 16 * s.params.cordicPrecision)⟩)) ∧
    (∀ e v q, s.eval e = .ok v → F32.toQ31 (BitVec.ofInt 32 v) = some q →
      let t := s.entered (bodyCordicCompute s.params e (destOr s.callDests 0 .cordicComputeS) (destOr s.callDests 1 .cordicComputeC)) 1
      exec (.cordicCompute e) s = .next (t.setTop (t.top.setLocal .cordicComputeQ q))) ∧
    (∀ e v q, s.eval e = .ok v → F32.toQ31 (BitVec.ofInt 32 v) = some q →
      let t := s.entered (bodyCordicRequest s.params e) 1
      exec (.cordicRequest e) s = .next (t.setTop (t.top.setLocal .cordicRequestQ q))) ∧
    (∀ e v, s.eval e = .ok v → F32.toQ31 (BitVec.ofInt 32 v) = none → ∀ i ∈ [Instr.cordicCompute e, .cordicRequest e],
      exec i s = .next (s.raise ⟨.q31Domain, .num (BitVec.ofInt 32 v).toNat⟩)) ∧
    (s.cordic.busy = false → s.cordic.left ≠ 0 → s.cordic.next = 1 → exec .cordicCollect s =
      .next (({ s with cordic := { s.cordic with next := 2, left := s.cordic.left - 1 } }.setTop (s.top.expand (bodyCordicCollect s.params
        (destOr s.callDests 0 .cordicCollectS) (destOr s.callDests 1 .cordicCollectC)))).loaded .cordicCollectR1 s.cordic.res1)) ∧
    (s.cordic.busy = false → s.cordic.left ≠ 0 → s.cordic.next = 2 → exec .cordicCollect s =
      .next (({ s with cordic := { s.cordic with next := 3, left := s.cordic.left - 1 } }.setTop (s.top.expand (bodyCordicCollect s.params
        (destOr s.callDests 0 .cordicCollectS) (destOr s.callDests 1 .cordicCollectC)))).loaded .cordicCollectR1 s.cordic.res2)) ∧
    (s.cordic.busy = true → exec .cordicCollect s = .next s) ∧
    (s.cordic.busy = false → s.cordic.left = 0 → exec .cordicCollect s = .next (s.raise ⟨.cordicNoResult, .num 0⟩)) ∧
    (∀ op x0 x1 x2 x3 v, s.eval op = .ok v → v ≤ 5 → exec (.xfRun op x0 x1 x2 x3) s =
      .next (s.entered (bodyXfRun s.params op x0 x1 x2 x3 (destOr s.callDests 0 .xfRunY0) (destOr s.callDests 1 .xfRunY1)
        (destOr s.callDests 2 .xfRunY2) (destOr s.callDests 3 .xfRunY3)) 1)) ∧
    (∀ op x0 x1 x2 x3 v, s.eval op = .ok v → 5 < v →
      exec (.xfRun op x0 x1 x2 x3) s = .next (s.raise ⟨.xformBadOp, .num v⟩))

/-- The frame of every operation's call: memory, the PWM, DMA and transform units, the router, the dispatcher and the pairing of the
ADC units stay; of an ADC unit only CR's power-up fields and the flag JEOS can change, of the CORDIC only its configuration and the
result taken; the activities below the top one, its level and its line stay; of the locals only those of the operation and the
call's destination are written (40_bus.md R427). That a call and its first statement are one step, which this frame is of, is the
model's choice (log entry 7). -/
def Obligations.OperationCallFrame : Prop :=
  ∀ (s t : State) (i : Instr), i.isOperation = true → exec i s = .next t →
    t.pwm = s.pwm ∧ t.dma = s.dma ∧ t.dmamux = s.dmamux ∧ t.xform = s.xform ∧ t.intc = s.intc ∧ t.adcPaired = s.adcPaired ∧
    t.trim = s.trim ∧ t.params = s.params ∧ t.vec = s.vec ∧ t.halted = s.halted ∧ (∀ a, t.byteAt a = s.byteAt a) ∧
    (i ≠ .adcPowerupCalibrate .one → i ≠ .adcClearInjectedFlag .one → t.adc1 = s.adc1) ∧
    (i ≠ .adcPowerupCalibrate .two → i ≠ .adcClearInjectedFlag .two → t.adc2 = s.adc2) ∧
    (i ≠ .cordicInit → i ≠ .cordicCollect → t.cordic = s.cordic) ∧
    t.handlers.length = s.handlers.length ∧ t.handlers.tail = s.handlers.tail ∧ (s.handlers ≠ [] → t.bg = s.bg) ∧
    t.top.lvl = s.top.lvl ∧ t.top.line = s.top.line ∧
    ∀ n : Nat, LocalName.user n ∉ s.callDests → findLocal t.top.loc (.user n) = findLocal s.top.loc (.user n)

/-! ### Driver operations: the whole run -/

/-- `PWM_CONFIGURE(p)` runs its 20 statements without a fault and leaves the postcondition of its rule, from any state of the
unit, whether its counter runs or not: 0 in CNT, dir and the active prescaler, ARR p-1, rep 1, the active compare values (0, 0, 0,
p-2, 1), UIF 0, CEN and CMS 1, MOE 0 and every pin LOW; no other unit and no memory changes (41_pwm.md R550, R551). That the run
takes exactly 20 moves of the host, a CALL and its first statement being one step, is the model's choice (log entry 7). -/
def Obligations.PwmConfigureRun : Prop :=
  ∀ (s : State) (p : Nat) (ds : List LocalName), s.AtCall (.pwmConfigure (.num p)) ds → 2 ≤ p → p ≤ 65536 →
    let u := { s.pwm with
      cen := true, cms := true, cr2 := 0xF, uif := false, ccmr := 0x3EEE, ccer := 0x3F, cnt := 0, psc := 0
      arr := BitVec.ofNat 16 (p - 1), rcr := 1, ccr := #v[0, 0, 0, BitVec.ofNat 16 (p - 2), 1]
      dtg := BitVec.ofNat 8 (min 255 ((s.params.fTim * s.params.dtNs + 999999999) / 1000000000))
      ossi := true
      moe := false, dir := false, pscAct := 0, pscCnt := 0, rep := 1, ccrAct := #v[0, 0, 0, BitVec.ofNat 16 (p - 2), 1] }
    s.CallEnds (List.replicate 20 .statement) { s with pwm := u } [] ∧ ∀ k : Fin 3, u.oc k = .low ∧ u.ocn k = .low

/-- `PWM_SET_DUTY(a, b, c)` runs its six statements without a fault and stores `(d * (ARR + 1)) >> 16` in the three compare preload
registers, each at most ARR, so the range check of a compare write never fires in it; no other unit and no memory changes
(41_pwm.md R554). That the run takes exactly six moves of the host is log entry 7, the model's choice. -/
def Obligations.PwmSetDutyRun : Prop :=
  ∀ (s : State) (a b c : Nat) (ds : List LocalName), s.AtCall (.pwmSetDuty (.num a) (.num b) (.num c)) ds →
    a ≤ 65535 → b ≤ 65535 → c ≤ 65535 →
    let duty := fun d : Nat => BitVec.ofNat 16 (d * (s.pwm.arr.toNat + 1) / 65536)
    (∀ d ∈ [a, b, c], (duty d).toNat = d * (s.pwm.arr.toNat + 1) / 65536 ∧ (duty d).toNat ≤ s.pwm.arr.toNat) ∧
    s.CallEnds (List.replicate 6 .statement)
      { s with pwm := { s.pwm with ccr := #v[duty a, duty b, duty c, s.pwm.ccr[3], s.pwm.ccr[4]] } } []

/-- `CORDIC_COMPUTE(t) -> (s, c)` in the configuration `CORDIC_INIT` leaves, with the engine's step between the write and the
first read: the two locals take sine and cosine of the angle, as binary32, nothing is left pending, and no other unit and no memory
changes (44_cordic.md R810, R812, R814, R820, R821, R831). That the run takes exactly these moves, nested CALLs and their first
statements being one step, is the model's choice (log entry 7). -/
def Obligations.CordicComputeRun : Prop :=
  ∀ (s : State) (v : Nat) (q : Word) (x y : Nat), s.AtCall (.cordicCompute (.num v)) [.user x, .user y] → x ≠ y →
    F32.toQ31 (BitVec.ofNat 32 v) = some q → s.cordic.busy = false → s.cordic.left = 0 → s.cordic.latched = false →
    s.cordic.nargs = false → s.cordic.nres = true → s.cordic.func = 1 →
    let sine := Config.cordicSin q 0x7FFFFFFF#32 s.cordic.precision
    let cosine := Config.cordicCos q 0x7FFFFFFF#32 s.cordic.precision
    s.CallEnds [.statement, .statement, .cordic, .statement, .statement, .statement, .statement]
      { s with cordic := { s.cordic with x := q, m := 0x7FFFFFFF#32, res1 := sine, res2 := cosine, left := 0, next := 3 } }
      [(.user x, F32.ofQ31 sine), (.user y, F32.ofQ31 cosine)]

/-- `XF_RUN(op, w0, w1, w2, w3) -> (y0, y1, y2, y3)`: the inputs are stored, the transform of `op` runs once, the four locals take the
outputs, and no other unit and no memory changes (45_xform.md R870, R851). That the run takes exactly ten moves of the host is log
entry 7, the model's choice. -/
def Obligations.XfRunRun : Prop :=
  ∀ (s : State) (op w0 w1 w2 w3 : Nat) (y0 y1 y2 y3 : LocalName), op ≤ 5 → [y0, y1, y2, y3].Nodup →
    s.AtCall (.xfRun (.num op) (.num w0) (.num w1) (.num w2) (.num w3)) [y0, y1, y2, y3] →
    let x := { s.xform with
      inp := #v[BitVec.ofNat 32 w0, BitVec.ofNat 32 w1, BitVec.ofNat 32 w2, BitVec.ofNat 32 w3] }
    let x' := #[x.nop, x.clarke, x.park, x.ipark, x.svpwm, x.clarkePark].getD op x
    s.CallEnds (List.replicate 10 .statement) { s with xform := x' }
      [(y0, x'.out[0]), (y1, x'.out[1]), (y2, x'.out[2]), (y3, x'.out[3])]

/-- `ADC_POWERUP_CALIBRATE`, `ADC_ENABLE`, `ADC_START` and `ADC_CONFIGURE_PRODUCTION` as a whole, when only the host and the steps the
operation waits for are taken. The first, on a unit neither enabled nor calibrating, leaves it powered and calibrated; ENABLE does
nothing to an enabled unit, waits for ADRDY on one that is READY, and is `ADC_SEQ` on any other; START sets ADSTART and JADSTART
together and starts a software-triggered injected sequence at once; CONFIGURE_PRODUCTION leaves the sequences, the long sampling
times, the mode and JEOSIE of its rule, and is `ADC_RUN` on a Running unit (42_adc.md R603, R608, R630 to R632, R660 to R663). The
premise that ADVREGEN and DEEPPWD are not both 1 holds in every run (`AdcInvariant`). The model's choices are that a call and its
first statement are one step (log entry 7), that the last step of a WAIT also moves on (log entry 17), and the bound `CH_MAX` (log
entry 36). -/
def Obligations.AdcSetupRuns : Prop :=
  ∀ (s : State) (u : AdcUnit) (ds : List LocalName),
    let a := s.adc u
    let host := fun k : Nat => List.replicate k Move.statement
    let wait := max 1 s.params.settle
    let unit : FaultInfo := .num (if u = .one then 1 else 2)
    (s.AtCall (.adcPowerupCalibrate u) ds → a.aden = false → a.adcal = false →
      s.CallEnds (host 2 ++ [.regulator u] ++ host (2 + wait) ++ [.calibrated u] ++ host 1)
        (s.setAdc u { a with
          advregen := true, deeppwd := false, adcaldif := false, adcal := false, vreg := .ready, cal := .idle
          calfact := Config.freeCal (s.stepNo + 5 + wait) u }) []) ∧
    (s.AtCall (.adcEnable u) ds →
      (a.aden = true → s.CallEnds (host 2) s []) ∧
      (a.aden = false → a.adcal = true ∨ a.vreg ≠ .ready → s.CallFaults (host 3) s ⟨.adcSeq, unit⟩) ∧
      (a.aden = false → a.adcal = false → a.vreg = .ready → ¬(a.advregen = true ∧ a.deeppwd = true) →
        s.CallEnds (host 3 ++ [.enabled u] ++ host 1)
          (s.setAdc u { a with aden := true, en := .ready, isr := { a.isr with adrdy := true } }) [] ∧
        (a.isr.adrdy = true → s.CallEnds (host 4) (s.setAdc u { a with aden := true, en := .enabling }) []))) ∧
    (s.AtCall (.adcStart u) ds →
      let soft := a.jadstart = false ∧ a.jexten = 0 ∧ a.jact = false
      (a.en ≠ .ready → a.adstart = false ∨ a.jadstart = false → s.CallFaults (host 2) s ⟨.adcSeq, unit⟩) ∧
      (a.en = .ready → ¬(a.advregen = true ∧ a.deeppwd = true) →
        s.CallEnds (host 2) { s.setAdc u { a with
          adstart := true, rrank := if a.adstart then a.rrank else 0
          jadstart := true, jact := if soft then true else a.jact, jrank := if soft then 0 else a.jrank } with
          adcPaired := if soft then false else s.adcPaired } [])) ∧
    (∀ r j k : Nat, s.AtCall (.adcConfigureProduction u (.num r) (.num j) (.num k)) ds →
      r ≤ s.params.chMax → j ≤ s.params.chMax → k ≤ s.params.chMax →
      let low := fun n : Nat => if n ≤ 9 then BitVec.ofNat 30 (s.params.smpLong * 2 ^ (3 * n)) else 0
      let high := fun n : Nat => if 10 ≤ n then BitVec.ofNat 27 (s.params.smpLong * 2 ^ (3 * (n - 10))) else 0
      (a.adstart = true ∨ a.jadstart = true → s.CallFaults (host 2) s ⟨.adcRun, unit⟩) ∧
      (a.adstart = false → a.jadstart = false → s.CallEnds (host 10) (s.setAdc u { a with
        dmaen := true, ovrmod := true, cont := true
        smpr1 := low r ||| low j ||| low k, smpr2 := high r ||| high j ||| high k
        sqLen := 0, sq := #v[BitVec.ofNat 5 r, 0, 0, 0]
        jsqLen := 1, jextsel := 0, jexten := 1, jsq := #v[BitVec.ofNat 5 j, BitVec.ofNat 5 k, 0, 0]
        ier := { a.ier with jeos := true } }) []))

/-- `ADC_ONE_SHOT` and `ADC_GET_AVERAGE` as a whole, with one regular conversion of the unit in each pass: the result is the floor of
the mean of the n codes drawn, SQR1, SMPR1, SMPR2, CFGR, IER and JSQR end as they were, the unit stays or becomes enabled, EOC, EOS
and OVR are clear; a Running unit is refused. `ADC_REFERENCE_VOLTAGE` gives the reference of the trim halfword or the fallback,
`ADC_VREF_CALIBRATE` divides it by the mean of 128 codes of unit 1 or refuses a mean of 0, and the injected flag and data are read
without a side effect (42_adc.md R640, R642, R664 to R667, R669, R670). Draw k is that of step k of the run, `freeCode`; the sum of
the codes is kept modulo 2^32 (40_bus.md R424). The premises on a unit that is not Running hold in every run (`AdcInvariant`,
`FieldsInvariant`). The model's choices are that a call and its first statement are one step (log entry 7), the bound `CH_MAX` and
the parameters REF_CAL_V and REF_FALLBACK (log entry 36). -/
def Obligations.AdcMeasureRuns : Prop :=
  ∀ (s : State) (u : AdcUnit) (ds : List LocalName),
    let a := s.adc u
    let host := fun k : Nat => List.replicate k Move.statement
    let passes := fun n : Nat => (List.replicate n (host 2 ++ [Move.regular u] ++ host 5)).flatten
    let code := fun k : Nat => Config.freeCode (s.stepNo + k) u % 2 ^ s.params.adcBits
    let total := fun k n : Nat => ((List.range n).map fun j => code (k + 8 * j + 2)).sum
    let used := fun (b : Adc) (k n : Nat) => s.setAdc u { b with
      isr := { b.isr with eoc := false, eos := false, ovr := false }
      dr := BitVec.ofNat 16 (code (k + 8 * (n - 1) + 2)), rrank := 0 }
    let idle := a.adstart = false ∧ a.jadstart = false ∧ a.jact = false ∧ ¬(a.advregen = true ∧ a.deeppwd = true) ∧
      ranksOk s.params.chMax a.sqLen a.sq
    let good := s.params.vrefCalMin.toNat ≤ s.trim.toNat ∧ s.trim.toNat ≤ s.params.vrefCalMax.toNat
    let ref := if good then F32.div (F32.mul s.params.refCalV (F32.ofInt s.trim.toNat)) 0x457FF000#32 else s.params.refFallback
    (∀ (i : Instr) (ch n smp : Nat) (x : LocalName),
      (i = .adcOneShot u (.num ch) (.num n) (.num smp) ∧ x = destOr ds 0 .adcOneShotAvg) ∨
        (i = .adcGetAverage u (.num ch) ∧ n = 64 ∧ x = destOr ds 0 .adcGetAverageAvg) →
      s.AtCall i ds → ch ≤ s.params.chMax →
      (a.adstart = true ∨ a.jadstart = true →
        s.CallFaults (host 3) s ⟨.adcOneshotRun, .num (if u = .one then 1 else 2)⟩) ∧
      (idle → 1 ≤ n → n < 2 ^ 32 → a.aden = true → a.en = .ready →
        s.CallEnds (host 21 ++ passes n ++ host 7) (used a 21 n) [(x, BitVec.ofNat 32 (total 21 n % 2 ^ 32 / n))]) ∧
      (idle → 1 ≤ n → n < 2 ^ 32 → a.aden = false → a.adcal = false → a.vreg = .ready →
        s.CallEnds (host 19 ++ [.enabled u] ++ host 4 ++ passes n ++ host 7)
          (used { a with aden := true, en := .ready, isr := { a.isr with adrdy := true } } 24 n)
          [(x, BitVec.ofNat 32 (total 24 n % 2 ^ 32 / n))])) ∧
    (s.AtCall .adcReferenceVoltage ds →
      s.CallEnds (host (if good then 4 else 3)) s [(destOr ds 0 .adcReferenceVoltageRef, ref)]) ∧
    (s.AtCall .adcVrefCalibrate ds → u = .one → idle → a.aden = true → a.en = .ready →
      let k := if good then 25 else 24
      let mean := total k 128 / 128
      (mean ≠ 0 → s.CallEnds (host k ++ passes 128 ++ host 9) (used a k 128)
        [(destOr ds 0 .adcVrefCalibrateVrefCal, F32.div ref (F32.div (F32.ofInt mean) 0x457FF000#32))]) ∧
      (mean = 0 → s.CallFaults (host k ++ passes 128 ++ host 8) (used a k 128) ⟨.adcVrefZero, .num 0⟩)) ∧
    (s.AtCall (.adcReadInjectedFlag u) ds →
      s.CallEnds (host 2) s [(destOr ds 0 .adcReadInjectedFlagFlag, if a.isr.jeos then 1 else 0)]) ∧
    ∀ k : Fin 2, s.AtCall (.adcReadInjectedData u (.num (k.val + 1 : Nat))) ds →
      s.CallEnds (host 3) s [(destOr ds 0 .adcReadInjectedDataCode, 0#16 ++ a.jdr[k.val])]

/-- The DMA operations as a whole, for a channel below `N_DMA`, when only the host takes steps (and, in a `DMA_STOP` of an active
channel, the stop is acknowledged): MAP writes the request ID; BIND stores the peripheral address and the production configuration;
START clears the flags, stores the buffer and its length and starts a pass, or refuses the length, an active channel, or the sizes
and addresses; STOP leaves the channel idle with its count and flags; TC gives the flag, and the two clears clear theirs (43_dma.md
R701, R710 to R714, R741, R750 to R756). That a call and its first statement are one step is log entry 7, the bound `N_DMA` log
entry 36, and that a channel with a stop pending is active log entry 34: the model's choices. -/
def Obligations.DmaOperationRuns : Prop :=
  ∀ (s : State) (c : Fin 16) (ds : List LocalName), c.val < s.params.nDma →
    let d := s.dma[c]
    let ch : Expr := .num c.val
    let active := d.en = true ∨ d.stopping = true
    let host := fun k : Nat => List.replicate k Move.statement
    let put := fun e : DmaChannel => { s with dma := s.dma.set c e }
    let fault := fun code : FaultCode => (⟨code, .num c.val⟩ : FaultRecord)
    let cleared := { d with tcif := false, htif := false, teif := false }
    (∀ id : Nat, s.AtCall (.dmamuxMap ch (.num id)) ds →
      let r := BitVec.ofNat 7 id
      (3 ≤ r.toNat → s.CallFaults (host 2) s ⟨.dmamuxBadId, .num r.toNat⟩) ∧
      (r.toNat < 3 → active → s.CallFaults (host 2) s (fault .dmamuxReconfig)) ∧
      (r.toNat < 3 → ¬active → s.CallEnds (host 2) { s with dmamux := s.dmamux.set c r } [])) ∧
    (∀ pa : Nat, s.AtCall (.dmaBind ch (.num pa)) ds →
      (active → s.CallFaults (host 2) s (fault .dmaReconfig)) ∧
      (¬active → s.CallEnds (host 3) (put { d with cpar := BitVec.ofNat 32 pa, cfg := 0x2D1 }) [])) ∧
    (∀ buf len : Nat, s.AtCall (.dmaStart ch (.num buf) (.num len)) ds →
      let a := BitVec.ofNat 32 buf
      let psize := d.cfg.extractLsb' 7 2
      let msize := d.cfg.extractLsb' 9 2
      let bad := psize = 3 ∨ msize = 3 ∨ psize ≠ msize ∨ d.cpar.toNat % 2 ^ psize.toNat ≠ 0 ∨ a.toNat % 2 ^ msize.toNat ≠ 0
      let set := { cleared with cmar := a, cndtr := BitVec.ofNat 16 len }
      (len < 1 ∨ 65535 < len → s.CallFaults (host 2) s (fault .dmaBadConfig)) ∧
      (1 ≤ len → len ≤ 65535 → active → s.CallFaults (host 5) (put cleared) (fault .dmaReconfig)) ∧
      (1 ≤ len → len ≤ 65535 → ¬active → bad → s.CallFaults (host 8) (put set) (fault .dmaBadConfig)) ∧
      (1 ≤ len → len ≤ 65535 → ¬active → ¬bad → s.CallEnds (host 8) (put { set with
        en := true, init := BitVec.ofNat 16 len, pptr := d.cpar, mptr := a }) [])) ∧
    (s.AtCall (.dmaStop ch) ds →
      (active → s.CallEnds (host 3 ++ [.stopAck c] ++ host 1) (put { d with en := false, stopping := false }) []) ∧
      (¬active → s.CallEnds (host 4) s [])) ∧
    (s.AtCall (.dmaTc ch) ds → s.CallEnds (host 3) s [(destOr ds 0 .dmaTcFlag, if d.tcif then 1 else 0)]) ∧
    (s.AtCall (.dmaClearTc ch) ds → s.CallEnds (host 2) (put { d with tcif := false }) []) ∧
    (s.AtCall (.dmaClearAll ch) ds → s.CallEnds (host 2) (put cleared) [])

/-- `PWM_ENABLE_OUTPUTS`, `CORDIC_INIT`, `CORDIC_REQUEST` and `CORDIC_COLLECT` as a whole, when only the host (and, in INIT, the
engine) takes steps: the first sets MOE and nothing else; INIT leaves the sine function with two results, one argument and the
precision, nothing pending; REQUEST gives the engine the angle with the modulus 0x7FFFFFFF, or the next of a pair of arguments, and
is `CORDIC_OVERRUN` with anything outstanding; COLLECT takes both results, as binary32, and is `CORDIC_NO_RESULT` where only one is
left (41_pwm.md R553; 44_cordic.md R801, R810, R812, R814, R820, R821, R830, R832, R833). That a call and its first statement are one
step is the model's choice (log entry 7). -/
def Obligations.PwmCordicOperationRuns : Prop :=
  ∀ (s : State) (ds : List LocalName),
    let k := s.cordic
    let host := fun n : Nat => List.replicate n Move.statement
    let put := fun e : Cordic => { s with cordic := e }
    let p := BitVec.ofNat 4 s.params.cordicPrecision
    (s.AtCall .pwmEnableOutputs ds → s.CallEnds (host 2) { s with pwm := { s.pwm with moe := true } } []) ∧
    (s.AtCall .cordicInit ds → k.busy = false → k.left = 0 → k.latched = false →
      s.CallEnds (host 3 ++ [.cordic] ++ host 3) (put { k with
        func := 1, precision := p, nres := true, nargs := false, arg1 := 0, x := 0, m := 0x7FFFFFFF#32
        res1 := Config.cordicSin 0 0x7FFFFFFF#32 p, res2 := Config.cordicCos 0 0x7FFFFFFF#32 p, left := 0, next := 3 }) []) ∧
    (∀ (v : Nat) (q : Word), s.AtCall (.cordicRequest (.num v)) ds → F32.toQ31 (BitVec.ofNat 32 v) = some q →
      (k.busy = true ∨ k.left ≠ 0 → s.CallFaults (host 2) s ⟨.cordicOverrun, .num q.toNat⟩) ∧
      (k.busy = false → k.left = 0 → k.nargs = false →
        s.CallEnds (host 2) (put { k with x := q, m := 0x7FFFFFFF#32, busy := true }) []) ∧
      (k.busy = false → k.left = 0 → k.nargs = true → k.latched = false →
        s.CallEnds (host 2) (put { k with arg1 := q, latched := true }) []) ∧
      (k.busy = false → k.left = 0 → k.nargs = true → k.latched = true →
        s.CallEnds (host 2) (put { k with x := k.arg1, m := q, latched := false, busy := true }) [])) ∧
    ∀ x y : Nat, x ≠ y → s.AtCall .cordicCollect [.user x, .user y] → k.busy = false → k.next = 1 →
      (k.left = 1 → s.CallFaults (host 2) (put { k with left := 0, next := 2 }) ⟨.cordicNoResult, .num 0⟩) ∧
      (k.left = 2 → s.CallEnds (host 4) (put { k with left := 0, next := 3 })
        [(.user x, F32.ofQ31 k.res1), (.user y, F32.ofQ31 k.res2)])

/-! ### The PWM tick -/

/-- One tick: the prescaler; the counter's advance in both modes, and its candidates; repetition and the update event, whose copies
this tick's compares already use; output compare, dead time and the trigger levels; every other register stays (41_pwm.md R520 to
R527, R530, R533). The reserved modes 1, 2 and 3, which no state holds (`FieldsInvariant`), are not stated. -/
def Obligations.PwmTick : Prop :=
  ∀ p : Pwm,
    let q := p.tick
    let adv := p.cen = true ∧ p.pscAct ≤ p.pscCnt
    let cand := adv ∧ if p.cms = true ∧ p.dir = true then p.cnt = 0 else p.arr ≤ p.cnt
    let cmp := fun k : Fin 5 => if p.ccmr.getLsbD (#[3, 7, 11, 12, 13].getD k.val 0) then q.ccrAct[k] else p.ccr[k]
    (p.cen = false → q.cnt = p.cnt ∧ q.dir = p.dir ∧ q.pscCnt = p.pscCnt) ∧
    (p.cen = true → p.pscCnt < p.pscAct → q.cnt = p.cnt ∧ q.dir = p.dir ∧ q.pscCnt = p.pscCnt + 1) ∧
    (adv → q.pscCnt = 0) ∧
    (adv → p.cms = false → q.dir = p.dir ∧ q.cnt = if p.cnt < p.arr then p.cnt + 1 else 0) ∧
    (adv → p.cms = true → p.dir = false →
      if p.cnt < p.arr then q.cnt = p.cnt + 1 ∧ q.dir = false else q.cnt = p.cnt ∧ q.dir = true) ∧
    (adv → p.cms = true → p.dir = true →
      if 0 < p.cnt then q.cnt = p.cnt - 1 ∧ q.dir = true else q.cnt = 0 ∧ q.dir = false) ∧
    (cand → p.rep = 0 → q.ccrAct = p.ccr ∧ q.pscAct = p.psc ∧ q.rep = p.rcr ∧ q.uif = true) ∧
    (cand → p.rep ≠ 0 → q.rep = p.rep - 1) ∧
    (¬cand → q.rep = p.rep) ∧
    (¬cand ∨ p.rep ≠ 0 → q.ccrAct = p.ccrAct ∧ q.pscAct = p.pscAct ∧ q.uif = p.uif) ∧
    (∀ k : Fin 3, let mode := p.ccmr.extractLsb' (4 * k.val) 3
      (mode = 0#3 → q.ocref[k] = p.ocref[k]) ∧ (mode = 4#3 → q.ocref[k] = false) ∧ (mode = 5#3 → q.ocref[k] = true) ∧
      (mode = 6#3 → q.ocref[k] = decide (q.cnt < cmp (k.castLE (by decide)))) ∧
      (mode = 7#3 → q.ocref[k] = !decide (q.cnt < cmp (k.castLE (by decide)))) ∧
      (q.ocref[k] ≠ p.ocref[k] → q.dtc[k] = p.dtg) ∧
      (q.ocref[k] = p.ocref[k] → q.dtc[k].toNat = p.dtc[k].toNat - 1)) ∧
    (q.trga = true ↔ p.cr2.getLsbD 0 = true ∧ adv ∧ q.cnt = cmp 3 ∧ q.dir = p.cr2.getLsbD 1) ∧
    (q.trgb = true ↔ p.cr2.getLsbD 2 = true ∧ adv ∧ q.cnt = cmp 4 ∧ q.dir = p.cr2.getLsbD 3) ∧
    q.cen = p.cen ∧ q.cms = p.cms ∧ q.cr2 = p.cr2 ∧ q.ccmr = p.ccmr ∧ q.ccer = p.ccer ∧ q.psc = p.psc ∧ q.arr = p.arr ∧
    q.rcr = p.rcr ∧ q.ccr = p.ccr ∧ q.dtg = p.dtg ∧ q.ossi = p.ossi ∧ q.moe = p.moe

/-- The centre-aligned cycle, with no prescaling and the repetition count 1 that a UG leaves: from (0, up) the counter is at each
value once going up and once going down, the cycle is 2 (ARR + 1) ticks, and its last tick, from (0, down) to (0, up), is its one
update event, at ARR 0 too (41_pwm.md R521, R523, R525). -/
def Obligations.PwmPeriod : Prop :=
  ∀ p : Pwm, p.cen = true → p.cms = true → p.psc = 0 → p.pscAct = 0 → p.rcr = 1 → p.rep = 1 → p.cnt = 0 → p.dir = false →
    let n := p.arr.toNat + 1
    (∀ k, k < n → (Pwm.ticks k p).cnt.toNat = k ∧ (Pwm.ticks k p).dir = false ∧
      (Pwm.ticks (n + k) p).cnt.toNat = n - 1 - k ∧ (Pwm.ticks (n + k) p).dir = true) ∧
    (Pwm.ticks (2 * n) p).cnt = 0 ∧ (Pwm.ticks (2 * n) p).dir = false ∧ (Pwm.ticks (2 * n) p).rep = 1 ∧
    (Pwm.ticks (2 * n) p).pscAct = 0 ∧ (Pwm.ticks (2 * n) p).arr = p.arr ∧
    ∀ k, k < 2 * n → ((Pwm.ticks k p).updatesOnTick = true ↔ k + 1 = 2 * n)

/-- Dead time, in every state and for every waveform: at most one pin of a pair is HIGH; from a tick that changes OCREF both pins
are inactive for DTG ticks, and then the new side is active if OCREF has stayed and the outputs are enabled; and from one pin's
HIGH to the other's there are more than DTG ticks (41_pwm.md R533, R535). -/
def Obligations.DeadTime : Prop :=
  ∀ (p : Pwm) (k : Fin 3),
    ¬(p.oc k = .high ∧ p.ocn k = .high) ∧
    (p.tick.ocref[k] ≠ p.ocref[k] →
      (∀ i, i < p.dtg.toNat → (Pwm.ticks (i + 1) p).oc k ≠ .high ∧ (Pwm.ticks (i + 1) p).ocn k ≠ .high) ∧
      ((∀ i, i ≤ p.dtg.toNat → (Pwm.ticks (i + 1) p).ocref[k] = p.tick.ocref[k]) → p.moe = true →
        p.ccer.getLsbD (2 * k.val) = true → p.ccer.getLsbD (2 * k.val + 1) = true →
        (Pwm.ticks (p.dtg.toNat + 1) p).oc k = (if p.tick.ocref[k] then .high else .low) ∧
        (Pwm.ticks (p.dtg.toNat + 1) p).ocn k = (if p.tick.ocref[k] then .low else .high))) ∧
    (∀ i, p.oc k = .high → (Pwm.ticks i p).ocn k = .high → p.dtg.toNat < i) ∧
    (∀ i, p.ocn k = .high → (Pwm.ticks i p).oc k = .high → p.dtg.toNat < i)

/-- Glitch-free update: the write of a preloaded compare register changes no effective compare value and no pin, at the write and at
every tick until the next update event; only the preload register itself differs (41_pwm.md R555, R510, R524, R526). -/
def Obligations.GlitchFree : Prop :=
  ∀ (p : Pwm) (k : Fin 5) (v : BitVec 16) (n : Nat), ccmrPreload p.ccmr k = true →
    (∀ i, i < n → (Pwm.ticks i p).updatesOnTick = false) →
    let q := { p with ccr := p.ccr.set k v }
    ∀ i, i ≤ n →
      Pwm.ticks i q = { Pwm.ticks i p with ccr := (Pwm.ticks i p).ccr.set k v } ∧
      (∀ j : Fin 5, (Pwm.ticks i q).cmp j = (Pwm.ticks i p).cmp j) ∧
      ∀ j : Fin 3, (Pwm.ticks i q).oc j = (Pwm.ticks i p).oc j ∧ (Pwm.ticks i q).ocn j = (Pwm.ticks i p).ocn j

/-- The tick as a step of the machine: the PWM unit ticks, and each ADC unit that is armed and sees an edge its JEXTEN selects on
the trigger its JEXTSEL selects starts its injected sequence; both starting in one tick pair the units, one alone unpairs them,
none leaves the pairing (41_pwm.md R520, R530, R531; 42_adc.md R646). -/
def Obligations.TriggerDelivery : Prop :=
  ∀ s : State, s.fault = none → s.turn = .tick → s.adc1.jextsel.toNat < 2 → s.adc2.jextsel.toNat < 2 →
    let p := s.pwm.tick
    let old := fun a : Adc => if a.jextsel = 0 then s.pwm.trga else s.pwm.trgb
    let new := fun a : Adc => if a.jextsel = 0 then p.trga else p.trgb
    let rise := fun a : Adc => old a = false ∧ new a = true
    let fall := fun a : Adc => old a = true ∧ new a = false
    let starts := fun a : Adc => (a.jexten = 1 ∧ rise a ∨ a.jexten = 2 ∧ fall a ∨ a.jexten = 3 ∧ (rise a ∨ fall a)) ∧
      a.jadstart = true ∧ a.en = .ready ∧ a.jact = false
    let after := fun a : Adc => { a with
      jact := if starts a then true else a.jact
      jrank := if starts a then 0 else a.jrank }
    step s = .next { s with
      pwm := p
      adc1 := after s.adc1
      adc2 := after s.adc2
      adcPaired := if starts s.adc1 ∧ starts s.adc2 then true
        else if starts s.adc1 ∨ starts s.adc2 then false else s.adcPaired }.scheduled

/-! ### Steps of the other agents -/

/-- The steps of an ADC unit, of the pair, of a DMA channel's stop and of the CORDIC: enabled exactly under the guard of their rule,
with its effect; a move whose guard does not hold leaves the machine as it is (42_adc.md R630 to R632, R640, R642, R647, R648;
43_dma.md R712; 44_cordic.md R812). The draws are the free values `freeCode`, below
2 ^ ADC_BITS, and `freeCal`; that a move without its guard stutters is
log entry 1. -/
def Obligations.AgentSteps : Prop :=
  ∀ (s : State) (u : AdcUnit) (c : Fin 16), s.fault = none →
    let a := s.adc u
    let become : Adc → Host.Outcome State Fault Refusal := fun b => .next (s.setAdc u b).scheduled
    let same : Host.Outcome State Fault Refusal := .next s.scheduled
    let code := fun v : AdcUnit => BitVec.ofNat 16 (Config.freeCode s.stepNo v % 2 ^ s.params.adcBits)
    let inject := fun (b : Adc) (v : BitVec 16) => { b with
      jdr := b.jdr.set b.jrank.toNat v
      isr := { b.isr with jeoc := true, jeos := b.isr.jeos || b.jrank = b.jsqLen }
      jact := b.jrank ≠ b.jsqLen
      jrank := if b.jrank = b.jsqLen then 0 else b.jrank + 1
      jadstart := if b.jrank = b.jsqLen ∧ b.jexten = 0 then false else b.jadstart }
    let paired := s.adcPaired = true ∧ s.adc1.jact = true ∧ s.adc2.jact = true ∧ s.adc1.jrank = s.adc2.jrank ∧
      s.adc1.jsqLen = s.adc2.jsqLen
    (s.turn = .regulator u → step s = if a.vreg = .starting then become { a with vreg := .ready } else same) ∧
    (s.turn = .calibrated u → step s = if a.cal = .running then
      become { a with calfact := Config.freeCal s.stepNo u, cal := .idle, adcal := false } else same) ∧
    (s.turn = .enabled u → step s = if a.en = .enabling then
      become { a with en := .ready, isr := { a.isr with adrdy := true } } else same) ∧
    (s.turn = .regular u → step s =
      if a.en = .ready ∧ a.adstart = true ∧ a.jact = false then
        if a.isr.eoc = true ∧ a.ovrmod = false then become { a with isr := { a.isr with ovr := true }, adstart := false }
        else become { a with
          dr := code u
          isr := { a.isr with ovr := a.isr.ovr || a.isr.eoc, eoc := true, eos := a.isr.eos || a.rrank = a.sqLen }
          rrank := if a.rrank = a.sqLen then 0 else a.rrank + 1
          adstart := ¬(a.rrank = a.sqLen ∧ a.cont = false) }
      else same) ∧
    (s.turn = .injected u → step s = if a.jact = true ∧ ¬paired then become (inject a (code u)) else same) ∧
    (s.turn = .pair → step s = if paired then
      .next { s with adc1 := inject s.adc1 (code .one), adc2 := inject s.adc2 (code .two) }.scheduled else same) ∧
    (s.turn = .stopAck c → step s = if s.dma[c].stopping = true then
      .next { s with dma := s.dma.set c { s.dma[c] with en := false, stopping := false } }.scheduled else same) ∧
    (s.turn = .cordic → step s = if s.cordic.busy = true then
      let sn := Config.cordicSin s.cordic.x s.cordic.m s.cordic.precision
      let cs := Config.cordicCos s.cordic.x s.cordic.m s.cordic.precision
      .next { s with cordic := { s.cordic with
        res1 := if s.cordic.func = 1 then sn else cs, res2 := if s.cordic.func = 1 then cs else sn
        left := if s.cordic.nres then 2 else 1, next := 1, busy := false } }.scheduled else same)

/-- Requests and beats. `req(c)` is as its rule says; without a request there is no beat (that its move then leaves the state as it
is, is the stutter of log entry 1). The beat of the lowest channel that requests moves one element of `2 ^ PSIZE` bytes, from the
peripheral side to RAM with DIR 0, from RAM to the peripheral side with DIR 1. A source is RAM, the trim halfword or a register, read
with its side effect. A destination is RAM, where the element's bytes and no others change, or, for a word, a register, by its write
rule; a precondition of that rule is a fatal fault. Then the count, the addresses that increment, the half and complete flags and
the circular reload or the stop follow. A memory address outside RAM, and a transaction that fails a bus check, is a transfer error:
the flag is set and the channel stops, no write happens, and a read already done keeps its side effect. The last clause says it for
the production binding, halfwords from an ADC unit's DR, with the bytes of the code and EOC (43_dma.md R730, R735, R742; 40_bus.md
R412; 42_adc.md R621, R643). PSIZE 3, which no enabled channel holds (`DmaInvariant`), is not stated.

The model's choices: a register that holds its read has no beat and lets no other channel pass (DEDUCED, log entry 27); the
bookkeeping works on the channel as the beat's own write left it, where that write goes to the channel's registers (DEDUCED, log entry
27); an address increment past 2^32 - 1 wraps (DESIGN CHOICE, log entry 32); and the end of a pass clears the stored EN and leaves a
pending stop pending (DESIGN CHOICE, log entry 34). -/
def Obligations.DmaBeat : Prop :=
  ∀ (s : State) (c : Fin 16),
    let d := s.dma[c]
    let live := fun b : Fin 16 => s.dma[b].en = true ∧ s.dma[b].stopping = false
    (s.dmaReq c = true ↔
      (s.dmamux[c] = 1 ∧ s.adc1.dmaen = true ∧ s.adc1.isr.eoc = true ∨
        s.dmamux[c] = 2 ∧ s.adc2.dmaen = true ∧ s.adc2.isr.eoc = true) ∧
      live c ∧ ∀ b : Fin 16, b < c → live b → s.dmamux[b] ≠ s.dmamux[c]) ∧
    (s.fault = none → s.turn = .beat → (∀ b : Fin 16, s.dmaReq b = false) → step s = .next s.scheduled) ∧
    (s.fault = none → s.turn = .beat → s.dmaReq c = true → (∀ b : Fin 16, b < c → s.dmaReq b = false) → d.psize ≠ 3 →
      let n : Size := if d.psize = 0 then .b1 else if d.psize = 1 then .b2 else .b4
      let ram := fun a : Word => insideRegion s.params.ramBase s.params.ramSize a.toNat n.bytes = true
      let aligned := fun a : Word => a.toNat % n.bytes = 0
      let failed := fun t : State => t.setDma c { t.dma[c] with teif := true, en := false, stopping := false }
      let done := fun t : State =>
        let b := t.dma[c]
        let left := b.cndtr - 1
        let moved := { b with
          htif := b.htif || left.toNat = b.init.toNat / 2
          pptr := if b.pinc = true then d.pptr + BitVec.ofNat 32 n.bytes else b.pptr
          mptr := if b.minc = true then d.mptr + BitVec.ofNat 32 n.bytes else b.mptr }
        t.setDma c (if left ≠ 0 then { moved with cndtr := left }
          else if b.circ = true then { moved with cndtr := b.init, pptr := b.cpar, mptr := b.cmar, tcif := true }
          else { moved with cndtr := 0, tcif := true, en := false })
      (¬ram d.mptr → step s = .next (failed s).scheduled) ∧
      (ram d.mptr → d.dir = false →
        let src := s.dmaBusRead n d.pptr
        (∀ v t, src = .value v t →
          (aligned d.mptr → step s = .next (done (t.memWrite n d.mptr.toNat v)).scheduled) ∧
          (¬aligned d.mptr → step s = .next (failed t).scheduled)) ∧
        (src = .hold → step s = .next s.scheduled) ∧
        (src = .error → step s = .next (failed s).scheduled) ∧
        ((∃ e, decode s.params (.rd n d.pptr) = .error e) → src = .error) ∧
        (ram d.pptr → aligned d.pptr → src = .value (s.memRead n d.pptr.toNat) s) ∧
        (s.params.wf = true → n = .b2 → d.pptr.toNat = s.params.trimAddr → src = .value (0#16 ++ s.trim) s) ∧
        (∀ k, s.params.wf = true → n = .b1 → k < 2 → d.pptr.toNat = s.params.trimAddr + k →
          src = .value (0#24 ++ s.trim.extractLsb' (8 * k) 8) s) ∧
        (∀ (r : Reg) (lane : Lane), s.params.wf = true → r.present s.params = true → lane.size = n →
          d.pptr.toNat = r.address s.params + lane.offset →
          (∀ v t, s.regRead r = .value v t → src = .value (Lane.take lane v) t) ∧
          (s.regRead r = .hold → src = .hold) ∧ ∀ f, s.regRead r = .fault f → src = .error) ∧
        (∀ (t : State) (v : Word) (b : Nat), (b < d.mptr.toNat ∨ d.mptr.toNat + n.bytes ≤ b) →
          (done (t.memWrite n d.mptr.toNat v)).byteAt b = t.byteAt b) ∧
        ∀ (t : State) (v : Word) (i : Nat), i < n.bytes →
          (done (t.memWrite n d.mptr.toNat v)).byteAt (d.mptr.toNat + i) = v.extractLsb' (8 * i) 8) ∧
      (ram d.mptr → d.dir = true →
        let v := s.memRead n d.mptr.toNat
        (¬aligned d.mptr → step s = .next (failed s).scheduled) ∧
        (aligned d.mptr → (∃ e, decode s.params (.wr n d.pptr v) = .error e ∧ ∀ op, e ≠ .reservedOp op) →
          step s = .next (failed s).scheduled) ∧
        (aligned d.mptr → ram d.pptr → aligned d.pptr →
          let t := done (s.memWrite n d.pptr.toNat v)
          step s = .next t.scheduled ∧
          (∀ i, i < n.bytes → t.byteAt (d.pptr.toNat + i) = s.byteAt (d.mptr.toNat + i)) ∧
          ∀ b, b < d.pptr.toNat ∨ d.pptr.toNat + n.bytes ≤ b → t.byteAt b = s.byteAt b) ∧
        (aligned d.mptr → s.params.wf = true → n = .b4 → ∀ r : Reg, r.present s.params = true →
          d.pptr.toNat = r.address s.params →
          (∀ t, s.regWrite r v = .ok t → step s = .next (done t).scheduled) ∧
          (∀ f, s.regWrite r v = .error f → step s = .next (s.raise f).scheduled))) ∧
      (∀ u : AdcUnit, s.params.wf = true → d.psize = 1 → d.dir = false → d.pinc = false → d.minc = true → ram d.mptr →
        d.mptr.toNat % 2 = 0 →
        d.pptr = BitVec.ofNat 32 ((if u = .one then s.params.adc1Base else s.params.adc2Base) + 0x40) →
        let left := d.cndtr - 1
        let half := d.htif || left.toNat = d.init.toNat / 2
        let e := if left ≠ 0 then { d with cndtr := left, mptr := d.mptr + 2, htif := half }
          else if d.circ = true then { d with cndtr := d.init, pptr := d.cpar, mptr := d.cmar, htif := half, tcif := true }
          else { d with cndtr := 0, mptr := d.mptr + 2, htif := half, tcif := true, en := false }
        let a := s.adc u
        let t := { (s.setAdc u { a with isr := { a.isr with eoc := false } }).memWrite .b2 d.mptr.toNat (0#16 ++ a.dr) with
          dma := s.dma.set c e }
        step s = .next t.scheduled ∧ t.byteAt d.mptr.toNat = a.dr.extractLsb' 0 8 ∧
        t.byteAt (d.mptr.toNat + 1) = a.dr.extractLsb' 8 8 ∧
        ∀ b, b < d.mptr.toNat ∨ d.mptr.toNat + 2 ≤ b → t.byteAt b = s.byteAt b))

/-- What a step of any agent can change of a running resource. ADEN is never cleared; ADSTART and JADSTART are cleared only at the
end of their sequences and by an overrun without overwrite; a Running unit keeps its configuration and sequences; ARR stays while
the counter runs, and the mode unless the step stops it; an active DMA channel keeps its configuration, addresses and routing, to
the end of the step that stops it; the parameters, the trim halfword and the handler programs never change (41_pwm.md R501, R508;
42_adc.md R603 to R608, R644; 43_dma.md R701; 20_memory.md R209; 70_reset_and_hazards.md R1134). That a channel is active while a
stop is pending and its stored EN is 0 is log entry 34. -/
def Obligations.RunningResources : Prop :=
  ∀ s t : State, step s = .next t →
    (s.pwm.cen = true → t.pwm.arr = s.pwm.arr ∧ (t.pwm.cen = true → t.pwm.cms = s.pwm.cms)) ∧
    (∀ u : AdcUnit, let a := s.adc u; let b := t.adc u
      (a.aden = true → b.aden = true) ∧
      (a.adstart = true → b.adstart = false → s.turn = .regular u ∧ a.en = .ready ∧
        (a.rrank = a.sqLen ∧ a.cont = false ∨ a.isr.eoc = true ∧ a.ovrmod = false)) ∧
      (a.jadstart = true → b.jadstart = false → (s.turn = .injected u ∨ s.turn = .pair) ∧ a.jact = true ∧
        a.jrank = a.jsqLen ∧ a.jexten = 0) ∧
      (a.adstart = true ∨ a.jadstart = true →
        b.dmaen = a.dmaen ∧ b.ovrmod = a.ovrmod ∧ b.cont = a.cont ∧ b.smpr1 = a.smpr1 ∧ b.smpr2 = a.smpr2 ∧
        b.sqLen = a.sqLen ∧ b.sq = a.sq ∧ b.jsqLen = a.jsqLen ∧ b.jextsel = a.jextsel ∧ b.jexten = a.jexten ∧ b.jsq = a.jsq)) ∧
    (∀ c : Fin 16, s.dma[c].en = true ∨ s.dma[c].stopping = true →
      t.dma[c].cfg = s.dma[c].cfg ∧ t.dma[c].cpar = s.dma[c].cpar ∧ t.dma[c].cmar = s.dma[c].cmar ∧ t.dmamux[c] = s.dmamux[c]) ∧
    t.params = s.params ∧ t.trim = s.trim ∧ t.vec = s.vec

/-! ### Q31 -/

/-- The Q31 conversions. A NaN and a value outside [-1, 1) have no code. Every other value takes the nearest code, a half going away
from zero, without saturation, and comes back within half of the least significant bit; a negative code is negative
(44_cordic.md R820, R821). A finite binary32 is `scaled` units of 2^-149, so 1 is 2^149 and the least significant bit is 2^118. -/
def Obligations.Q31Conversions : Prop :=
  ∀ f : Word,
    (F32.isNan f = true ∨ F32.isInf f = true ∨ F32.scaled f < -(2 ^ 149) ∨ 2 ^ 149 ≤ F32.scaled f → F32.toQ31 f = none) ∧
    (F32.isFinite f = true → -(2 ^ 149) ≤ F32.scaled f → F32.scaled f < 2 ^ 149 → ∃ q, F32.toQ31 f = some q ∧
      |q.toInt * 2 ^ 118 - F32.scaled f| ≤ 2 ^ 117 ∧
      (|q.toInt * 2 ^ 118 - F32.scaled f| = 2 ^ 117 → |F32.scaled f| < |q.toInt * 2 ^ 118|) ∧
      |F32.scaled (F32.ofQ31 q) - F32.scaled f| ≤ 2 ^ 117)

/-! ### Invariants: kept by every step, from every state -/

/-- Memory keeps its canonical form and lists RAM addresses only (20_memory.md R201, R205; log entry 3). -/
def Obligations.MemoryInvariant : Prop := ∀ s t : State, s.MemoryOk → step s = .next t → t.MemoryOk

/-- None of these fields is ever left holding a reserved value: the output modes, the trigger selects, the channels of the ranks in
use, the request IDs, FUNC and PRECISION of the CORDIC and OP of the transform unit; and ADC data are codes of `ADC_BITS` bits
(30_encoding.md R331, R320, R322, R324, R326 to R328; 42_adc.md R640). PSIZE and MSIZE, which R331 excepts, may hold the reserved 3
while a channel is idle (R325); of an enabled channel `DmaInvariant` says that they do not. -/
def Obligations.FieldsInvariant : Prop := ∀ s t : State, s.FieldsOk → step s = .next t → t.FieldsOk

/-- The order of an ADC unit's handshakes: enabled and running only when ready, calibrating only with the regulator ready and the
unit not enabled, never the regulator on in deep power-down; and its ranks stay inside their sequences (42_adc.md R603, R630 to
R632, R642, R645 to R648). -/
def Obligations.AdcInvariant : Prop := ∀ s t : State, s.AdcOk → step s = .next t → t.AdcOk

/-- An enabled DMA channel has equal valid sizes, a remaining count from 1 to that of its pass, and aligned addresses (43_dma.md
R710, R730). -/
def Obligations.DmaInvariant : Prop := ∀ s t : State, s.DmaOk → step s = .next t → t.DmaOk

/-- The CORDIC protocol: a computation, unread results and half an argument pair exclude one another, and the next result to read is
the one the remaining count says (44_cordic.md R801, R810, R812, R814). -/
def Obligations.CordicProtocol : Prop := ∀ s t : State, s.cordic.Ok → step s = .next t → t.cordic.Ok

/-- Nesting: the background stays at the bottom, every handler runs at its line's level, the lines not yet ended are in the order of
their handlers with strictly rising priority to the top, and an enabled line has a handler program (40_bus.md R401; 60_exceptions.md
R1012, R1030 to R1034). -/
def Obligations.DispatchInvariant : Prop := ∀ s t : State, s.DispatchOk → step s = .next t → t.DispatchOk

/-! ### Reset -/

/-- The state a run starts in: every register reads 0 but ARR, the two CR, CSR, CURPRI and ACTIVE; the hidden state is as its
table says; no fault, the background alone at its first statement, no interrupt enabled, the pins Z, no RAM byte written; the
parameters, the programs and the first move, which may be any agent's, are those it is launched with; and every invariant holds there. `State.reset` is the launch with the
default parameters, which are well formed, no program and a free first move (70_reset_and_hazards.md R1100 to R1102, R1134; 10_state.md
R101; log entries 1 and 6). -/
def Obligations.ResetState : Prop :=
  State.reset = State.launch Params.default Config.trimValue [] (Vector.replicate 17 none) Config.firstMove ∧
  Params.default.wf = true ∧
  ∀ (p : Params) (trimValue : BitVec 16) (bg : Prog) (vec : Vector (Option Prog) 17) (first : Move),
    let s := State.launch p trimValue bg vec first
    s.params = p ∧ s.trim = trimValue ∧ s.vec = vec ∧ s.turn = first ∧
    (∀ r : Reg, r ≠ .cordic .rdata → ∃ t, s.regRead r = .value
      (if r = .pwm .arr then 0xFFFF#32 else if r = .adc .one .cr ∨ r = .adc .two .cr then 0x20000000#32
        else if r = .cordic .csr then 0x50#32 else if r = .intc .curpri then 2#32
        else if r = .intc .active then 0x1F#32 else 0#32) t) ∧
    (s.pwm.dir = false ∧ s.pwm.pscAct = 0 ∧ s.pwm.pscCnt = 0 ∧ s.pwm.rep = 0 ∧ (∀ k : Fin 5, s.pwm.ccrAct[k] = 0) ∧
      (∀ k : Fin 3, s.pwm.ocref[k] = false ∧ s.pwm.dtc[k] = 0 ∧ s.pwm.oc k = .z ∧ s.pwm.ocn k = .z) ∧
      s.pwm.trga = false ∧ s.pwm.trgb = false) ∧
    (∀ u : AdcUnit, (s.adc u).vreg = .off ∧ (s.adc u).cal = .idle ∧ (s.adc u).en = .off ∧ (s.adc u).rrank = 0 ∧
      (s.adc u).jrank = 0 ∧ (s.adc u).jact = false ∧ (s.adc u).calfact = 0) ∧ s.adcPaired = false ∧
    (∀ c : Fin 16, s.dma[c].init = 0 ∧ s.dma[c].pptr = 0 ∧ s.dma[c].mptr = 0 ∧ s.dma[c].stopping = false) ∧
    s.cordic.busy = false ∧ s.cordic.latched = false ∧ s.cordic.left = 0 ∧ s.cordic.arg1 = 0 ∧ s.cordic.x = 0 ∧
    s.cordic.m = 0 ∧ s.cordic.res1 = 0 ∧ s.cordic.res2 = 0 ∧ s.cordic.next = 1 ∧
    s.intc.stack = [] ∧ s.fault = none ∧ s.handlers = [] ∧ s.bg = ⟨bg, 0, [], [], 2, none, 0, 0⟩ ∧ s.halted = false ∧
    (∀ a, s.ram.find a = none) ∧
    s.MemoryOk ∧ s.FieldsOk ∧ s.AdcOk ∧ s.DmaOk ∧ s.cordic.Ok ∧ s.DispatchOk
end

