-- ==== Sys2Proof/Laws/State.lean ====
section
/-! SUPPORT. One lemma per field of State per named update of Ops.lean and Agents.lean, true by definition, so that no proof
unfolds a record update. -/
namespace Sys2Proof.Machine

variable (s : State)

/-! ### setTop -/

@[simp] theorem State.setTop_pwm (a : Activity) : (s.setTop a).pwm = s.pwm := rfl
@[simp] theorem State.setTop_adc1 (a : Activity) : (s.setTop a).adc1 = s.adc1 := rfl
@[simp] theorem State.setTop_adc2 (a : Activity) : (s.setTop a).adc2 = s.adc2 := rfl
@[simp] theorem State.setTop_adcPaired (a : Activity) : (s.setTop a).adcPaired = s.adcPaired := rfl
@[simp] theorem State.setTop_dma (a : Activity) : (s.setTop a).dma = s.dma := rfl
@[simp] theorem State.setTop_dmamux (a : Activity) : (s.setTop a).dmamux = s.dmamux := rfl
@[simp] theorem State.setTop_cordic (a : Activity) : (s.setTop a).cordic = s.cordic := rfl
@[simp] theorem State.setTop_xform (a : Activity) : (s.setTop a).xform = s.xform := rfl
@[simp] theorem State.setTop_intc (a : Activity) : (s.setTop a).intc = s.intc := rfl
@[simp] theorem State.setTop_ram (a : Activity) : (s.setTop a).ram = s.ram := rfl
@[simp] theorem State.setTop_trim (a : Activity) : (s.setTop a).trim = s.trim := rfl
@[simp] theorem State.setTop_fault (a : Activity) : (s.setTop a).fault = s.fault := rfl
@[simp] theorem State.setTop_halted (a : Activity) : (s.setTop a).halted = s.halted := rfl
@[simp] theorem State.setTop_vec (a : Activity) : (s.setTop a).vec = s.vec := rfl
@[simp] theorem State.setTop_params (a : Activity) : (s.setTop a).params = s.params := rfl
@[simp] theorem State.setTop_busData (a : Activity) : (s.setTop a).busData = s.busData := rfl
@[simp] theorem State.setTop_turn (a : Activity) : (s.setTop a).turn = s.turn := rfl
@[simp] theorem State.setTop_stepNo (a : Activity) : (s.setTop a).stepNo = s.stepNo := rfl

/-! ### raise -/

@[simp] theorem State.raise_pwm (f : FaultRecord) : (s.raise f).pwm = s.pwm := rfl
@[simp] theorem State.raise_adc1 (f : FaultRecord) : (s.raise f).adc1 = s.adc1 := rfl
@[simp] theorem State.raise_adc2 (f : FaultRecord) : (s.raise f).adc2 = s.adc2 := rfl
@[simp] theorem State.raise_adcPaired (f : FaultRecord) : (s.raise f).adcPaired = s.adcPaired := rfl
@[simp] theorem State.raise_dma (f : FaultRecord) : (s.raise f).dma = s.dma := rfl
@[simp] theorem State.raise_dmamux (f : FaultRecord) : (s.raise f).dmamux = s.dmamux := rfl
@[simp] theorem State.raise_cordic (f : FaultRecord) : (s.raise f).cordic = s.cordic := rfl
@[simp] theorem State.raise_xform (f : FaultRecord) : (s.raise f).xform = s.xform := rfl
@[simp] theorem State.raise_intc (f : FaultRecord) : (s.raise f).intc = s.intc := rfl
@[simp] theorem State.raise_ram (f : FaultRecord) : (s.raise f).ram = s.ram := rfl
@[simp] theorem State.raise_trim (f : FaultRecord) : (s.raise f).trim = s.trim := rfl
@[simp] theorem State.raise_bg (f : FaultRecord) : (s.raise f).bg = s.bg := rfl
@[simp] theorem State.raise_handlers (f : FaultRecord) : (s.raise f).handlers = s.handlers := rfl
@[simp] theorem State.raise_halted (f : FaultRecord) : (s.raise f).halted = s.halted := rfl
@[simp] theorem State.raise_vec (f : FaultRecord) : (s.raise f).vec = s.vec := rfl
@[simp] theorem State.raise_params (f : FaultRecord) : (s.raise f).params = s.params := rfl
@[simp] theorem State.raise_busData (f : FaultRecord) : (s.raise f).busData = s.busData := rfl
@[simp] theorem State.raise_turn (f : FaultRecord) : (s.raise f).turn = s.turn := rfl
@[simp] theorem State.raise_stepNo (f : FaultRecord) : (s.raise f).stepNo = s.stepNo := rfl

/-! ### scheduled -/

@[simp] theorem State.scheduled_pwm : (s.scheduled).pwm = s.pwm := rfl
@[simp] theorem State.scheduled_adc1 : (s.scheduled).adc1 = s.adc1 := rfl
@[simp] theorem State.scheduled_adc2 : (s.scheduled).adc2 = s.adc2 := rfl
@[simp] theorem State.scheduled_adcPaired : (s.scheduled).adcPaired = s.adcPaired := rfl
@[simp] theorem State.scheduled_dma : (s.scheduled).dma = s.dma := rfl
@[simp] theorem State.scheduled_dmamux : (s.scheduled).dmamux = s.dmamux := rfl
@[simp] theorem State.scheduled_cordic : (s.scheduled).cordic = s.cordic := rfl
@[simp] theorem State.scheduled_xform : (s.scheduled).xform = s.xform := rfl
@[simp] theorem State.scheduled_intc : (s.scheduled).intc = s.intc := rfl
@[simp] theorem State.scheduled_ram : (s.scheduled).ram = s.ram := rfl
@[simp] theorem State.scheduled_trim : (s.scheduled).trim = s.trim := rfl
@[simp] theorem State.scheduled_fault : (s.scheduled).fault = s.fault := rfl
@[simp] theorem State.scheduled_bg : (s.scheduled).bg = s.bg := rfl
@[simp] theorem State.scheduled_handlers : (s.scheduled).handlers = s.handlers := rfl
@[simp] theorem State.scheduled_halted : (s.scheduled).halted = s.halted := rfl
@[simp] theorem State.scheduled_vec : (s.scheduled).vec = s.vec := rfl
@[simp] theorem State.scheduled_params : (s.scheduled).params = s.params := rfl
@[simp] theorem State.scheduled_busData : (s.scheduled).busData = s.busData := rfl

/-! ### setAdc -/

@[simp] theorem State.setAdc_pwm (u : AdcUnit) (a : Adc) : (s.setAdc u a).pwm = s.pwm := rfl
@[simp] theorem State.setAdc_adcPaired (u : AdcUnit) (a : Adc) : (s.setAdc u a).adcPaired = s.adcPaired := rfl
@[simp] theorem State.setAdc_dma (u : AdcUnit) (a : Adc) : (s.setAdc u a).dma = s.dma := rfl
@[simp] theorem State.setAdc_dmamux (u : AdcUnit) (a : Adc) : (s.setAdc u a).dmamux = s.dmamux := rfl
@[simp] theorem State.setAdc_cordic (u : AdcUnit) (a : Adc) : (s.setAdc u a).cordic = s.cordic := rfl
@[simp] theorem State.setAdc_xform (u : AdcUnit) (a : Adc) : (s.setAdc u a).xform = s.xform := rfl
@[simp] theorem State.setAdc_intc (u : AdcUnit) (a : Adc) : (s.setAdc u a).intc = s.intc := rfl
@[simp] theorem State.setAdc_ram (u : AdcUnit) (a : Adc) : (s.setAdc u a).ram = s.ram := rfl
@[simp] theorem State.setAdc_trim (u : AdcUnit) (a : Adc) : (s.setAdc u a).trim = s.trim := rfl
@[simp] theorem State.setAdc_fault (u : AdcUnit) (a : Adc) : (s.setAdc u a).fault = s.fault := rfl
@[simp] theorem State.setAdc_bg (u : AdcUnit) (a : Adc) : (s.setAdc u a).bg = s.bg := rfl
@[simp] theorem State.setAdc_handlers (u : AdcUnit) (a : Adc) : (s.setAdc u a).handlers = s.handlers := rfl
@[simp] theorem State.setAdc_halted (u : AdcUnit) (a : Adc) : (s.setAdc u a).halted = s.halted := rfl
@[simp] theorem State.setAdc_vec (u : AdcUnit) (a : Adc) : (s.setAdc u a).vec = s.vec := rfl
@[simp] theorem State.setAdc_params (u : AdcUnit) (a : Adc) : (s.setAdc u a).params = s.params := rfl
@[simp] theorem State.setAdc_busData (u : AdcUnit) (a : Adc) : (s.setAdc u a).busData = s.busData := rfl
@[simp] theorem State.setAdc_turn (u : AdcUnit) (a : Adc) : (s.setAdc u a).turn = s.turn := rfl
@[simp] theorem State.setAdc_stepNo (u : AdcUnit) (a : Adc) : (s.setAdc u a).stepNo = s.stepNo := rfl

/-! ### setDma -/

@[simp] theorem State.setDma_pwm (c : Fin 16) (d : DmaChannel) : (s.setDma c d).pwm = s.pwm := rfl
@[simp] theorem State.setDma_adc1 (c : Fin 16) (d : DmaChannel) : (s.setDma c d).adc1 = s.adc1 := rfl
@[simp] theorem State.setDma_adc2 (c : Fin 16) (d : DmaChannel) : (s.setDma c d).adc2 = s.adc2 := rfl
@[simp] theorem State.setDma_adcPaired (c : Fin 16) (d : DmaChannel) : (s.setDma c d).adcPaired = s.adcPaired := rfl
@[simp] theorem State.setDma_dmamux (c : Fin 16) (d : DmaChannel) : (s.setDma c d).dmamux = s.dmamux := rfl
@[simp] theorem State.setDma_cordic (c : Fin 16) (d : DmaChannel) : (s.setDma c d).cordic = s.cordic := rfl
@[simp] theorem State.setDma_xform (c : Fin 16) (d : DmaChannel) : (s.setDma c d).xform = s.xform := rfl
@[simp] theorem State.setDma_intc (c : Fin 16) (d : DmaChannel) : (s.setDma c d).intc = s.intc := rfl
@[simp] theorem State.setDma_ram (c : Fin 16) (d : DmaChannel) : (s.setDma c d).ram = s.ram := rfl
@[simp] theorem State.setDma_trim (c : Fin 16) (d : DmaChannel) : (s.setDma c d).trim = s.trim := rfl
@[simp] theorem State.setDma_fault (c : Fin 16) (d : DmaChannel) : (s.setDma c d).fault = s.fault := rfl
@[simp] theorem State.setDma_bg (c : Fin 16) (d : DmaChannel) : (s.setDma c d).bg = s.bg := rfl
@[simp] theorem State.setDma_handlers (c : Fin 16) (d : DmaChannel) : (s.setDma c d).handlers = s.handlers := rfl
@[simp] theorem State.setDma_halted (c : Fin 16) (d : DmaChannel) : (s.setDma c d).halted = s.halted := rfl
@[simp] theorem State.setDma_vec (c : Fin 16) (d : DmaChannel) : (s.setDma c d).vec = s.vec := rfl
@[simp] theorem State.setDma_params (c : Fin 16) (d : DmaChannel) : (s.setDma c d).params = s.params := rfl
@[simp] theorem State.setDma_busData (c : Fin 16) (d : DmaChannel) : (s.setDma c d).busData = s.busData := rfl
@[simp] theorem State.setDma_turn (c : Fin 16) (d : DmaChannel) : (s.setDma c d).turn = s.turn := rfl
@[simp] theorem State.setDma_stepNo (c : Fin 16) (d : DmaChannel) : (s.setDma c d).stepNo = s.stepNo := rfl

/-! ### memWrite -/

@[simp] theorem State.memWrite_pwm (n : Size) (a : Nat) (v : Word) : (s.memWrite n a v).pwm = s.pwm := rfl
@[simp] theorem State.memWrite_adc1 (n : Size) (a : Nat) (v : Word) : (s.memWrite n a v).adc1 = s.adc1 := rfl
@[simp] theorem State.memWrite_adc2 (n : Size) (a : Nat) (v : Word) : (s.memWrite n a v).adc2 = s.adc2 := rfl
@[simp] theorem State.memWrite_adcPaired (n : Size) (a : Nat) (v : Word) : (s.memWrite n a v).adcPaired = s.adcPaired := rfl
@[simp] theorem State.memWrite_dma (n : Size) (a : Nat) (v : Word) : (s.memWrite n a v).dma = s.dma := rfl
@[simp] theorem State.memWrite_dmamux (n : Size) (a : Nat) (v : Word) : (s.memWrite n a v).dmamux = s.dmamux := rfl
@[simp] theorem State.memWrite_cordic (n : Size) (a : Nat) (v : Word) : (s.memWrite n a v).cordic = s.cordic := rfl
@[simp] theorem State.memWrite_xform (n : Size) (a : Nat) (v : Word) : (s.memWrite n a v).xform = s.xform := rfl
@[simp] theorem State.memWrite_intc (n : Size) (a : Nat) (v : Word) : (s.memWrite n a v).intc = s.intc := rfl
@[simp] theorem State.memWrite_trim (n : Size) (a : Nat) (v : Word) : (s.memWrite n a v).trim = s.trim := rfl
@[simp] theorem State.memWrite_fault (n : Size) (a : Nat) (v : Word) : (s.memWrite n a v).fault = s.fault := rfl
@[simp] theorem State.memWrite_bg (n : Size) (a : Nat) (v : Word) : (s.memWrite n a v).bg = s.bg := rfl
@[simp] theorem State.memWrite_handlers (n : Size) (a : Nat) (v : Word) : (s.memWrite n a v).handlers = s.handlers := rfl
@[simp] theorem State.memWrite_halted (n : Size) (a : Nat) (v : Word) : (s.memWrite n a v).halted = s.halted := rfl
@[simp] theorem State.memWrite_vec (n : Size) (a : Nat) (v : Word) : (s.memWrite n a v).vec = s.vec := rfl
@[simp] theorem State.memWrite_params (n : Size) (a : Nat) (v : Word) : (s.memWrite n a v).params = s.params := rfl
@[simp] theorem State.memWrite_busData (n : Size) (a : Nat) (v : Word) : (s.memWrite n a v).busData = s.busData := rfl
@[simp] theorem State.memWrite_turn (n : Size) (a : Nat) (v : Word) : (s.memWrite n a v).turn = s.turn := rfl
@[simp] theorem State.memWrite_stepNo (n : Size) (a : Nat) (v : Word) : (s.memWrite n a v).stepNo = s.stepNo := rfl

/-! ### enterLine -/

@[simp] theorem State.enterLine_pwm (k : Line) : (s.enterLine k).pwm = s.pwm := rfl
@[simp] theorem State.enterLine_adc1 (k : Line) : (s.enterLine k).adc1 = s.adc1 := rfl
@[simp] theorem State.enterLine_adc2 (k : Line) : (s.enterLine k).adc2 = s.adc2 := rfl
@[simp] theorem State.enterLine_adcPaired (k : Line) : (s.enterLine k).adcPaired = s.adcPaired := rfl
@[simp] theorem State.enterLine_dma (k : Line) : (s.enterLine k).dma = s.dma := rfl
@[simp] theorem State.enterLine_dmamux (k : Line) : (s.enterLine k).dmamux = s.dmamux := rfl
@[simp] theorem State.enterLine_cordic (k : Line) : (s.enterLine k).cordic = s.cordic := rfl
@[simp] theorem State.enterLine_xform (k : Line) : (s.enterLine k).xform = s.xform := rfl
@[simp] theorem State.enterLine_ram (k : Line) : (s.enterLine k).ram = s.ram := rfl
@[simp] theorem State.enterLine_trim (k : Line) : (s.enterLine k).trim = s.trim := rfl
@[simp] theorem State.enterLine_fault (k : Line) : (s.enterLine k).fault = s.fault := rfl
@[simp] theorem State.enterLine_bg (k : Line) : (s.enterLine k).bg = s.bg := rfl
@[simp] theorem State.enterLine_halted (k : Line) : (s.enterLine k).halted = s.halted := rfl
@[simp] theorem State.enterLine_vec (k : Line) : (s.enterLine k).vec = s.vec := rfl
@[simp] theorem State.enterLine_params (k : Line) : (s.enterLine k).params = s.params := rfl
@[simp] theorem State.enterLine_busData (k : Line) : (s.enterLine k).busData = s.busData := rfl
@[simp] theorem State.enterLine_turn (k : Line) : (s.enterLine k).turn = s.turn := rfl
@[simp] theorem State.enterLine_stepNo (k : Line) : (s.enterLine k).stepNo = s.stepNo := rfl

/-! ### advance -/

@[simp] theorem State.advance_pwm : (s.advance).pwm = s.pwm := rfl
@[simp] theorem State.advance_adc1 : (s.advance).adc1 = s.adc1 := rfl
@[simp] theorem State.advance_adc2 : (s.advance).adc2 = s.adc2 := rfl
@[simp] theorem State.advance_adcPaired : (s.advance).adcPaired = s.adcPaired := rfl
@[simp] theorem State.advance_dma : (s.advance).dma = s.dma := rfl
@[simp] theorem State.advance_dmamux : (s.advance).dmamux = s.dmamux := rfl
@[simp] theorem State.advance_cordic : (s.advance).cordic = s.cordic := rfl
@[simp] theorem State.advance_xform : (s.advance).xform = s.xform := rfl
@[simp] theorem State.advance_intc : (s.advance).intc = s.intc := rfl
@[simp] theorem State.advance_ram : (s.advance).ram = s.ram := rfl
@[simp] theorem State.advance_trim : (s.advance).trim = s.trim := rfl
@[simp] theorem State.advance_fault : (s.advance).fault = s.fault := rfl
@[simp] theorem State.advance_halted : (s.advance).halted = s.halted := rfl
@[simp] theorem State.advance_vec : (s.advance).vec = s.vec := rfl
@[simp] theorem State.advance_params : (s.advance).params = s.params := rfl
@[simp] theorem State.advance_busData : (s.advance).busData = s.busData := rfl
@[simp] theorem State.advance_turn : (s.advance).turn = s.turn := rfl
@[simp] theorem State.advance_stepNo : (s.advance).stepNo = s.stepNo := rfl

/-! ### The fields an update changes -/

@[simp] theorem State.raise_fault (f : FaultRecord) : (s.raise f).fault = some f := rfl
@[simp] theorem State.scheduled_turn : s.scheduled.turn = Config.freeMove s.stepNo := rfl
@[simp] theorem State.scheduled_stepNo : s.scheduled.stepNo = s.stepNo + 1 := rfl
@[simp] theorem State.setDma_dma (c : Fin 16) (d : DmaChannel) : (s.setDma c d).dma = s.dma.set c d := rfl
@[simp] theorem State.memWrite_ram (n : Size) (a : Nat) (v : Word) :
    (s.memWrite n a v).ram = s.ram.writeN a v.toNat n.bytes := rfl
@[simp] theorem State.enterLine_handlers (k : Line) : (s.enterLine k).handlers = s.handlerActivity k :: s.handlers := rfl
@[simp] theorem State.enterLine_stack (k : Line) : (s.enterLine k).intc.stack = k :: s.intc.stack := rfl
@[simp] theorem State.enterLine_gen (k : Line) : (s.enterLine k).intc.gen = s.intc.gen := rfl
@[simp] theorem State.enterLine_ier (k : Line) : (s.enterLine k).intc.ier = s.intc.ier := rfl
@[simp] theorem State.setAdc_adc (u : AdcUnit) (a : Adc) : (s.setAdc u a).adc u = a := by cases u <;> rfl
@[simp] theorem State.setAdc_adc_one (a : Adc) : (s.setAdc .one a).adc .two = s.adc .two := rfl
@[simp] theorem State.setAdc_adc_two (a : Adc) : (s.setAdc .two a).adc .one = s.adc .one := rfl

/-- The top activity after it is replaced. -/
@[simp] theorem State.top_setTop (a : Activity) : (s.setTop a).top = a := by
  unfold State.top State.setTop; cases s.handlers <;> rfl

/-- Replacing the top activity twice is replacing it once. -/
@[simp] theorem State.setTop_setTop (a b : Activity) : (s.setTop a).setTop b = s.setTop b := by
  unfold State.setTop; cases s.handlers <;> rfl

/-- Putting the top activity back changes nothing. -/
@[simp] theorem State.setTop_top : s.setTop s.top = s := by
  unfold State.setTop State.top; cases h : s.handlers <;> simp [← h]

/-- The handlers keep their number when the top activity is replaced. -/
@[simp] theorem State.setTop_handlers_length (a : Activity) : (s.setTop a).handlers.length = s.handlers.length := by
  unfold State.setTop; cases s.handlers <;> rfl

/-- Reading a DMA channel after writing one. -/
theorem State.setDma_get (c e : Fin 16) (d : DmaChannel) :
    (s.setDma c d).dma[e] = if c = e then d else s.dma[e] := by
  simp only [State.setDma_dma, Fin.getElem_fin, Vector.getElem_set, Fin.ext_iff]

end Sys2Proof.Machine
end

