-- ==== Sys2Proof/Laws/Calls.lean ====
section
/-! SUPPORT. What the shared operations of a statement answer: a read that gives its value, a write, and the call of a driver
operation by the form of its first statement. -/
namespace Sys2Proof.Machine

/-! ### Reads and writes as steps -/

/-- A `RD` stores the value and moves on. -/
theorem absorb_store (s : State) (x : LocalName) (r : Word) : s.absorb (.store x) r = .done (s.loaded x r) := by
  simp only [State.absorb, State.advance, State.top_setTop, State.setTop_setTop, State.loaded]
  rfl

/-- A register read into a local. -/
theorem runRead_store (s t : State) (x : LocalName) (lane : Lane) (v : Word) (h : s.sink = .ok (.store x)) :
    Cpu.runRead s lane (.value v t) = .next (t.loaded x (Lane.take lane v)) := by
  simp only [Cpu.runRead, Cpu.finishRead, h, absorb_store, Cpu.outcome]

/-- A read that holds leaves the state as it is. -/
theorem runRead_hold (s : State) (lane : Lane) (k : Sink) (h : s.sink = .ok k) : Cpu.runRead s lane .hold = .next s := by
  simp only [Cpu.runRead, Cpu.finishRead, h, Cpu.outcome]

/-- A read that faults records the fault. -/
theorem runRead_fault (s : State) (lane : Lane) (k : Sink) (f : FaultRecord) (h : s.sink = .ok k) :
    Cpu.runRead s lane (.fault f) = .next (s.raise f) := by
  simp only [Cpu.runRead, Cpu.finishRead, h, Cpu.outcome]

/-- An accepted write moves on. -/
theorem runWrite_ok (s t : State) : Cpu.runWrite s (.ok t) = .next t.advance := rfl

/-- A refused write records its fault and has no other effect. -/
theorem runWrite_error (s : State) (f : FaultRecord) : Cpu.runWrite s (.error f) = .next (s.raise f) := rfl

/-- What a write does, whichever it is: the state its rule gives, moved on, or the fault of its rule. -/
theorem runWrite_cases (s t : State) (r : Except FaultRecord State) (h : Cpu.runWrite s r = .next t) :
    (∃ w, r = .ok w ∧ t = w.advance) ∨ ∃ f, r = .error f ∧ t = s.raise f := by
  cases r with
  | ok w => exact .inl ⟨w, rfl, (Host.Outcome.next.inj h).symm⟩
  | error f => exact .inr ⟨f, rfl, (Host.Outcome.next.inj h).symm⟩

/-! ### Calls -/

/-- Expressions of a call's statements are evaluated over the caller's locals. -/
theorem eval_expand (s : State) (p : Prog) (e : Expr) : (s.setTop (s.top.expand p)).eval e = s.eval e := by
  simp [State.eval, Activity.expand]

/-- The statement a call begins with. -/
theorem current_expand (s : State) (st : Stmt) (rest : Prog) :
    (s.setTop (s.top.expand (st :: rest))).top.current = some st := by
  rw [State.top_setTop]
  rfl

/-- The first statement of a call, done without another effect. -/
theorem advance_expand (s : State) (st next : Stmt) (rest : Prog) :
    (s.setTop (s.top.expand (st :: next :: rest))).advance = s.entered (st :: next :: rest) 1 := by
  simp [State.advance, State.entered, Activity.next, Activity.jump, Activity.expand, unwind]

/-- A call that begins with a statement of its own runs that statement. -/
theorem runCall_cons (s : State) (st : Stmt) (rest : Prog) (h : ∀ j ds, st ≠ .call j ds) :
    Cpu.runCall s (st :: rest) = Cpu.runStmt (s.setTop (s.top.expand (st :: rest))) st := by
  have enter : State.enterCalls 2 (st :: rest) s = s.setTop (s.top.expand (st :: rest)) := by
    cases st <;> first | rfl | exact absurd rfl (h _ _)
  simp only [Cpu.runCall, enter, current_expand]

/-- A call that begins with an argument check. -/
theorem runCall_check (s : State) (c info : Expr) (code : FaultCode) (next : Stmt) (rest : Prog) (v : Int) (h : s.eval c = .ok v) :
    Cpu.outcome s (Cpu.runCall s (.brFault c code info :: next :: rest)) =
      if v = 0 then .next (s.entered (.brFault c code info :: next :: rest) 1)
      else match s.eval info with
        | .error f => .next (s.raise f)
        | .ok n => .next (s.raise ⟨code, .num n⟩) := by
  rw [runCall_cons s _ _ (by simp)]
  simp only [Cpu.runStmt, Cpu.runBrFault, eval_expand, h, advance_expand]
  split <;> rename_i hv
  · cases hi : s.eval info <;> simp_all [Cpu.outcome]
  · simp_all [Cpu.outcome]

/-- A `RD` by its transaction, when the bus gives a value. -/
theorem runStmt_rd (s t : State) (x : LocalName) (n : Size) (a : Expr) (w v : Word) (lane : Lane)
    (hc : s.top.current = some (.rd x n a)) (ha : s.evalWord a = .ok w) (hr : s.hostRead n w = (lane, .value v t)) :
    Cpu.runStmt s (.rd x n a) = .done (t.loaded x (Lane.take lane v)) := by
  simp only [Cpu.runStmt, Cpu.runRd, ha, Cpu.transact, hr, Cpu.finishRead, State.sink, hc, absorb_store]

/-- A `WR` by its transaction, when the register accepts it. -/
theorem runStmt_wr (s t : State) (n : Size) (a e : Expr) (w d : Word) (ha : s.evalWord a = .ok w) (he : s.evalWord e = .ok d)
    (hw : s.hostWrite n w (Size.trunc n d) = .ok t) : Cpu.runStmt s (.wr n a e) = .done t.advance := by
  simp only [Cpu.runStmt, Cpu.runWr, State.wrTransaction, ha, he, Cpu.transact, hw, Cpu.finishWrite]

end Sys2Proof.Machine
end

