-- ==== Sys2Proof/Laws/Memory.lean ====
section
/-! SUPPORT. The laws of memory: a read after a write, the other bytes, and the canonical form every operation keeps. -/
namespace Sys2Proof.Machine

/-! ### One byte -/

theorem Memory.find_write (m : Memory) (a e : Nat) (b : Byte) :
    (m.write a b).find e = if a = e then some b else m.find e := by
  induction m with
  | nil => simp [Memory.write, Memory.find]
  | cons c rest ih =>
    obtain ⟨k, v⟩ := c
    simp only [Memory.write]
    split
    · simp only [Memory.find]
    · split
      · rename_i h; subst h; simp only [Memory.find]; split <;> rfl
      · simp only [Memory.find, ih]
        by_cases hk : k = e
        · subst hk; simp [*]
        · simp [hk]

/-- A byte just written reads back. -/
@[simp] theorem Memory.find_write_same (m : Memory) (a : Nat) (b : Byte) : (m.write a b).find a = some b := by
  simp [Memory.find_write]

/-- A write leaves every other byte alone. -/
theorem Memory.find_write_other (m : Memory) {a e : Nat} (b : Byte) (h : a ≠ e) : (m.write a b).find e = m.find e := by
  simp [Memory.find_write, h]

theorem Memory.above_write {lo a : Nat} (m : Memory) (b : Byte) (hm : Memory.above lo m = true) (ha : lo < a) :
    Memory.above lo (m.write a b) = true := by
  cases m with
  | nil => simpa [Memory.write, Memory.above] using ha
  | cons c rest =>
    obtain ⟨k, v⟩ := c
    simp only [Memory.write]
    split
    · simpa [Memory.above] using ha
    · split
      · simpa [Memory.above] using ha
      · simpa [Memory.above] using hm

theorem Memory.above_mono {lo hi : Nat} (m : Memory) (hm : Memory.above hi m = true) (h : lo ≤ hi) :
    Memory.above lo m = true := by
  cases m with
  | nil => rfl
  | cons c rest => simp only [Memory.above, decide_eq_true_eq] at hm ⊢; omega

/-- A write keeps the canonical form. -/
theorem Memory.wf_write (m : Memory) (a : Nat) (b : Byte) (hm : m.wf = true) : (m.write a b).wf = true := by
  induction m with
  | nil => rfl
  | cons c rest ih =>
    obtain ⟨k, v⟩ := c
    simp only [Memory.wf, Bool.and_eq_true] at hm
    simp only [Memory.write]
    split
    · rename_i h
      simp only [Memory.wf, Bool.and_eq_true]
      exact ⟨by simpa [Memory.above] using h, hm⟩
    · split
      · rename_i h; subst h; simpa [Memory.wf] using hm
      · simp only [Memory.wf, Bool.and_eq_true]
        exact ⟨Memory.above_write rest b hm.1 (by omega), ih hm.2⟩

/-- A write inside RAM keeps every listed address in RAM. -/
theorem Memory.inRam_write (p : Params) (m : Memory) (a : Nat) (b : Byte) (hm : m.inRam p = true)
    (ha : p.ramBase ≤ a ∧ a < p.ramBase + p.ramSize) : (m.write a b).inRam p = true := by
  induction m with
  | nil => simpa [Memory.write, Memory.inRam] using ha
  | cons c rest ih =>
    obtain ⟨k, v⟩ := c
    have hc : (p.ramBase ≤ k ∧ k < p.ramBase + p.ramSize) ∧ Memory.inRam p rest = true := by
      simpa [Memory.inRam] using hm
    have ih := ih hc.2
    simp only [Memory.inRam] at ih ⊢
    simp only [Memory.write]
    split
    · have := hc.2; simp only [Memory.inRam] at this; simp [ha, hc.1, this]
    · split
      · have := hc.2; simp only [Memory.inRam] at this; simp [ha, this]
      · simp [hc.1, ih]

/-! ### Wider writes -/

theorem Memory.wf_writeN (n : Nat) : ∀ (m : Memory) (a v : Nat), m.wf = true → (m.writeN a v n).wf = true := by
  induction n with
  | zero => intro m a v h; exact h
  | succ n ih => intro m a v h; exact ih _ _ _ (Memory.wf_write m a _ h)

theorem Memory.inRam_writeN (p : Params) (n : Nat) : ∀ (m : Memory) (a v : Nat), m.inRam p = true →
    p.ramBase ≤ a → a + n ≤ p.ramBase + p.ramSize → (m.writeN a v n).inRam p = true := by
  induction n with
  | zero => intro m a v h _ _; exact h
  | succ n ih =>
    intro m a v h hlo hhi
    exact ih _ _ _ (Memory.inRam_write p m a _ h ⟨hlo, by omega⟩) (by omega) (by omega)

/-- The byte at an address after a write of n bytes: byte `e - a` of the value inside, the old byte outside. -/
theorem Memory.find_writeN (n : Nat) : ∀ (m : Memory) (a v e : Nat),
    (m.writeN a v n).find e =
      if a ≤ e ∧ e < a + n then some (BitVec.ofNat 8 (v / 256 ^ (e - a))) else m.find e := by
  induction n with
  | zero => intro m a v e; simp [Memory.writeN]
  | succ n ih =>
    intro m a v e
    rw [Memory.writeN, ih, Memory.find_write]
    by_cases h1 : a + 1 ≤ e ∧ e < a + 1 + n
    · have h2 : a ≤ e ∧ e < a + (n + 1) := by omega
      have h3 : e - a = (e - (a + 1)) + 1 := by omega
      rw [if_pos h1, if_pos h2, h3, Nat.pow_succ, Nat.mul_comm, Nat.div_div_eq_div_mul]
    · rw [if_neg h1]
      by_cases h4 : a = e
      · subst h4; simp
      · rw [if_neg h4, if_neg]; omega

/-- Bytes outside a write read as before (20_memory.md R205). -/
theorem State.byteAt_memWrite_outside (s : State) (n : Size) (a e : Nat) (v : Word) (h : e < a ∨ a + n.bytes ≤ e) :
    (s.memWrite n a v).byteAt e = s.byteAt e := by
  unfold State.byteAt
  rw [State.memWrite_ram, Memory.find_writeN, if_neg (by omega)]
  rfl

/-- Byte i of a write is bits 8i+7..8i of the value (20_memory.md R205). -/
theorem State.byteAt_memWrite_inside (s : State) (n : Size) (a i : Nat) (v : Word) (h : i < n.bytes) :
    (s.memWrite n a v).byteAt (a + i) = BitVec.ofNat 8 (v.toNat / 256 ^ i) := by
  unfold State.byteAt
  rw [State.memWrite_ram, Memory.find_writeN, if_pos (by omega)]
  simp

/-- A memory write keeps the canonical form. -/
theorem State.memWrite_wf (s : State) (n : Size) (a : Nat) (v : Word) (h : s.ram.wf = true) :
    (s.memWrite n a v).ram.wf = true := Memory.wf_writeN _ _ _ _ h

/-- A memory write inside RAM keeps the listed addresses inside RAM. -/
theorem State.memWrite_inRam (s : State) (n : Size) (a : Nat) (v : Word) (h : s.ram.inRam s.params = true)
    (hlo : s.params.ramBase ≤ a) (hhi : a + n.bytes ≤ s.params.ramBase + s.params.ramSize) :
    (s.memWrite n a v).ram.inRam s.params = true := Memory.inRam_writeN _ _ _ _ _ h hlo hhi

/-- Memory at reset has the canonical form. -/
theorem State.reset_ram_wf : State.reset.ram.wf = true := rfl

theorem Nat.mod_256_succ (v k : Nat) : v % 256 + 256 * (v / 256 % k) = v % (256 * k) := (Nat.mod_mul).symm

theorem State.memNat_eq (s : State) (n : Nat) : ∀ (a v : Nat),
    (∀ i, i < n → s.byteAt (a + i) = BitVec.ofNat 8 (v / 256 ^ i)) → s.memNat a n = v % 256 ^ n := by
  induction n with
  | zero => intro a v _; simp [State.memNat, Nat.mod_one]
  | succ n ih =>
    intro a v h
    have h0 := h 0 (by omega)
    have hs := ih (a + 1) (v / 256) (fun i hi => by
      have := h (i + 1) (by omega)
      rw [Nat.pow_succ, Nat.mul_comm, ← Nat.div_div_eq_div_mul] at this
      rw [← this]; congr 1; omega)
    rw [State.memNat, hs]
    simp only [Nat.add_zero, Nat.pow_zero, Nat.div_one] at h0
    have e : 256 ^ (n + 1) = 256 * 256 ^ n := by rw [Nat.pow_succ, Nat.mul_comm]
    rw [h0, BitVec.toNat_ofNat, e]
    exact Nat.mod_256_succ v (256 ^ n)

/-- A read of the bytes just written gives the value modulo 2^(8n) (20_memory.md R205). -/
theorem State.memRead_memWrite (s : State) (n : Size) (a : Nat) (v : Word) :
    (s.memWrite n a v).memRead n a = Size.trunc n v := by
  unfold State.memRead
  rw [State.memNat_eq _ _ a v.toNat (fun i hi => State.byteAt_memWrite_inside s n a i v hi)]
  apply BitVec.eq_of_toNat_eq
  cases n <;> (simp [Size.bytes, Size.trunc, BitVec.toNat_ofNat]; try omega)

end Sys2Proof.Machine
end

