-- ==== Sys2Proof/Laws/Exec.lean ====
section
/-! SUPPORT. What `exec` is, said once: on a decoded transaction it is that transaction on the bus, on a driver operation it is the
call of its statements. -/
namespace Sys2Proof.Machine

/-- Executing a register's read row is the host's read of that register. -/
theorem exec_rdInstr (r : Reg) (lane : Lane) (s : State) : exec (r.rdInstr lane) s = Cpu.runRead s lane (s.regRead r) := by
  cases r with
  | pwm r => cases r <;> rfl
  | adc u r => cases u <;> cases r <;> rfl
  | dma c r => cases r <;> rfl
  | dmamux c => rfl
  | cordic r => cases r <;> rfl
  | xform r => cases r <;> rfl
  | intc r => cases r <;> rfl

/-- Executing the write row of `XFORM.CTRL` that a word selects is the write of that word. -/
theorem exec_wrInstr_ctrl (v : Word) (i : Instr) (s : State) (h : Reg.wrInstr (.xform .ctrl) v = .ok i) :
    exec i s = Cpu.runWrite s (s.regWrite (.xform .ctrl) v) := by
  simp only [Reg.wrInstr] at h
  have hf : Word.field v 0 3 = v.extractLsb' 0 3 := rfl
  split at h <;> rename_i hv <;>
    first
    | (cases h; simp [exec, State.regWrite, State.xformWrite, Xform.write, Xform.writeCtrl, hf, hv, State.runXform,
        execXformCtrlWrNop, execXformCtrlWrClarke, execXformCtrlWrPark, execXformCtrlWrIpark, execXformCtrlWrSvpwm,
        execXformCtrlWrClarkePark])
    | cases h

/-- Executing a register's write row is the host's write of that register. -/
theorem exec_wrInstr (r : Reg) (v : Word) (i : Instr) (s : State) (h : r.wrInstr v = .ok i) :
    exec i s = Cpu.runWrite s (s.regWrite r v) := by
  cases r with
  | pwm r => cases r <;> cases h <;> rfl
  | adc u r => cases u <;> cases r <;> cases h <;> rfl
  | dma c r => cases r <;> cases h <;> rfl
  | dmamux c => cases h; rfl
  | cordic r => cases r <;> cases h <;> rfl
  | xform r =>
    cases r with
    | ctrl => exact exec_wrInstr_ctrl v i s h
    | _ => cases h; rfl
  | intc r => cases r <;> cases h <;> rfl

/-- Executing a decoded transaction is performing it on the bus (40_bus.md R410, R411). -/
theorem exec_decode (t : Transaction) (i : Instr) (s : State) (h : decode s.params t = .ok i) :
    exec i s = Cpu.outcome s (Cpu.transact s t) := by
  cases t with
  | rd n a =>
    simp only [decode] at h
    simp only [Cpu.transact, State.hostRead]
    cases hl : locate s.params n a with
    | error e => simp [hl] at h
    | ok tg =>
      simp only [hl] at h
      cases tg with
      | ram off => cases n <;> cases h <;> rfl
      | trim off =>
        cases n with
        | b1 => cases h; rfl
        | b2 => cases h; rfl
        | b4 => cases h; rfl
      | reg r lane => cases h; exact exec_rdInstr r lane s
  | wr n a d =>
    simp only [decode] at h
    simp only [Cpu.transact, State.hostWrite]
    cases hl : locate s.params n a with
    | error e => simp [hl] at h
    | ok tg =>
      simp only [hl] at h
      cases tg with
      | ram off => cases n <;> cases h <;> rfl
      | trim off => simp at h
      | reg r lane =>
        cases n with
        | b1 => simp at h
        | b2 => simp at h
        | b4 => exact exec_wrInstr r d i s (by simpa using h)

/-- A rejected transaction is the fault of its bus check. -/
theorem transact_reject (t : Transaction) (e : Reject) (s : State) (h : decode s.params t = .error e)
    (hs : ∀ f, s.sink ≠ .error f) : Cpu.transact s t = .fault (rejectFault e) := by
  cases t with
  | rd n a =>
    simp only [decode] at h
    simp only [Cpu.transact, State.hostRead, Cpu.finishRead]
    cases hl : locate s.params n a with
    | error e' =>
      simp only [hl] at h ⊢
      cases h
      cases hk : s.sink with
      | error f => exact absurd hk (hs f)
      | ok k => rfl
    | ok tg => cases tg <;> simp [hl] at h
  | wr n a d =>
    simp only [decode] at h
    simp only [Cpu.transact, State.hostWrite]
    cases hl : locate s.params n a with
    | error e' => simp only [hl] at h ⊢; cases h; rfl
    | ok tg =>
      simp only [hl] at h ⊢
      cases tg with
      | ram off => simp at h
      | trim off => cases h; rfl
      | reg r lane =>
        cases n with
        | b1 => simp at h; subst h; rfl
        | b2 => simp at h; subst h; rfl
        | b4 =>
          simp only [if_pos] at h
          cases r with
          | pwm r => cases r <;> cases h
          | adc u r => cases u <;> cases r <;> cases h
          | dma c r => cases r <;> cases h
          | dmamux c => cases h
          | cordic r => cases r <;> cases h
          | xform r =>
            cases r with
            | ctrl =>
              have hf : (Word.field d 0 3) = d.extractLsb' 0 3 := rfl
              simp only [State.regWrite, State.xformWrite, Xform.write, Xform.writeCtrl, hf]
              simp only [Reg.wrInstr] at h
              generalize d.extractLsb' 0 3 = o at h ⊢
              have ho : o = 0#3 ∨ o = 1#3 ∨ o = 2#3 ∨ o = 3#3 ∨ o = 4#3 ∨ o = 5#3 ∨ o = 6#3 ∨ o = 7#3 := by
                clear h; revert o; decide
              rcases ho with rfl | rfl | rfl | rfl | rfl | rfl | rfl | rfl <;> cases h <;> rfl
            | _ => cases h
          | intc r => cases r <;> cases h

/-- Executing a driver operation is the call of its statements. -/
theorem exec_operation (i : Instr) (s : State) (h : i.isOperation = true) :
    exec i s = Cpu.outcome s (Cpu.runCall s (expansion s.params i s.callDests)) := by
  cases i <;> first | rfl | (simp [Instr.isOperation] at h)

end Sys2Proof.Machine
end

