-- ==== Sys2Proof/Laws/Step.lean ====
section
/-! SUPPORT. What a step can do, said once: a property of states that the named operations keep is kept by every step. A proof of an
invariant checks the fields of `StepKeeps` and cites `StepKeeps.step`. -/
namespace Sys2Proof.Machine

/-- A property that each operation a step is made of keeps. -/
structure StepKeeps (P : State → Prop) : Prop where
  /-- The top activity moves or takes a local; its level and line stay. -/
  top : ∀ s a, a.lvl = s.top.lvl → a.line = s.top.line → P s → P (s.setTop a)
  /-- A handler returns. -/
  ret : ∀ s t, s.leaveHandler = .ok t → P s → P t
  /-- A transaction's result is recorded. -/
  data : ∀ s w, P s → P { s with busData := w }
  /-- The background halts. -/
  halt : ∀ s, s.handlers = [] → P s → P { s with halted := true }
  /-- A fault is recorded. -/
  raise : ∀ s f, P s → P (s.raise f)
  /-- The schedule advances. -/
  sched : ∀ s, P s → P s.scheduled
  /-- A register is read, with its side effect. -/
  read : ∀ s r v t, s.regRead r = .value v t → P s → P t
  /-- A register is written. -/
  write : ∀ s r v t, s.regWrite r v = .ok t → P s → P t
  /-- RAM is written. -/
  mem : ∀ s n a v, s.params.ramBase ≤ a → a + n.bytes ≤ s.params.ramBase + s.params.ramSize → P s → P (s.memWrite n a v)
  /-- A step of an agent other than the DMA beat. -/
  agent : ∀ s m t, m ≠ .beat → s.agentStep m = some t → P s → P t
  /-- A transfer error. -/
  error : ∀ s c, P s → P (s.dmaError c)
  /-- The end of a beat of an enabled channel, whose element size and addresses are those it began with. -/
  beat : ∀ s c, s.dma[c].en = true →
    P s → P (s.setDma c (s.dma[c].completeBeat (elementSize s.dma[c].psize).bytes s.dma[c].pptr s.dma[c].mptr))

/-! ### Where a decoded RAM access lies -/

theorem locate_ram (s : State) (n : Size) (a : Word) (off : BitVec 32) (h : locate s.params n a = .ok (.ram off)) :
    s.params.ramBase ≤ s.ramAddr off ∧ s.ramAddr off + n.bytes ≤ s.params.ramBase + s.params.ramSize ∧
      s.ramAddr off = a.toNat := by
  simp only [locate] at h
  split at h
  · rename_i hr
    split at h
    · have ho : BitVec.ofNat 32 (a.toNat - s.params.ramBase) = off := by
        injection h with h; injection h
      simp only [insideRegion, Bool.and_eq_true, decide_eq_true_eq] at hr
      have : s.ramAddr off = a.toNat := by
        rw [← ho, State.ramAddr, BitVec.toNat_ofNat, Nat.mod_eq_of_lt (by omega)]; omega
      omega
    · cases h
  · split at h
    · split at h <;> cases h
    · split at h
      · cases h
      · split at h
        · cases h
        · split at h <;> cases h

/-! ### A register read or write and an enabled DMA channel -/

/-- Reading a register leaves the DMA channels alone. -/
theorem regRead_dma (s t : State) (r : Reg) (v : Word) (h : s.regRead r = .value v t) : t.dma = s.dma := by
  cases r with
  | pwm r => cases h; rfl
  | adc u r => cases r <;> cases h <;> rfl
  | dma c r => cases h; rfl
  | dmamux c => cases h; rfl
  | cordic r =>
    cases r with
    | csr => cases h; rfl
    | wdata => cases h; rfl
    | rdata =>
      simp only [State.regRead, State.readRdata] at h
      split at h
      · cases h
      · split at h <;> cases h; rfl
  | xform r => cases h; rfl
  | intc r => cases h; rfl

/-- A write of an enabled channel's own registers keeps its enable, configuration and addresses. -/
theorem DmaChannel.write_enabled (d e : DmaChannel) (c : Fin 16) (r : DmaReg) (v : Word) (hd : d.en = true)
    (h : d.write c r v = .ok e) : e.en = true ∧ e.cfg = d.cfg ∧ e.pptr = d.pptr ∧ e.mptr = d.mptr := by
  cases r <;>
    simp only [DmaChannel.write, DmaChannel.writeCcr, DmaChannel.writeCndtr, DmaChannel.writeCpar, DmaChannel.writeCmar,
      DmaChannel.active, hd, Bool.true_or, if_true] at h
  case ccr => split at h <;> cases h; exact ⟨rfl, rfl, rfl, rfl⟩
  all_goals first | (cases h; exact ⟨hd, rfl, rfl, rfl⟩) | cases h

/-- A register write keeps the enable, configuration and addresses of every enabled DMA channel. -/
theorem regWrite_dma (s t : State) (r : Reg) (v : Word) (c : Fin 16) (hc : s.dma[c].en = true)
    (h : s.regWrite r v = .ok t) :
    t.dma[c].en = true ∧ t.dma[c].cfg = s.dma[c].cfg ∧ t.dma[c].pptr = s.dma[c].pptr ∧ t.dma[c].mptr = s.dma[c].mptr := by
  have keep : t.dma = s.dma → t.dma[c].en = true ∧ t.dma[c].cfg = s.dma[c].cfg ∧ t.dma[c].pptr = s.dma[c].pptr ∧
      t.dma[c].mptr = s.dma[c].mptr := fun e => by rw [e]; exact ⟨hc, rfl, rfl, rfl⟩
  cases r with
  | pwm r =>
    simp only [State.regWrite, State.pwmWrite] at h
    split at h <;> cases h; exact keep rfl
  | adc u r =>
    cases r <;> simp only [State.regWrite, State.adcWrite, State.adcWriteCr] at h <;> split at h <;> cases h <;> exact keep rfl
  | dma b r =>
    simp only [State.regWrite, State.dmaWrite] at h
    split at h
    · cases h
    · rename_i d hd
      cases h
      by_cases hb : b = c
      · subst hb
        have := DmaChannel.write_enabled _ _ _ _ _ hc hd
        simp only [State.setDma_get, if_true]
        exact this
      · simp only [State.setDma_get, if_neg hb, hc, and_self]
  | dmamux b =>
    simp only [State.regWrite, State.writeRouter] at h
    split at h
    · cases h
    · split at h <;> cases h; exact keep rfl
  | cordic r =>
    simp only [State.regWrite, State.cordicWrite] at h
    split at h <;> cases h; exact keep rfl
  | xform r =>
    simp only [State.regWrite, State.xformWrite] at h
    split at h <;> cases h; exact keep rfl
  | intc r =>
    cases r <;> simp only [State.regWrite, State.intcWrite, State.writeIntcIer, State.writeIntcEoi] at h
    case ier => split at h <;> cases h; exact keep rfl
    case eoi => split at h <;> cases h; exact keep rfl
    all_goals (cases h; exact keep rfl)

/-! ### The kept property through each layer of a step -/

theorem Activity.jump_lvl (a : Activity) (l : Nat) : (a.jump l).lvl = a.lvl := rfl
theorem Activity.jump_line (a : Activity) (l : Nat) : (a.jump l).line = a.line := rfl

namespace StepKeeps

variable {P : State → Prop} (K : StepKeeps P)
include K

theorem advance (s : State) (h : P s) : P s.advance := K.top s _ rfl rfl h

theorem absorb (s t : State) (k : Sink) (r : Word) (h : s.absorb k r = .done t) (hs : P s) : P t := by
  have hd := K.data s r hs
  simp only [State.absorb] at h
  cases k with
  | store x =>
    cases h
    exact K.advance _ (K.top _ _ rfl rfl hd)
  | drop => cases h; exact K.advance _ hd
  | poll a m v =>
    simp only at h
    split at h
    · cases h; exact K.advance _ hd
    · split at h
      · cases h
      · cases h
        exact K.top _ _ rfl rfl hd

theorem finishRead (s t : State) (lane : Lane) (r : ReadResult) (hr : ∀ v u, r = .value v u → P u)
    (h : Cpu.finishRead s lane r = .done t) : P t := by
  simp only [Cpu.finishRead] at h
  split at h
  · cases h
  · split at h
    · cases h
    · cases h
    · exact K.absorb _ _ _ _ h (hr _ _ rfl)

theorem hostRead (s t : State) (n : Size) (a : Word) (v : Word) (h : (s.hostRead n a).2 = .value v t) (hs : P s) : P t := by
  simp only [State.hostRead] at h
  split at h
  · cases h
  · cases h; exact hs
  · cases h; exact hs
  · exact K.read _ _ _ _ h hs

theorem hostWrite (s t : State) (n : Size) (a v : Word) (h : s.hostWrite n a v = .ok t) (hs : P s) : P t := by
  simp only [State.hostWrite] at h
  split at h
  · cases h
  · rename_i off hl
    cases h
    have := locate_ram _ _ _ _ hl
    exact K.mem _ _ _ _ this.1 this.2.1 hs
  · cases h
  · cases n with
    | b4 => exact K.write _ _ _ _ h hs
    | b2 => cases h
    | b1 => cases h

theorem transact (s t : State) (x : Transaction) (h : Cpu.transact s x = .done t) (hs : P s) : P t := by
  cases x with
  | rd n a => exact K.finishRead s t _ _ (fun v u hv => K.hostRead _ _ _ _ _ hv hs) h
  | wr n a d =>
    simp only [Cpu.transact, Cpu.finishWrite] at h
    split at h
    · cases h
    · rename_i u hu
      cases h
      exact K.advance _ (K.hostWrite _ _ _ _ _ hu hs)

theorem runStmt (s t : State) (st : Stmt) (h : Cpu.runStmt s st = .done t) (hs : P s) : P t := by
  have hj : ∀ l u, Cpu.runJmp s l = .done u → P u := fun l u hu => by cases hu; exact K.top _ _ rfl rfl hs
  have hrd : ∀ n a, Cpu.runRd s n a = .done t → P t := fun n a h => by
    simp only [Cpu.runRd] at h
    split at h
    · cases h
    · exact K.transact _ _ _ h hs
  cases st with
  | rd x n a => exact hrd n a h
  | wr n a e =>
    simp only [Cpu.runStmt, Cpu.runWr] at h
    split at h
    · cases h
    · exact K.transact _ _ _ h hs
  | poll a m v => exact hrd .b4 a h
  | wait n =>
    simp only [Cpu.runStmt, Cpu.runWait] at h
    split at h <;> cases h
    · exact K.top _ _ rfl rfl hs
    · exact K.advance _ hs
  | set x e =>
    simp only [Cpu.runStmt, Cpu.runSet] at h
    split at h
    · cases h
    · cases h; exact K.advance _ (K.top _ _ rfl rfl hs)
  | br c l =>
    simp only [Cpu.runStmt, Cpu.runBr] at h
    split at h
    · cases h
    · split at h
      · exact hj _ _ h
      · cases h; exact K.advance _ hs
  | brFault c code info =>
    simp only [Cpu.runStmt, Cpu.runBrFault] at h
    split at h
    · cases h
    · split at h
      · split at h <;> cases h
      · cases h; exact K.advance _ hs
  | jmp l => exact hj _ _ h
  | call i d => cases h
  | ret =>
    simp only [Cpu.runStmt, Cpu.runRet] at h
    split at h
    · cases h
    · rename_i u hu
      cases h
      exact K.ret _ _ hu hs
  | halt =>
    simp only [Cpu.runStmt, Cpu.runHalt] at h
    split at h <;> cases h
    rename_i hh
    exact K.halt _ hh hs

theorem enterCalls (depth : Nat) : ∀ (body : Prog) (s : State), P s → P (State.enterCalls depth body s) := by
  induction depth with
  | zero => intro body s hs; exact K.top _ _ rfl rfl hs
  | succ d ih =>
    intro body s hs
    simp only [State.enterCalls]
    split
    · exact ih _ _ (K.top _ _ rfl rfl hs)
    · exact K.top _ _ rfl rfl hs

theorem runCall (s t : State) (body : Prog) (h : Cpu.runCall s body = .done t) (hs : P s) : P t := by
  simp only [Cpu.runCall] at h
  split at h
  · exact K.runStmt _ _ _ h (K.enterCalls 2 _ _ hs)
  · cases h; exact K.advance _ hs

theorem outcome (s t : State) (r : StmtResult) (hr : ∀ u, r = .done u → P u) (hs : P s)
    (h : Cpu.outcome s r = .next t) : P t := by
  cases r with
  | done u => cases h; exact hr _ rfl
  | hold => cases h; exact hs
  | fault f => cases h; exact K.raise _ _ hs

theorem perform (s t : State) (x : Transaction) (h : Cpu.perform s x = .next t) (hs : P s) : P t := by
  simp only [Cpu.perform] at h
  split at h
  · rename_i i hi
    rw [exec_decode _ _ _ hi] at h
    exact K.outcome _ _ _ (fun u hu => K.transact _ _ _ hu hs) hs h
  · cases h; exact K.raise _ _ hs

theorem performRead (s t : State) (n : Size) (a : Expr) (h : Cpu.performRead s n a = .next t) (hs : P s) : P t := by
  simp only [Cpu.performRead] at h
  split at h
  · cases h; exact K.raise _ _ hs
  · split at h
    · cases h; exact K.raise _ _ hs
    · exact K.perform _ _ _ h hs

theorem hostStatement (s t : State) (h : Cpu.hostStatement s = .next t) (hs : P s) : P t := by
  have hst : ∀ st, Cpu.outcome s (Cpu.runStmt s st) = .next t → P t :=
    fun st h => K.outcome _ _ _ (fun u hu => K.runStmt _ _ _ hu hs) hs h
  simp only [Cpu.hostStatement] at h
  split at h
  · cases h; exact hs
  · split at h
    · exact hst .halt h
    · exact K.performRead _ _ _ _ h hs
    · exact K.performRead _ _ _ _ h hs
    · simp only [Cpu.performWrite] at h
      split at h
      · cases h; exact K.raise _ _ hs
      · exact K.perform _ _ _ h hs
    · split at h
      · rename_i i d _ hi
        rw [exec_operation i s hi] at h
        exact K.outcome _ _ _ (fun u hu => K.runCall _ _ _ hu hs) hs h
      · cases h; exact K.advance _ hs
    · rename_i n _; exact hst (.wait n) h
    · rename_i x e _; exact hst (.set x e) h
    · rename_i c l _; exact hst (.br c l) h
    · rename_i c code info _; exact hst (.brFault c code info) h
    · rename_i l _; exact hst (.jmp l) h
    · exact hst .ret h
    · exact hst .halt h

theorem moveElement (s t : State) (c : Fin 16) (src dst : Word) (hc : s.dma[c].en = true)
    (h : s.moveElement c (elementSize s.dma[c].psize) src dst s.dma[c].pptr s.dma[c].mptr = some t) (hs : P s) : P t := by
  simp only [State.moveElement, State.dmaBusRead] at h
  split at h
  · cases h
  · cases h; exact K.error _ _ hs
  · rename_i v u hu
    have hu' : ∃ w, (s.hostRead (elementSize s.dma[c].psize) src).2 = .value w u := by
      split at hu <;> cases hu
      exact ⟨_, by assumption⟩
    obtain ⟨w, hw⟩ := hu'
    have hPu := K.hostRead _ _ _ _ _ hw hs
    have hdma : u.dma = s.dma := by
      simp only [State.hostRead] at hw
      split at hw
      · cases hw
      · cases hw; rfl
      · cases hw; rfl
      · exact regRead_dma _ _ _ _ hw
    split at h
    · cases h; exact K.error _ _ hPu
    · cases h; exact K.raise _ _ hs
    · rename_i x hx
      cases h
      have huc : u.dma[c].en = true := by rw [hdma]; exact hc
      have key : P x ∧ x.dma[c].en = true ∧ x.dma[c].cfg = u.dma[c].cfg ∧ x.dma[c].pptr = u.dma[c].pptr ∧
          x.dma[c].mptr = u.dma[c].mptr := by
        simp only [State.dmaBusWrite] at hx
        split at hx
        · cases hx
        · rename_i off hl
          cases hx
          have := locate_ram _ _ _ _ hl
          exact ⟨K.mem _ _ _ _ this.1 this.2.1 hPu, huc, rfl, rfl, rfl⟩
        · cases hx
        · split at hx
          · split at hx <;> cases hx
            rename_i hw
            exact ⟨K.write _ _ _ _ hw hPu, regWrite_dma _ _ _ _ _ huc hw⟩
          · cases hx
          · cases hx
      obtain ⟨hPx, h1, h2, h3, h4⟩ := key
      have := K.beat x c h1 hPx
      have hps : x.dma[c].psize = s.dma[c].psize := by simp only [DmaChannel.psize, h2, hdma]
      rw [hps, h3, h4, hdma] at this
      exact this

theorem beatOf (s t : State) (c : Fin 16) (hc : s.dma[c].en = true) (h : s.beatOf c = some t) (hs : P s) : P t := by
  simp only [State.beatOf] at h
  split at h
  · cases h; exact K.error _ _ hs
  · split at h
    · exact K.moveElement _ _ _ _ _ hc h hs
    · exact K.moveElement _ _ _ _ _ hc h hs

theorem agentStep (s t : State) (m : Move) (h : s.agentStep m = some t) (hs : P s) : P t := by
  by_cases hm : m = .beat
  · subst hm
    simp only [State.agentStep, State.beatStep] at h
    split at h
    · cases h
    · rename_i c hc
      have := List.find?_some hc
      simp only [State.dmaLive, Bool.and_eq_true] at this
      exact K.beatOf _ _ _ this.1.1 h hs
  · exact K.agent _ _ _ hm h hs

/-- A property that every operation keeps is kept by every step. -/
theorem step (s t : State) (hs : P s) (h : step s = .next t) : P t := by
  have key : ∀ m, P (s.moveOrStay m) := fun m => by
    simp only [State.moveOrStay]
    cases ha : s.agentStep m with
    | none => exact hs
    | some u => exact K.agentStep _ _ _ ha hs
  simp only [Machine.step] at h
  split at h
  · cases h
  · split at h
    · cases hh : Cpu.hostStatement s with
      | next u => rw [hh] at h; cases h; exact K.sched _ (K.hostStatement _ _ hh hs)
      | fault r => rw [hh] at h; cases h
      | refused r => rw [hh] at h; cases h
    · cases h
      exact K.sched _ (key _)

end StepKeeps

end Sys2Proof.Machine
end

