-- ==== Sys2Proof/Laws/Frames.lean ====
section
/-! SUPPORT. What a register read, a register write, a return and an agent's step leave alone. -/
namespace Sys2Proof.Machine

/-- What a return from a handler does (60_exceptions.md R1033). -/
theorem leaveHandler_ok (s t : State) (h : s.leaveHandler = .ok t) :
    ∃ a rest, s.handlers = a :: rest ∧ t = { s with handlers := rest } ∧
      ∀ k, a.line = some k → s.intc.stack.head? ≠ some k := by
  simp only [State.leaveHandler] at h
  split at h
  · cases h
  · rename_i a rest hh
    split at h
    · rename_i k hk
      split at h
      · cases h
      · rename_i hne
        cases h
        exact ⟨a, rest, hh, rfl, fun j hj => by rw [hk] at hj; cases hj; exact hne⟩
    · rename_i hk
      cases h
      exact ⟨a, rest, hh, rfl, fun j hj => by rw [hk] at hj; cases hj⟩

/-- The two side effects a register read can have: `EOC` of one unit cleared, or a CORDIC result taken (42_adc.md R621,
44_cordic.md R814). -/
theorem regRead_value (s t : State) (r : Reg) (v : Word) (h : s.regRead r = .value v t) :
    t = s ∨ (∃ u, r = .adc u .dr ∧ t = s.setAdc u (s.adc u).clearEoc) ∨
      (r = .cordic .rdata ∧ s.cordic.busy = false ∧ s.cordic.left ≠ 0 ∧ t = { s with cordic := s.cordic.pop }) := by
  cases r with
  | adc u r => cases r <;> cases h <;> first | exact .inl rfl | exact .inr (.inl ⟨u, rfl, rfl⟩)
  | cordic r =>
    cases r with
    | csr => cases h; exact .inl rfl
    | wdata => cases h; exact .inl rfl
    | rdata =>
      simp only [State.regRead, State.readRdata] at h
      split at h
      · cases h
      · split at h
        · cases h
        · rename_i hb hl
          cases h
          exact .inr (.inr ⟨rfl, by simpa using hb, hl, rfl⟩)
  | _ => cases h; exact .inl rfl

/-- What an accepted register write changes: one unit's registers, by that unit's write rule. -/
theorem regWrite_ok (s t : State) (r : Reg) (v : Word) (h : s.regWrite r v = .ok t) :
    (∃ q p, r = .pwm q ∧ s.pwm.write q v = .ok p ∧ t = { s with pwm := p }) ∨
    (∃ u, r = .adc u .cr ∧ (s.adc u).crRefused v = false ∧
      t = { s.setAdc u ((s.adc u).crEffect v) with adcPaired := s.adcPaired && !(s.adc u).crStarts v }) ∨
    (∃ u q a, r = .adc u q ∧ q ≠ .cr ∧ (s.adc u).write s.params.chMax u q v = .ok a ∧ t = s.setAdc u a) ∨
    (∃ c q d, r = .dma c q ∧ s.dma[c].write c q v = .ok d ∧ t = s.setDma c d) ∨
    (∃ c, r = .dmamux c ∧ (Word.field v 0 7).toNat < 3 ∧ s.dma[c].active = false ∧
      t = { s with dmamux := s.dmamux.set c (Word.field v 0 7) }) ∨
    (∃ q k, r = .cordic q ∧ s.cordic.write q v = .ok k ∧ t = { s with cordic := k }) ∨
    (∃ q x, r = .xform q ∧ s.xform.write q v = .ok x ∧ t = { s with xform := x }) ∨
    (∃ q, r = .intc q ∧ s.intcWrite q v = .ok t) := by
  cases r with
  | pwm q =>
    simp only [State.regWrite, State.pwmWrite] at h
    split at h <;> cases h
    exact .inl ⟨q, _, rfl, by assumption, rfl⟩
  | adc u q =>
    cases q
    case cr =>
      simp only [State.regWrite, State.adcWriteCr] at h
      split at h <;> cases h
      rename_i hn
      exact .inr (.inl ⟨u, rfl, by simpa using hn, rfl⟩)
    all_goals
      simp only [State.regWrite, State.adcWrite] at h
      split at h <;> cases h
      exact .inr (.inr (.inl ⟨u, _, _, rfl, by decide, by assumption, rfl⟩))
  | dma c q =>
    simp only [State.regWrite, State.dmaWrite] at h
    split at h <;> cases h
    exact .inr (.inr (.inr (.inl ⟨c, q, _, rfl, by assumption, rfl⟩)))
  | dmamux c =>
    simp only [State.regWrite, State.writeRouter] at h
    split at h
    · cases h
    · split at h <;> cases h
      rename_i h1 h2
      exact .inr (.inr (.inr (.inr (.inl ⟨c, rfl, by omega, by simpa using h2, rfl⟩))))
  | cordic q =>
    simp only [State.regWrite, State.cordicWrite] at h
    split at h <;> cases h
    exact .inr (.inr (.inr (.inr (.inr (.inl ⟨q, _, rfl, by assumption, rfl⟩)))))
  | xform q =>
    simp only [State.regWrite, State.xformWrite] at h
    split at h <;> cases h
    exact .inr (.inr (.inr (.inr (.inr (.inr (.inl ⟨q, _, rfl, by assumption, rfl⟩))))))
  | intc q => exact .inr (.inr (.inr (.inr (.inr (.inr (.inr ⟨q, rfl, h⟩))))))

/-- What an accepted dispatcher write changes (60_exceptions.md R1011, R1012, R1032). -/
theorem intcWrite_ok (s t : State) (q : IntcReg) (v : Word) (h : s.intcWrite q v = .ok t) :
    t = s ∨ (q = .ctrl ∧ t = { s with intc := { s.intc with gen := Word.bit v 0 } }) ∨
    (q = .ier ∧ s.missingHandler v = none ∧ t = { s with intc := { s.intc with ier := Word.field v 0 17 } }) ∨
    (q = .eoi ∧ s.eoiValid = true ∧ t = { s with intc := { s.intc with stack := s.intc.stack.tail } }) := by
  cases q <;> simp only [State.intcWrite, State.writeIntcIer, State.writeIntcEoi] at h
  case ctrl => cases h; exact .inr (.inl ⟨rfl, rfl⟩)
  case ier => split at h <;> cases h; exact .inr (.inr (.inl ⟨rfl, by assumption, rfl⟩))
  case eoi => split at h <;> cases h; exact .inr (.inr (.inr ⟨rfl, by assumption, rfl⟩))
  all_goals (cases h; exact .inl rfl)

/-- The host's part of the state, memory and the launch inputs are the same. -/
structure SameHost (s t : State) : Prop where
  ram : t.ram = s.ram
  trim : t.trim = s.trim
  fault : t.fault = s.fault
  bg : t.bg = s.bg
  handlers : t.handlers = s.handlers
  halted : t.halted = s.halted
  vec : t.vec = s.vec
  params : t.params = s.params
  busData : t.busData = s.busData
  turn : t.turn = s.turn
  stepNo : t.stepNo = s.stepNo

theorem SameHost.refl (s : State) : SameHost s s := ⟨rfl, rfl, rfl, rfl, rfl, rfl, rfl, rfl, rfl, rfl, rfl⟩

/-- A register read leaves the host's part alone. -/
theorem regRead_host (s t : State) (r : Reg) (v : Word) (h : s.regRead r = .value v t) : SameHost s t := by
  rcases regRead_value s t r v h with rfl | ⟨u, _, rfl⟩ | ⟨_, _, _, rfl⟩ <;> exact ⟨rfl, rfl, rfl, rfl, rfl, rfl, rfl, rfl, rfl, rfl, rfl⟩

/-- A register write leaves the host's part alone. -/
theorem regWrite_host (s t : State) (r : Reg) (v : Word) (h : s.regWrite r v = .ok t) : SameHost s t := by
  rcases regWrite_ok s t r v h with ⟨_, _, _, _, rfl⟩ | ⟨_, _, _, rfl⟩ | ⟨_, _, _, _, _, _, rfl⟩ | ⟨_, _, _, _, _, rfl⟩ | ⟨_, _, _, _, rfl⟩ |
    ⟨_, _, _, _, rfl⟩ | ⟨_, _, _, _, rfl⟩ | ⟨q, _, hq⟩
  case inr.inr.inr.inr.inr.inr.inr =>
    rcases intcWrite_ok s t q v hq with rfl | ⟨_, rfl⟩ | ⟨_, _, rfl⟩ | ⟨_, _, rfl⟩ <;>
      exact ⟨rfl, rfl, rfl, rfl, rfl, rfl, rfl, rfl, rfl, rfl, rfl⟩
  all_goals exact ⟨rfl, rfl, rfl, rfl, rfl, rfl, rfl, rfl, rfl, rfl, rfl⟩

/-- What the step of an agent other than the beat does, by the move. -/
theorem agentStep_some (s t : State) (m : Move) (hm : m ≠ .beat) (h : s.agentStep m = some t) :
    (m = .entry ∧ ∃ k, s.entryLine = some k ∧ t = s.enterLine k) ∨
    (m = .tick ∧ t = s.tick) ∨
    (∃ u, m = .regulator u ∧ (s.adc u).vreg = .starting ∧ t = s.setAdc u { s.adc u with vreg := .ready }) ∨
    (∃ u, m = .calibrated u ∧ (s.adc u).cal = .running ∧
      t = s.setAdc u { s.adc u with calfact := Config.freeCal s.stepNo u, cal := .idle, adcal := false }) ∨
    (∃ u, m = .enabled u ∧ (s.adc u).en = .enabling ∧
      t = s.setAdc u { s.adc u with en := .ready, isr := { (s.adc u).isr with adrdy := true } }) ∨
    (∃ u, m = .regular u ∧ (s.adc u).regularEnabled = true ∧
      t = s.setAdc u ((s.adc u).convertRegular (s.draw u))) ∨
    (∃ u, m = .injected u ∧ (s.adc u).jact = true ∧ s.lockstep = false ∧
      t = s.setAdc u ((s.adc u).convertInjected (s.draw u))) ∨
    (m = .pair ∧ s.lockstep = true ∧
      t = { s with
        adc1 := s.adc1.convertInjected (s.draw .one)
        adc2 := s.adc2.convertInjected (s.draw .two) }) ∨
    (∃ c, m = .stopAck c ∧ s.dma[c].stopping = true ∧
      t = s.setDma c { s.dma[c] with en := false, stopping := false }) ∨
    (m = .cordic ∧ ∃ k, s.cordic.complete = some k ∧ t = { s with cordic := k }) := by
  cases m <;> simp only [State.agentStep] at h
  case statement => cases h
  case beat => exact absurd rfl hm
  case tick => cases h; exact .inr (.inl ⟨rfl, rfl⟩)
  case entry =>
    simp only [State.entryStep] at h
    split at h <;> cases h
    exact .inl ⟨rfl, _, by assumption, rfl⟩
  case regulator u =>
    simp only [Adc.regulatorReady] at h
    split at h <;> cases h
    exact .inr (.inr (.inl ⟨u, rfl, by assumption, rfl⟩))
  case calibrated u =>
    simp only [Adc.calibrationDone] at h
    split at h <;> cases h
    exact .inr (.inr (.inr (.inl ⟨u, rfl, by assumption, rfl⟩)))
  case enabled u =>
    simp only [Adc.enableDone] at h
    split at h <;> cases h
    exact .inr (.inr (.inr (.inr (.inl ⟨u, rfl, by assumption, rfl⟩))))
  case regular u =>
    simp only [State.regularStep] at h
    split at h <;> cases h
    exact .inr (.inr (.inr (.inr (.inr (.inl ⟨u, rfl, by assumption, rfl⟩)))))
  case injected u =>
    simp only [State.injectedStep] at h
    split at h <;> cases h
    rename_i hc
    simp only [Bool.and_eq_true, Bool.not_eq_true'] at hc
    exact .inr (.inr (.inr (.inr (.inr (.inr (.inl ⟨u, rfl, hc.1, hc.2, rfl⟩))))))
  case pair =>
    simp only [State.pairStep] at h
    split at h <;> cases h
    exact .inr (.inr (.inr (.inr (.inr (.inr (.inr (.inl ⟨rfl, by assumption, rfl⟩)))))))
  case stopAck c =>
    simp only [State.stopAckStep, DmaChannel.stopAck] at h
    split at h
    · cases h
    · rename_i d hd
      split at hd <;> cases hd
      cases h
      exact .inr (.inr (.inr (.inr (.inr (.inr (.inr (.inr (.inl ⟨c, rfl, by assumption, rfl⟩))))))))
  case cordic =>
    simp only [State.cordicStep] at h
    split at h <;> cases h
    exact .inr (.inr (.inr (.inr (.inr (.inr (.inr (.inr (.inr ⟨rfl, _, by assumption, rfl⟩))))))))

end Sys2Proof.Machine
end

