-- ==== Sys2Proof/Laws/Layout.lean ====
section
/-! SUPPORT. The layout of a machine launched with well-formed parameters: its windows lie apart, so an address names one register, RAM
byte or trim byte, and the address the encoder gives a register is the one the decoder finds it at (20_memory.md R201, R202). -/
namespace Sys2Proof

theorem insideRegion_iff (base size a n : Nat) : insideRegion base size a n = true ↔ base ≤ a ∧ a + n ≤ base + size := by
  simp [insideRegion]

/-- Two regions that lie apart. -/
theorem apart_iff (r q : Nat × Nat) : apart r q = true ↔ r.1 + r.2 ≤ q.1 ∨ q.1 + q.2 ≤ r.1 := by simp [apart]

theorem allApart_pairwise (l : List (Nat × Nat)) (h : allApart l = true) : l.Pairwise fun r q => apart r q = true := by
  induction l with
  | nil => exact .nil
  | cons r rest ih =>
    simp only [allApart, Bool.and_eq_true, List.all_eq_true] at h
    exact .cons h.1 (ih h.2)

theorem Window.mem_all (w : Window) : w ∈ Window.all := by
  cases w <;> first | decide | (rename_i u; cases u <;> decide)

/-- The regions are RAM, the trim halfword and the windows. -/
theorem Params.regions_eq (p : Params) :
    p.regions = (p.ramBase, p.ramSize) :: (p.trimAddr, 2) :: Window.all.map fun w => (w.base p, p.win) := rfl

theorem Params.bases_eq (p : Params) : p.bases = Window.all.map fun w => w.base p := rfl

/-- What well-formed parameters say of the layout. -/
structure Params.Layout (p : Params) : Prop where
  /-- A window is aligned and lies in the address space. -/
  window : ∀ w : Window, w.base p % 4 = 0 ∧ w.base p + p.win ≤ 2 ^ 32
  /-- Two windows share no address. -/
  windows : ∀ w v : Window, w ≠ v → w.base p + p.win ≤ v.base p ∨ v.base p + p.win ≤ w.base p
  /-- A window shares no address with RAM. -/
  ramWindow : ∀ w : Window, p.ramBase + p.ramSize ≤ w.base p ∨ w.base p + p.win ≤ p.ramBase
  /-- A window shares no address with the trim halfword. -/
  trimWindow : ∀ w : Window, p.trimAddr + 2 ≤ w.base p ∨ w.base p + p.win ≤ p.trimAddr
  ramTrim : p.ramBase + p.ramSize ≤ p.trimAddr ∨ p.trimAddr + 2 ≤ p.ramBase
  ram : p.ramBase % 4 = 0 ∧ p.ramBase + p.ramSize ≤ 2 ^ 32
  trim : p.trimAddr % 2 = 0 ∧ p.trimAddr + 2 ≤ 2 ^ 32
  /-- A window holds every register of its unit. -/
  win : 0x200 ≤ p.win

/-- The single checks of `Params.wf`. -/
theorem Params.wf_iff (p : Params) : p.wf = true ↔
    allApart p.regions = true ∧ (∀ r ∈ p.regions, r.1 + r.2 ≤ 2 ^ 32) ∧ (∀ b ∈ p.bases, b % 4 = 0) ∧ p.ramBase % 4 = 0 ∧
    p.trimAddr % 2 = 0 ∧ 0x200 ≤ p.win ∧ p.chMax ≤ 18 ∧ p.chVrefint ≤ p.chMax ∧ p.smpLong ≤ 7 ∧ p.smpMax ≤ 7 ∧
    p.smpShort = 0 ∧ p.adcBits ≤ 16 ∧ p.nDma ≤ 16 ∧ 1 ≤ p.cordicPrecision ∧ p.cordicPrecision ≤ 15 ∧ p.pollLimit ≠ some 0 := by
  simp only [Params.wf, Bool.and_eq_true, List.all_eq_true, decide_eq_true_eq, beq_iff_eq, bne_iff_ne, ne_eq, and_assoc]

/-- Well-formed parameters lay the regions out apart, aligned and inside the address space. -/
theorem Params.layout (p : Params) (h : p.wf = true) : p.Layout := by
  obtain ⟨ha, hs, hb, hr, ht, hw, _⟩ := p.wf_iff.mp h
  have hp := allApart_pairwise _ ha
  rw [Params.regions_eq] at hp hs
  rw [Params.bases_eq] at hb
  rw [List.pairwise_cons, List.pairwise_cons, List.pairwise_map] at hp
  obtain ⟨hram, htrim, hwin⟩ := hp
  have mem : ∀ w : Window, (w.base p, p.win) ∈ Window.all.map fun w => (w.base p, p.win) :=
    fun w => List.mem_map.mpr ⟨w, w.mem_all, rfl⟩
  refine ⟨fun w => ⟨hb _ (List.mem_map.mpr ⟨w, w.mem_all, rfl⟩), ?_⟩, ?_, ?_, ?_, ?_, ⟨hr, ?_⟩, ⟨ht, ?_⟩, hw⟩
  · exact hs _ (List.mem_cons_of_mem _ (List.mem_cons_of_mem _ (mem w)))
  · intro w v hne
    have symm : Std.Symm fun w v : Window => apart (w.base p, p.win) (v.base p, p.win) = true :=
      ⟨fun w v h => by simp only [apart_iff] at h ⊢; exact h.symm⟩
    exact (apart_iff _ _).mp (hwin.forall w.mem_all v.mem_all hne)
  · exact fun w => (apart_iff _ _).mp (hram _ (List.mem_cons_of_mem _ (mem w)))
  · exact fun w => (apart_iff _ _).mp (htrim _ (mem w))
  · exact (apart_iff _ _).mp (hram _ List.mem_cons_self)
  · exact hs _ List.mem_cons_self
  · exact hs _ (List.mem_cons_of_mem _ List.mem_cons_self)

/-- The defaults are well formed. -/
theorem Params.default_wf : Params.default.wf = true := by
  rw [Params.wf_iff]
  refine ⟨by decide, by decide, by decide, by decide, by decide, by decide, by decide, by decide, by decide, by decide, by decide,
    by decide, by decide, by decide, by decide, ?_⟩
  simp only [Params.default]
  cases Config.pollLimit <;> simp

/-! ### Registers and their offsets -/

/-- A register's offset is a multiple of 4 below 0x200. -/
theorem Reg.offset_lt (r : Reg) : r.offset % 4 = 0 ∧ r.offset + 4 ≤ 0x200 := by
  cases r with
  | pwm r => cases r <;> decide
  | adc u r => cases u <;> cases r <;> decide
  | dma c r =>
    have := c.isLt
    cases r <;> simp only [Reg.offset, DmaReg.offset] <;> omega
  | dmamux c => have := c.isLt; simp only [Reg.offset]; omega
  | cordic r => cases r <;> decide
  | xform r => cases r <;> decide
  | intc r => cases r <;> decide

theorem channel?_val (p : Params) (c : Fin 16) (h : c.val < p.nDma) : channel? p c.val = some c := by
  simp [channel?, c.isLt, h]

theorem channel?_some (p : Params) (n : Nat) (c : Fin 16) (h : channel? p n = some c) : c.val = n ∧ c.val < p.nDma := by
  simp only [channel?] at h
  split at h
  · split at h <;> cases h; exact ⟨rfl, by assumption⟩
  · cases h

/-- The decoder finds a register at its offset. -/
theorem Window.reg?_offset (p : Params) (r : Reg) (h : r.present p = true) : r.window.reg? p r.offset = some r := by
  cases r with
  | pwm r => cases r <;> rfl
  | adc u r => cases r <;> rfl
  | dma c r =>
    simp only [Reg.present, decide_eq_true_eq] at h
    have e : (0x20 * c.val + r.offset) / 0x20 = c.val ∧ (0x20 * c.val + r.offset) % 0x20 = r.offset := by
      cases r <;> simp only [DmaReg.offset] <;> omega
    simp only [Reg.window, Reg.offset, Window.reg?, e, channel?_val p c h]
    cases r <;> rfl
  | dmamux c =>
    simp only [Reg.present, decide_eq_true_eq] at h
    have e : 4 * c.val / 4 = c.val := by omega
    simp only [Reg.window, Reg.offset, Window.reg?, e, channel?_val p c h, Option.map_some]
  | cordic r => cases r <;> rfl
  | xform r => cases r <;> rfl
  | intc r => cases r <;> rfl

/-! ### Which window an address lies in -/

/-- An access inside a window is in no other. -/
theorem Params.window?_eq (p : Params) (hp : p.wf = true) (w : Window) (a n : Nat) (hn : 1 ≤ n)
    (h : insideRegion (w.base p) p.win a n = true) : p.window? a n = some w := by
  have L := p.layout hp
  rw [insideRegion_iff] at h
  have only : ∀ v, insideRegion (v.base p) p.win a n = true → v = w := fun v hv => by
    rw [insideRegion_iff] at hv
    by_contra hne
    have := L.windows v w hne
    omega
  have some_ : (p.window? a n).isSome = true := by
    simp only [Params.window?, List.find?_isSome]
    exact ⟨w, w.mem_all, (insideRegion_iff _ _ _ _).mpr h⟩
  obtain ⟨v, hv⟩ := Option.isSome_iff_exists.mp some_
  have := only v (by simpa using List.find?_some hv)
  rw [hv, this]

/-- A register's address lies in the address space. -/
theorem Reg.address_lt (p : Params) (hp : p.wf = true) (r : Reg) : r.address p + 4 ≤ 2 ^ 32 := by
  have L := p.layout hp
  have := (L.window r.window).2
  have := r.offset_lt.2
  have := L.win
  simp only [Reg.address]
  omega

theorem Lane.fits (lane : Lane) : lane.offset + lane.size.bytes ≤ 4 ∧ 1 ≤ lane.size.bytes ∧
    Lane.at? lane.size lane.offset = some lane := by cases lane <;> decide

/-- The decoder finds a lane of a register at the address the encoder gives it. -/
theorem locate_reg (p : Params) (hp : p.wf = true) (r : Reg) (hr : r.present p = true) (lane : Lane) :
    locate p lane.size (r.laneAddr p lane) = .ok (.reg r lane) := by
  have L := p.layout hp
  obtain ⟨hf, hn, hl⟩ := lane.fits
  have ho := r.offset_lt
  have hlt := r.address_lt p hp
  have haddr : (r.laneAddr p lane).toNat = r.window.base p + r.offset + lane.offset := by
    rw [Reg.laneAddr, Word.ofAddr, BitVec.toNat_ofNat, Nat.mod_eq_of_lt (by omega), Reg.address]
  have hw := L.win
  have hb := L.window r.window
  have hin : insideRegion (r.window.base p) p.win (r.laneAddr p lane).toNat lane.size.bytes = true := by
    rw [insideRegion_iff, haddr]; omega
  have hram : insideRegion p.ramBase p.ramSize (r.laneAddr p lane).toNat lane.size.bytes = false := by
    rw [Bool.eq_false_iff, ne_eq, insideRegion_iff, haddr]
    have := L.ramWindow r.window
    omega
  have htrim : insideRegion p.trimAddr 2 (r.laneAddr p lane).toNat lane.size.bytes = false := by
    rw [Bool.eq_false_iff, ne_eq, insideRegion_iff, haddr]
    have := L.trimWindow r.window
    omega
  have e1 : r.window.base p + r.offset + lane.offset - r.window.base p = r.offset + lane.offset := by omega
  have e2 : (r.offset + lane.offset) % 4 = lane.offset := by omega
  have e3 : r.offset + lane.offset - lane.offset = r.offset := by omega
  have hwin := p.window?_eq hp _ _ _ hn hin
  rw [haddr] at hram htrim hwin
  simp only [locate, haddr, hram, htrim, hwin, e1, e2, e3, Window.reg?_offset p r hr, hl, Bool.false_eq_true, if_false]

/-- The decoder finds a register at its address. -/
theorem locate_word (p : Params) (hp : p.wf = true) (r : Reg) (hr : r.present p = true) :
    locate p .b4 (r.addr p) = .ok (.reg r .word) := locate_reg p hp r hr .word

/-- The decoder finds an aligned RAM offset at the address the encoder gives it. -/
theorem locate_ramOffset (p : Params) (hp : p.wf = true) (n : Size) (off : BitVec 32) (ha : off.toNat % n.bytes = 0)
    (h : off.toNat + n.bytes ≤ p.ramSize) :
    (Word.ofAddr (p.ramBase + off.toNat)).toNat = p.ramBase + off.toNat ∧
    locate p n (Word.ofAddr (p.ramBase + off.toNat)) = .ok (.ram off) := by
  have L := p.layout hp
  have hn : 1 ≤ n.bytes := by cases n <;> decide
  have hr := L.ram
  have haddr : (Word.ofAddr (p.ramBase + off.toNat)).toNat = p.ramBase + off.toNat := by
    rw [Word.ofAddr, BitVec.toNat_ofNat, Nat.mod_eq_of_lt (by omega)]
  have hin : insideRegion p.ramBase p.ramSize (p.ramBase + off.toNat) n.bytes = true := by
    rw [insideRegion_iff]; omega
  have hal : (p.ramBase + off.toNat) % n.bytes = 0 := by
    cases n <;> simp only [Size.bytes] at ha ⊢ <;> omega
  refine ⟨haddr, ?_⟩
  have e : p.ramBase + off.toNat - p.ramBase = off.toNat := by omega
  simp only [locate, haddr, hin, hal, if_true, e, BitVec.ofNat_toNat, BitVec.setWidth_eq]

end Sys2Proof
end

