-- ==== Sys2Proof/Laws/PerInstr.lean ====
section
/-! SUPPORT. A fact of every instruction as syntax, one lemma per constructor: a driver operation alone has no transaction of its
own (30_encoding.md R330), and in every layout a well-formed instruction's transaction is naturally aligned (20_memory.md R207). -/
namespace Sys2Proof.Laws.Encoding

/-- The size of a transaction divides its address. -/
def aligned : Transaction → Bool
  | .rd n a => a.toNat % n.bytes == 0
  | .wr n a _ => a.toNat % n.bytes == 0

/-- The family's statement about one instruction. -/
def Statement (i : Instr) : Prop :=
  ((∀ p, encode p i = none) ↔ i.isOperation = true) ∧
  ∀ p t, p.wf = true → i.wf = true → encode p i = some t → aligned t = true

/-- A layout with every RAM offset. -/
def widest : Params := { Params.default with ramBase := 0, ramSize := 2 ^ 33 }

/-- An operation has no transaction. -/
theorem of_operation {i : Instr} (h : ∀ p, encode p i = none) (ho : i.isOperation = true) : Statement i :=
  ⟨by simp [h, ho], fun p t _ _ ht => by simp [h] at ht⟩

/-- An instruction that is a transaction of some layout. -/
theorem of_transaction {i : Instr} (p : Params) (t : Transaction) (h : encode p i = some t) (ho : i.isOperation = false)
    (ha : ∀ p t, p.wf = true → i.wf = true → encode p i = some t → aligned t = true) : Statement i :=
  ⟨⟨fun hn => absurd (hn p) (by simp [h]), fun hn => absurd hn (by simp [ho])⟩, ha⟩

/-- Every lane of every register is present in the default layout. -/
theorem present_default (r : Reg) : r.present Params.default = true := by
  cases r <;> simp [Reg.present, Params.default]

theorem laneAddr_toNat (p : Params) (hp : p.wf = true) (r : Reg) (lane : Lane) :
    (r.laneAddr p lane).toNat = r.address p + lane.offset ∧ r.address p % 4 = 0 := by
  have := r.address_lt p hp
  have hl := lane.fits
  have := ((p.layout hp).window r.window).1
  have := r.offset_lt.1
  refine ⟨?_, by simp only [Reg.address]; omega⟩
  rw [Reg.laneAddr, Word.ofAddr, BitVec.toNat_ofNat, Nat.mod_eq_of_lt (by omega)]

/-- The read of a register. -/
theorem of_read {i : Instr} (r : Reg) (lane : Lane) (h : ∀ p, encode p i = r.rdTransaction p lane) (ho : i.isOperation = false) :
    Statement i := by
  refine of_transaction Params.default _ (by rw [h, Reg.rdTransaction, if_pos (present_default r)]) ho fun p t hp _ ht => ?_
  rw [h, Reg.rdTransaction] at ht
  split at ht <;> cases ht
  obtain ⟨ha, h4⟩ := laneAddr_toNat p hp r lane
  simp only [aligned, beq_iff_eq, ha]
  cases lane <;> simp only [Lane.offset, Lane.size, Size.bytes] <;> omega

/-- The write of a register. -/
theorem of_write {i : Instr} (r : Reg) (v : Word) (h : ∀ p, encode p i = r.wrTransaction p v) (ho : i.isOperation = false) :
    Statement i := by
  refine of_transaction Params.default _ (by rw [h, Reg.wrTransaction, if_pos (present_default r)]) ho fun p t hp _ ht => ?_
  rw [h, Reg.wrTransaction] at ht
  split at ht <;> cases ht
  obtain ⟨ha, h4⟩ := laneAddr_toNat p hp r .word
  have : r.addr p = r.laneAddr p .word := rfl
  simp only [aligned, beq_iff_eq, this, ha, Lane.offset, Size.bytes]
  omega

/-- An aligned RAM offset of a layout is an aligned address. -/
theorem ram_aligned (p : Params) (hp : p.wf = true) (n : Size) (off : BitVec 32) (h : off.toNat + n.bytes ≤ p.ramSize)
    (ha : off.toNat % n.bytes = 0) : (Word.ofAddr (p.ramBase + off.toNat)).toNat % n.bytes = 0 := by
  have hr := (p.layout hp).ram.1
  rw [(locate_ramOffset p hp n off ha h).1]
  cases n <;> simp only [Size.bytes] at ha ⊢ <;> omega

/-- An access to RAM. -/
theorem of_ram {i : Instr} (n : Size) (off : BitVec 32) (t : Word → Transaction)
    (hi : ∀ a, aligned (t a) = (a.toNat % n.bytes == 0))
    (h : ∀ p, encode p i = if off.toNat + n.bytes ≤ p.ramSize then some (t (Word.ofAddr (p.ramBase + off.toNat))) else none)
    (ho : i.isOperation = false) (ha : i.wf = true → off.toNat % n.bytes = 0) : Statement i := by
  have hn : n.bytes ≤ 4 := by cases n <;> decide
  have hlt := off.isLt
  refine of_transaction widest _ (by rw [h, if_pos (by simp only [widest]; omega)]) ho fun p u hp hw hu => ?_
  rw [h] at hu
  split at hu <;> cases hu
  rw [hi, beq_iff_eq]
  exact ram_aligned p hp n off (by assumption) (ha hw)

theorem pwmCr1Rd (lane : Lane) : Statement (.pwmCr1Rd lane) := of_read _ _ (fun _ => rfl) rfl
theorem pwmCr1Wr (v : Word) : Statement (.pwmCr1Wr v) := of_write _ _ (fun _ => rfl) rfl
theorem pwmCr2Rd (lane : Lane) : Statement (.pwmCr2Rd lane) := of_read _ _ (fun _ => rfl) rfl
theorem pwmCr2Wr (v : Word) : Statement (.pwmCr2Wr v) := of_write _ _ (fun _ => rfl) rfl
theorem pwmSrRd (lane : Lane) : Statement (.pwmSrRd lane) := of_read _ _ (fun _ => rfl) rfl
theorem pwmSrWr (v : Word) : Statement (.pwmSrWr v) := of_write _ _ (fun _ => rfl) rfl
theorem pwmEgrRd (lane : Lane) : Statement (.pwmEgrRd lane) := of_read _ _ (fun _ => rfl) rfl
theorem pwmEgrWr (v : Word) : Statement (.pwmEgrWr v) := of_write _ _ (fun _ => rfl) rfl
theorem pwmCcmrRd (lane : Lane) : Statement (.pwmCcmrRd lane) := of_read _ _ (fun _ => rfl) rfl
theorem pwmCcmrWr (v : Word) : Statement (.pwmCcmrWr v) := of_write _ _ (fun _ => rfl) rfl
theorem pwmCcerRd (lane : Lane) : Statement (.pwmCcerRd lane) := of_read _ _ (fun _ => rfl) rfl
theorem pwmCcerWr (v : Word) : Statement (.pwmCcerWr v) := of_write _ _ (fun _ => rfl) rfl
theorem pwmCntRd (lane : Lane) : Statement (.pwmCntRd lane) := of_read _ _ (fun _ => rfl) rfl
theorem pwmCntWr (v : Word) : Statement (.pwmCntWr v) := of_write _ _ (fun _ => rfl) rfl
theorem pwmPscRd (lane : Lane) : Statement (.pwmPscRd lane) := of_read _ _ (fun _ => rfl) rfl
theorem pwmPscWr (v : Word) : Statement (.pwmPscWr v) := of_write _ _ (fun _ => rfl) rfl
theorem pwmArrRd (lane : Lane) : Statement (.pwmArrRd lane) := of_read _ _ (fun _ => rfl) rfl
theorem pwmArrWr (v : Word) : Statement (.pwmArrWr v) := of_write _ _ (fun _ => rfl) rfl
theorem pwmRcrRd (lane : Lane) : Statement (.pwmRcrRd lane) := of_read _ _ (fun _ => rfl) rfl
theorem pwmRcrWr (v : Word) : Statement (.pwmRcrWr v) := of_write _ _ (fun _ => rfl) rfl
theorem pwmCcr1Rd (lane : Lane) : Statement (.pwmCcr1Rd lane) := of_read _ _ (fun _ => rfl) rfl
theorem pwmCcr1Wr (v : Word) : Statement (.pwmCcr1Wr v) := of_write _ _ (fun _ => rfl) rfl
theorem pwmCcr2Rd (lane : Lane) : Statement (.pwmCcr2Rd lane) := of_read _ _ (fun _ => rfl) rfl
theorem pwmCcr2Wr (v : Word) : Statement (.pwmCcr2Wr v) := of_write _ _ (fun _ => rfl) rfl
theorem pwmCcr3Rd (lane : Lane) : Statement (.pwmCcr3Rd lane) := of_read _ _ (fun _ => rfl) rfl
theorem pwmCcr3Wr (v : Word) : Statement (.pwmCcr3Wr v) := of_write _ _ (fun _ => rfl) rfl
theorem pwmCcr4Rd (lane : Lane) : Statement (.pwmCcr4Rd lane) := of_read _ _ (fun _ => rfl) rfl
theorem pwmCcr4Wr (v : Word) : Statement (.pwmCcr4Wr v) := of_write _ _ (fun _ => rfl) rfl
theorem pwmCcr5Rd (lane : Lane) : Statement (.pwmCcr5Rd lane) := of_read _ _ (fun _ => rfl) rfl
theorem pwmCcr5Wr (v : Word) : Statement (.pwmCcr5Wr v) := of_write _ _ (fun _ => rfl) rfl
theorem pwmBdtrRd (lane : Lane) : Statement (.pwmBdtrRd lane) := of_read _ _ (fun _ => rfl) rfl
theorem pwmBdtrWr (v : Word) : Statement (.pwmBdtrWr v) := of_write _ _ (fun _ => rfl) rfl
theorem adc1IsrRd (lane : Lane) : Statement (.adc1IsrRd lane) := of_read _ _ (fun _ => rfl) rfl
theorem adc1IsrWr (v : Word) : Statement (.adc1IsrWr v) := of_write _ _ (fun _ => rfl) rfl
theorem adc1IerRd (lane : Lane) : Statement (.adc1IerRd lane) := of_read _ _ (fun _ => rfl) rfl
theorem adc1IerWr (v : Word) : Statement (.adc1IerWr v) := of_write _ _ (fun _ => rfl) rfl
theorem adc1CrRd (lane : Lane) : Statement (.adc1CrRd lane) := of_read _ _ (fun _ => rfl) rfl
theorem adc1CrWr (v : Word) : Statement (.adc1CrWr v) := of_write _ _ (fun _ => rfl) rfl
theorem adc1CfgrRd (lane : Lane) : Statement (.adc1CfgrRd lane) := of_read _ _ (fun _ => rfl) rfl
theorem adc1CfgrWr (v : Word) : Statement (.adc1CfgrWr v) := of_write _ _ (fun _ => rfl) rfl
theorem adc1Smpr1Rd (lane : Lane) : Statement (.adc1Smpr1Rd lane) := of_read _ _ (fun _ => rfl) rfl
theorem adc1Smpr1Wr (v : Word) : Statement (.adc1Smpr1Wr v) := of_write _ _ (fun _ => rfl) rfl
theorem adc1Smpr2Rd (lane : Lane) : Statement (.adc1Smpr2Rd lane) := of_read _ _ (fun _ => rfl) rfl
theorem adc1Smpr2Wr (v : Word) : Statement (.adc1Smpr2Wr v) := of_write _ _ (fun _ => rfl) rfl
theorem adc1Sqr1Rd (lane : Lane) : Statement (.adc1Sqr1Rd lane) := of_read _ _ (fun _ => rfl) rfl
theorem adc1Sqr1Wr (v : Word) : Statement (.adc1Sqr1Wr v) := of_write _ _ (fun _ => rfl) rfl
theorem adc1DrRd (lane : Lane) : Statement (.adc1DrRd lane) := of_read _ _ (fun _ => rfl) rfl
theorem adc1DrWr (v : Word) : Statement (.adc1DrWr v) := of_write _ _ (fun _ => rfl) rfl
theorem adc1JsqrRd (lane : Lane) : Statement (.adc1JsqrRd lane) := of_read _ _ (fun _ => rfl) rfl
theorem adc1JsqrWr (v : Word) : Statement (.adc1JsqrWr v) := of_write _ _ (fun _ => rfl) rfl
theorem adc1Jdr1Rd (lane : Lane) : Statement (.adc1Jdr1Rd lane) := of_read _ _ (fun _ => rfl) rfl
theorem adc1Jdr1Wr (v : Word) : Statement (.adc1Jdr1Wr v) := of_write _ _ (fun _ => rfl) rfl
theorem adc1Jdr2Rd (lane : Lane) : Statement (.adc1Jdr2Rd lane) := of_read _ _ (fun _ => rfl) rfl
theorem adc1Jdr2Wr (v : Word) : Statement (.adc1Jdr2Wr v) := of_write _ _ (fun _ => rfl) rfl
theorem adc1Jdr3Rd (lane : Lane) : Statement (.adc1Jdr3Rd lane) := of_read _ _ (fun _ => rfl) rfl
theorem adc1Jdr3Wr (v : Word) : Statement (.adc1Jdr3Wr v) := of_write _ _ (fun _ => rfl) rfl
theorem adc1Jdr4Rd (lane : Lane) : Statement (.adc1Jdr4Rd lane) := of_read _ _ (fun _ => rfl) rfl
theorem adc1Jdr4Wr (v : Word) : Statement (.adc1Jdr4Wr v) := of_write _ _ (fun _ => rfl) rfl
theorem adc2IsrRd (lane : Lane) : Statement (.adc2IsrRd lane) := of_read _ _ (fun _ => rfl) rfl
theorem adc2IsrWr (v : Word) : Statement (.adc2IsrWr v) := of_write _ _ (fun _ => rfl) rfl
theorem adc2IerRd (lane : Lane) : Statement (.adc2IerRd lane) := of_read _ _ (fun _ => rfl) rfl
theorem adc2IerWr (v : Word) : Statement (.adc2IerWr v) := of_write _ _ (fun _ => rfl) rfl
theorem adc2CrRd (lane : Lane) : Statement (.adc2CrRd lane) := of_read _ _ (fun _ => rfl) rfl
theorem adc2CrWr (v : Word) : Statement (.adc2CrWr v) := of_write _ _ (fun _ => rfl) rfl
theorem adc2CfgrRd (lane : Lane) : Statement (.adc2CfgrRd lane) := of_read _ _ (fun _ => rfl) rfl
theorem adc2CfgrWr (v : Word) : Statement (.adc2CfgrWr v) := of_write _ _ (fun _ => rfl) rfl
theorem adc2Smpr1Rd (lane : Lane) : Statement (.adc2Smpr1Rd lane) := of_read _ _ (fun _ => rfl) rfl
theorem adc2Smpr1Wr (v : Word) : Statement (.adc2Smpr1Wr v) := of_write _ _ (fun _ => rfl) rfl
theorem adc2Smpr2Rd (lane : Lane) : Statement (.adc2Smpr2Rd lane) := of_read _ _ (fun _ => rfl) rfl
theorem adc2Smpr2Wr (v : Word) : Statement (.adc2Smpr2Wr v) := of_write _ _ (fun _ => rfl) rfl
theorem adc2Sqr1Rd (lane : Lane) : Statement (.adc2Sqr1Rd lane) := of_read _ _ (fun _ => rfl) rfl
theorem adc2Sqr1Wr (v : Word) : Statement (.adc2Sqr1Wr v) := of_write _ _ (fun _ => rfl) rfl
theorem adc2DrRd (lane : Lane) : Statement (.adc2DrRd lane) := of_read _ _ (fun _ => rfl) rfl
theorem adc2DrWr (v : Word) : Statement (.adc2DrWr v) := of_write _ _ (fun _ => rfl) rfl
theorem adc2JsqrRd (lane : Lane) : Statement (.adc2JsqrRd lane) := of_read _ _ (fun _ => rfl) rfl
theorem adc2JsqrWr (v : Word) : Statement (.adc2JsqrWr v) := of_write _ _ (fun _ => rfl) rfl
theorem adc2Jdr1Rd (lane : Lane) : Statement (.adc2Jdr1Rd lane) := of_read _ _ (fun _ => rfl) rfl
theorem adc2Jdr1Wr (v : Word) : Statement (.adc2Jdr1Wr v) := of_write _ _ (fun _ => rfl) rfl
theorem adc2Jdr2Rd (lane : Lane) : Statement (.adc2Jdr2Rd lane) := of_read _ _ (fun _ => rfl) rfl
theorem adc2Jdr2Wr (v : Word) : Statement (.adc2Jdr2Wr v) := of_write _ _ (fun _ => rfl) rfl
theorem adc2Jdr3Rd (lane : Lane) : Statement (.adc2Jdr3Rd lane) := of_read _ _ (fun _ => rfl) rfl
theorem adc2Jdr3Wr (v : Word) : Statement (.adc2Jdr3Wr v) := of_write _ _ (fun _ => rfl) rfl
theorem adc2Jdr4Rd (lane : Lane) : Statement (.adc2Jdr4Rd lane) := of_read _ _ (fun _ => rfl) rfl
theorem adc2Jdr4Wr (v : Word) : Statement (.adc2Jdr4Wr v) := of_write _ _ (fun _ => rfl) rfl
theorem dmaCcrRd (c : Fin 16) (lane : Lane) : Statement (.dmaCcrRd c lane) := of_read _ _ (fun _ => rfl) rfl
theorem dmaCcrWr (c : Fin 16) (v : Word) : Statement (.dmaCcrWr c v) := of_write _ _ (fun _ => rfl) rfl
theorem dmaCndtrRd (c : Fin 16) (lane : Lane) : Statement (.dmaCndtrRd c lane) := of_read _ _ (fun _ => rfl) rfl
theorem dmaCndtrWr (c : Fin 16) (v : Word) : Statement (.dmaCndtrWr c v) := of_write _ _ (fun _ => rfl) rfl
theorem dmaCparRd (c : Fin 16) (lane : Lane) : Statement (.dmaCparRd c lane) := of_read _ _ (fun _ => rfl) rfl
theorem dmaCparWr (c : Fin 16) (v : Word) : Statement (.dmaCparWr c v) := of_write _ _ (fun _ => rfl) rfl
theorem dmaCmarRd (c : Fin 16) (lane : Lane) : Statement (.dmaCmarRd c lane) := of_read _ _ (fun _ => rfl) rfl
theorem dmaCmarWr (c : Fin 16) (v : Word) : Statement (.dmaCmarWr c v) := of_write _ _ (fun _ => rfl) rfl
theorem dmaCisrRd (c : Fin 16) (lane : Lane) : Statement (.dmaCisrRd c lane) := of_read _ _ (fun _ => rfl) rfl
theorem dmaCisrWr (c : Fin 16) (v : Word) : Statement (.dmaCisrWr c v) := of_write _ _ (fun _ => rfl) rfl
theorem dmaCifcrRd (c : Fin 16) (lane : Lane) : Statement (.dmaCifcrRd c lane) := of_read _ _ (fun _ => rfl) rfl
theorem dmaCifcrWr (c : Fin 16) (v : Word) : Statement (.dmaCifcrWr c v) := of_write _ _ (fun _ => rfl) rfl
theorem dmamuxCxcrRd (c : Fin 16) (lane : Lane) : Statement (.dmamuxCxcrRd c lane) := of_read _ _ (fun _ => rfl) rfl
theorem dmamuxCxcrWr (c : Fin 16) (v : Word) : Statement (.dmamuxCxcrWr c v) := of_write _ _ (fun _ => rfl) rfl
theorem cordicCsrRd (lane : Lane) : Statement (.cordicCsrRd lane) := of_read _ _ (fun _ => rfl) rfl
theorem cordicCsrWr (v : Word) : Statement (.cordicCsrWr v) := of_write _ _ (fun _ => rfl) rfl
theorem cordicWdataRd (lane : Lane) : Statement (.cordicWdataRd lane) := of_read _ _ (fun _ => rfl) rfl
theorem cordicWdataWr (v : Word) : Statement (.cordicWdataWr v) := of_write _ _ (fun _ => rfl) rfl
theorem cordicRdataRd (lane : Lane) : Statement (.cordicRdataRd lane) := of_read _ _ (fun _ => rfl) rfl
theorem cordicRdataWr (v : Word) : Statement (.cordicRdataWr v) := of_write _ _ (fun _ => rfl) rfl
theorem xformCtrlRd (lane : Lane) : Statement (.xformCtrlRd lane) := of_read _ _ (fun _ => rfl) rfl
theorem xformCtrlWrNop (hi : BitVec 29) : Statement (.xformCtrlWrNop hi) := of_write _ _ (fun _ => rfl) rfl
theorem xformCtrlWrClarke (hi : BitVec 29) : Statement (.xformCtrlWrClarke hi) := of_write _ _ (fun _ => rfl) rfl
theorem xformCtrlWrPark (hi : BitVec 29) : Statement (.xformCtrlWrPark hi) := of_write _ _ (fun _ => rfl) rfl
theorem xformCtrlWrIpark (hi : BitVec 29) : Statement (.xformCtrlWrIpark hi) := of_write _ _ (fun _ => rfl) rfl
theorem xformCtrlWrSvpwm (hi : BitVec 29) : Statement (.xformCtrlWrSvpwm hi) := of_write _ _ (fun _ => rfl) rfl
theorem xformCtrlWrClarkePark (hi : BitVec 29) : Statement (.xformCtrlWrClarkePark hi) := of_write _ _ (fun _ => rfl) rfl
theorem xformIn0Rd (lane : Lane) : Statement (.xformIn0Rd lane) := of_read _ _ (fun _ => rfl) rfl
theorem xformIn0Wr (v : Word) : Statement (.xformIn0Wr v) := of_write _ _ (fun _ => rfl) rfl
theorem xformIn1Rd (lane : Lane) : Statement (.xformIn1Rd lane) := of_read _ _ (fun _ => rfl) rfl
theorem xformIn1Wr (v : Word) : Statement (.xformIn1Wr v) := of_write _ _ (fun _ => rfl) rfl
theorem xformIn2Rd (lane : Lane) : Statement (.xformIn2Rd lane) := of_read _ _ (fun _ => rfl) rfl
theorem xformIn2Wr (v : Word) : Statement (.xformIn2Wr v) := of_write _ _ (fun _ => rfl) rfl
theorem xformIn3Rd (lane : Lane) : Statement (.xformIn3Rd lane) := of_read _ _ (fun _ => rfl) rfl
theorem xformIn3Wr (v : Word) : Statement (.xformIn3Wr v) := of_write _ _ (fun _ => rfl) rfl
theorem xformOut0Rd (lane : Lane) : Statement (.xformOut0Rd lane) := of_read _ _ (fun _ => rfl) rfl
theorem xformOut0Wr (v : Word) : Statement (.xformOut0Wr v) := of_write _ _ (fun _ => rfl) rfl
theorem xformOut1Rd (lane : Lane) : Statement (.xformOut1Rd lane) := of_read _ _ (fun _ => rfl) rfl
theorem xformOut1Wr (v : Word) : Statement (.xformOut1Wr v) := of_write _ _ (fun _ => rfl) rfl
theorem xformOut2Rd (lane : Lane) : Statement (.xformOut2Rd lane) := of_read _ _ (fun _ => rfl) rfl
theorem xformOut2Wr (v : Word) : Statement (.xformOut2Wr v) := of_write _ _ (fun _ => rfl) rfl
theorem xformOut3Rd (lane : Lane) : Statement (.xformOut3Rd lane) := of_read _ _ (fun _ => rfl) rfl
theorem xformOut3Wr (v : Word) : Statement (.xformOut3Wr v) := of_write _ _ (fun _ => rfl) rfl
theorem intcCtrlRd (lane : Lane) : Statement (.intcCtrlRd lane) := of_read _ _ (fun _ => rfl) rfl
theorem intcCtrlWr (v : Word) : Statement (.intcCtrlWr v) := of_write _ _ (fun _ => rfl) rfl
theorem intcIerRd (lane : Lane) : Statement (.intcIerRd lane) := of_read _ _ (fun _ => rfl) rfl
theorem intcIerWr (v : Word) : Statement (.intcIerWr v) := of_write _ _ (fun _ => rfl) rfl
theorem intcIprRd (lane : Lane) : Statement (.intcIprRd lane) := of_read _ _ (fun _ => rfl) rfl
theorem intcIprWr (v : Word) : Statement (.intcIprWr v) := of_write _ _ (fun _ => rfl) rfl
theorem intcIabrRd (lane : Lane) : Statement (.intcIabrRd lane) := of_read _ _ (fun _ => rfl) rfl
theorem intcIabrWr (v : Word) : Statement (.intcIabrWr v) := of_write _ _ (fun _ => rfl) rfl
theorem intcCurpriRd (lane : Lane) : Statement (.intcCurpriRd lane) := of_read _ _ (fun _ => rfl) rfl
theorem intcCurpriWr (v : Word) : Statement (.intcCurpriWr v) := of_write _ _ (fun _ => rfl) rfl
theorem intcEoiRd (lane : Lane) : Statement (.intcEoiRd lane) := of_read _ _ (fun _ => rfl) rfl
theorem intcEoiWr (v : Word) : Statement (.intcEoiWr v) := of_write _ _ (fun _ => rfl) rfl
theorem intcActiveRd (lane : Lane) : Statement (.intcActiveRd lane) := of_read _ _ (fun _ => rfl) rfl
theorem intcActiveWr (v : Word) : Statement (.intcActiveWr v) := of_write _ _ (fun _ => rfl) rfl
theorem ramRd8 (off : BitVec 32) : Statement (.ramRd8 off) :=
  of_ram .b1 off (fun a => .rd .b1 a) (fun _ => rfl) (fun _ => rfl) rfl (fun _ => Nat.mod_one _)
theorem ramRd16 (off : BitVec 32) : Statement (.ramRd16 off) :=
  of_ram .b2 off (fun a => .rd .b2 a) (fun _ => rfl) (fun _ => rfl) rfl (fun h => by simpa [Instr.wf, Size.bytes] using h)
theorem ramRd32 (off : BitVec 32) : Statement (.ramRd32 off) :=
  of_ram .b4 off (fun a => .rd .b4 a) (fun _ => rfl) (fun _ => rfl) rfl (fun h => by simpa [Instr.wf, Size.bytes] using h)
theorem ramWr8 (off : BitVec 32) (d : Word) : Statement (.ramWr8 off d) :=
  of_ram .b1 off (fun a => .wr .b1 a d) (fun _ => rfl) (fun _ => rfl) rfl (fun _ => Nat.mod_one _)
theorem ramWr16 (off : BitVec 32) (d : Word) : Statement (.ramWr16 off d) :=
  of_ram .b2 off (fun a => .wr .b2 a d) (fun _ => rfl) (fun _ => rfl) rfl (fun h => by simpa [Instr.wf, Size.bytes] using h)
theorem ramWr32 (off : BitVec 32) (d : Word) : Statement (.ramWr32 off d) :=
  of_ram .b4 off (fun a => .wr .b4 a d) (fun _ => rfl) (fun _ => rfl) rfl (fun h => by simpa [Instr.wf, Size.bytes] using h)
theorem trimRd8 (off : BitVec 1) : Statement (.trimRd8 off) :=
  of_transaction Params.default _ rfl rfl fun _ t _ _ ht => by cases ht; simp [aligned, Size.bytes, Nat.mod_one]
theorem trimRd16 : Statement .trimRd16 := of_transaction Params.default _ rfl rfl fun p t hp _ ht => by
  cases ht
  have h := (p.layout hp).trim
  simp only [aligned, Size.bytes, Word.ofAddr, BitVec.toNat_ofNat, beq_iff_eq]
  omega
theorem pwmConfigure (p : Expr) : Statement (.pwmConfigure p) := of_operation (fun _ => rfl) rfl
theorem pwmDeadtimeTicks : Statement .pwmDeadtimeTicks := of_operation (fun _ => rfl) rfl
theorem pwmEnableOutputs : Statement .pwmEnableOutputs := of_operation (fun _ => rfl) rfl
theorem pwmSetDuty (a : Expr) (b : Expr) (c : Expr) : Statement (.pwmSetDuty a b c) := of_operation (fun _ => rfl) rfl
theorem adcPowerupCalibrate (u : AdcUnit) : Statement (.adcPowerupCalibrate u) := of_operation (fun _ => rfl) rfl
theorem adcEnable (u : AdcUnit) : Statement (.adcEnable u) := of_operation (fun _ => rfl) rfl
theorem adcStart (u : AdcUnit) : Statement (.adcStart u) := of_operation (fun _ => rfl) rfl
theorem adcConfigureProduction (u : AdcUnit) (rch : Expr) (j1 : Expr) (j2 : Expr) : Statement (.adcConfigureProduction u rch j1 j2) :=
  of_operation (fun _ => rfl) rfl
theorem adcOneShot (u : AdcUnit) (ch : Expr) (n : Expr) (smp : Expr) : Statement (.adcOneShot u ch n smp) := of_operation (fun _ => rfl) rfl
theorem adcGetAverage (u : AdcUnit) (ch : Expr) : Statement (.adcGetAverage u ch) := of_operation (fun _ => rfl) rfl
theorem adcReferenceVoltage : Statement .adcReferenceVoltage := of_operation (fun _ => rfl) rfl
theorem adcVrefCalibrate : Statement .adcVrefCalibrate := of_operation (fun _ => rfl) rfl
theorem adcClearInjectedFlag (u : AdcUnit) : Statement (.adcClearInjectedFlag u) := of_operation (fun _ => rfl) rfl
theorem adcReadInjectedFlag (u : AdcUnit) : Statement (.adcReadInjectedFlag u) := of_operation (fun _ => rfl) rfl
theorem adcReadInjectedData (u : AdcUnit) (k : Expr) : Statement (.adcReadInjectedData u k) := of_operation (fun _ => rfl) rfl
theorem adcRawDrAddress (u : AdcUnit) : Statement (.adcRawDrAddress u) := of_operation (fun _ => rfl) rfl
theorem dmamuxMap (c : Expr) (rid : Expr) : Statement (.dmamuxMap c rid) := of_operation (fun _ => rfl) rfl
theorem dmaBind (c : Expr) (pa : Expr) : Statement (.dmaBind c pa) := of_operation (fun _ => rfl) rfl
theorem dmaStart (c : Expr) (buf : Expr) (len : Expr) : Statement (.dmaStart c buf len) := of_operation (fun _ => rfl) rfl
theorem dmaStop (c : Expr) : Statement (.dmaStop c) := of_operation (fun _ => rfl) rfl
theorem dmaTc (c : Expr) : Statement (.dmaTc c) := of_operation (fun _ => rfl) rfl
theorem dmaClearTc (c : Expr) : Statement (.dmaClearTc c) := of_operation (fun _ => rfl) rfl
theorem dmaClearAll (c : Expr) : Statement (.dmaClearAll c) := of_operation (fun _ => rfl) rfl
theorem floatToQ31 (v : Expr) : Statement (.floatToQ31 v) := of_operation (fun _ => rfl) rfl
theorem q31ToFloat (q : Expr) : Statement (.q31ToFloat q) := of_operation (fun _ => rfl) rfl
theorem cordicInit : Statement .cordicInit := of_operation (fun _ => rfl) rfl
theorem cordicCompute (t : Expr) : Statement (.cordicCompute t) := of_operation (fun _ => rfl) rfl
theorem cordicRequest (t : Expr) : Statement (.cordicRequest t) := of_operation (fun _ => rfl) rfl
theorem cordicCollect : Statement .cordicCollect := of_operation (fun _ => rfl) rfl
theorem xfRun (op : Expr) (x0 : Expr) (x1 : Expr) (x2 : Expr) (x3 : Expr) : Statement (.xfRun op x0 x1 x2 x3) :=
  of_operation (fun _ => rfl) rfl

end Sys2Proof.Laws.Encoding
end

