-- ==== Sys2Proof/Laws/Update.lean ====
section
/-! SUPPORT. "Duties written in a period apply at a UEV and at no other step" (70_reset_and_hazards.md R1131, 41_pwm.md R524): a step
of the machine copies the preloaded compare values and prescaler exactly if it is what `State.updates` calls an update event. -/
namespace Sys2Proof.Machine

/-- From p to q the active compare values and prescaler take their preloaded values if u, and stay otherwise. -/
def Pwm.TakesIf (u : Bool) (p q : Pwm) : Prop :=
  q.ccrAct = (if u then p.ccr else p.ccrAct) ∧ q.pscAct = (if u then p.psc else p.pscAct)

theorem Pwm.TakesIf.refl (p : Pwm) : p.TakesIf false p := ⟨rfl, rfl⟩

theorem Pwm.TakesIf.of_eq {u : Bool} {p q : Pwm} (hu : u = false) (h : q = p) : p.TakesIf u q := by
  subst hu h
  exact ⟨rfl, rfl⟩

/-- A write of a PWM register is an update event if it is a `UG` write (41_pwm.md R512). -/
theorem Pwm.write_takes (p q : Pwm) (r : PwmReg) (v : Word) (h : p.write r v = .ok q) :
    p.TakesIf (isUg (some (.pwm r, v))) q := by
  cases r <;> simp only [Pwm.write] at h
  case egr =>
    cases h
    simp only [Pwm.TakesIf, isUg, Pwm.writeEgr]
    split <;> simp_all [Pwm.updateEvent]
  case cr1 => simp only [Pwm.writeCr1] at h; split at h <;> cases h; exact ⟨rfl, rfl⟩
  case ccmr => simp only [Pwm.writeCcmr] at h; (repeat' split at h) <;> cases h; exact ⟨rfl, rfl⟩
  case arr => simp only [Pwm.writeArr] at h; split at h <;> cases h; exact ⟨rfl, rfl⟩
  case ccr1 | ccr2 | ccr3 | ccr4 | ccr5 => simp only [Pwm.writeCcr] at h; split at h <;> cases h; exact ⟨rfl, rfl⟩
  all_goals (cases h; exact ⟨rfl, rfl⟩)

/-- What the counter's advance and the repetition do to the active values. -/
theorem Pwm.count_takes (p : Pwm) :
    p.TakesIf ((if p.cms then p.centreAdvance.2 else p.edgeAdvance.2) && p.rep == 0) p.count := by
  have key : ∀ r : Pwm × Bool, r.1.ccr = p.ccr → r.1.psc = p.psc → r.1.ccrAct = p.ccrAct → r.1.pscAct = p.pscAct → r.1.rep = p.rep →
      p.TakesIf (r.2 && p.rep == 0) (if r.2 then r.1.repetition else r.1) := by
    rintro ⟨q, c⟩ h1 h2 h3 h4 h5
    simp only [Pwm.TakesIf, Pwm.repetition] at *
    cases c <;> simp only [Bool.false_and, Bool.true_and, Bool.false_eq_true, if_true, if_false, h5, beq_iff_eq]
    · exact ⟨h3, h4⟩
    · split <;> simp_all [Pwm.updateEvent]
  have hc : ∀ r, (r = p.centreAdvance ∨ r = p.edgeAdvance) →
      r.1.ccr = p.ccr ∧ r.1.psc = p.psc ∧ r.1.ccrAct = p.ccrAct ∧ r.1.pscAct = p.pscAct ∧ r.1.rep = p.rep := by
    rintro r (rfl | rfl) <;> simp only [Pwm.centreAdvance, Pwm.edgeAdvance] <;> (repeat' split) <;> exact ⟨rfl, rfl, rfl, rfl, rfl⟩
  cases hm : p.cms <;> simp only [Pwm.count, hm, Bool.false_eq_true, if_true, if_false]
  · obtain ⟨h1, h2, h3, h4, h5⟩ := hc _ (.inr rfl)
    exact key _ h1 h2 h3 h4 h5
  · obtain ⟨h1, h2, h3, h4, h5⟩ := hc _ (.inl rfl)
    exact key _ h1 h2 h3 h4 h5

/-- A tick is an update event as `Pwm.updatesOnTick` says (41_pwm.md R520, R524, R525). -/
theorem Pwm.tick_takes (p : Pwm) : p.TakesIf p.updatesOnTick p.tick := by
  simp only [Pwm.updatesOnTick, Pwm.tick, Pwm.prescale]
  split
  · split
    · have hc : ({ p with pscCnt := 0 } : Pwm).centreAdvance.2 = p.centreAdvance.2 := by
        simp only [Pwm.centreAdvance]; (repeat' split) <;> rfl
      have he : ({ p with pscCnt := 0 } : Pwm).edgeAdvance.2 = p.edgeAdvance.2 := by
        simp only [Pwm.edgeAdvance]; split <;> rfl
      have := Pwm.count_takes { p with pscCnt := 0 }
      rw [hc, he] at this
      simp only [Bool.true_and, if_true]
      exact this
    · exact ⟨rfl, rfl⟩
  · exact ⟨rfl, rfl⟩

theorem regWrite_takes (s t : State) (r : Reg) (v : Word) (h : s.regWrite r v = .ok t) :
    s.pwm.TakesIf (isUg (some (r, v))) t.pwm := by
  rcases regWrite_ok s t r v h with ⟨q, p, rfl, hp, rfl⟩ | ⟨u, rfl, _, rfl⟩ | ⟨u, q, a, rfl, _, _, rfl⟩ | ⟨c, q, d, rfl, _, rfl⟩ |
    ⟨c, rfl, _, _, rfl⟩ | ⟨q, k, rfl, _, rfl⟩ | ⟨q, x, rfl, _, rfl⟩ | ⟨q, rfl, hq⟩
  · exact Pwm.write_takes _ _ _ _ hp
  case inr.inr.inr.inr.inr.inr.inr =>
    rcases intcWrite_ok s t q v hq with rfl | ⟨_, rfl⟩ | ⟨_, _, rfl⟩ | ⟨_, _, rfl⟩ <;> exact .of_eq rfl rfl
  all_goals exact .of_eq rfl rfl

theorem regRead_pwm (s t : State) (r : Reg) (v : Word) (h : s.regRead r = .value v t) : t.pwm = s.pwm := by
  rcases regRead_value s t r v h with rfl | ⟨_, _, rfl⟩ | ⟨_, _, _, rfl⟩ <;> rfl

theorem hostRead_pwm (s t : State) (n : Size) (a v : Word) (h : (s.hostRead n a).2 = .value v t) :
    t.pwm = s.pwm ∧ t.params = s.params := by
  simp only [State.hostRead] at h
  split at h
  · cases h
  · cases h; exact ⟨rfl, rfl⟩
  · cases h; exact ⟨rfl, rfl⟩
  · exact ⟨regRead_pwm _ _ _ _ h, (regRead_host _ _ _ _ h).params⟩

/-- A bus write of the host takes the values if it is a `UG` write (40_bus.md R411). -/
theorem hostWrite_takes (s t : State) (n : Size) (a v : Word) (h : s.hostWrite n a v = .ok t) :
    s.pwm.TakesIf (isUg ((s.registerAt n a).map fun r => (r, v))) t.pwm := by
  simp only [State.hostWrite] at h
  split at h
  · cases h
  · rename_i off hl
    cases h
    cases n <;> simp only [State.registerAt, hl] <;> exact .of_eq rfl rfl
  · cases h
  · rename_i r l hl
    cases n with
    | b4 => simp only [State.registerAt, hl]; exact regWrite_takes _ _ _ _ h
    | b2 => cases h
    | b1 => cases h

theorem finishRead_pwm (s t : State) (lane : Lane) (r : ReadResult) (hr : ∀ (v : Word) u, r = .value v u → u.pwm = s.pwm)
    (h : Cpu.finishRead s lane r = .done t) : t.pwm = s.pwm := by
  simp only [Cpu.finishRead] at h
  split at h
  · cases h
  · split at h
    · cases h
    · cases h
    · rw [← hr _ _ rfl]
      simp only [State.absorb] at h
      split at h
      · cases h; rfl
      · cases h; rfl
      · split at h
        · cases h; rfl
        · split at h <;> cases h; rfl

/-- A transaction of the host takes the values if it is a `UG` write. -/
theorem transact_takes (s t : State) (x : Transaction) (h : Cpu.transact s x = .done t) :
    s.pwm.TakesIf (isUg (s.transactionStores x)) t.pwm := by
  cases x with
  | rd n a => exact .of_eq rfl (finishRead_pwm s t _ _ (fun v u hv => (hostRead_pwm s u n a v hv).1) h)
  | wr n a d =>
    simp only [Cpu.transact, Cpu.finishWrite] at h
    split at h
    · cases h
    · rename_i u hu
      cases h
      exact hostWrite_takes s u n a d hu

/-- A statement's step takes the values if it is a `UG` write. -/
theorem runStmt_takes (s t : State) (st : Stmt) (h : Cpu.runStmt s st = .done t) : s.pwm.TakesIf (isUg (s.stmtStores st)) t.pwm := by
  have hrd : ∀ n a, Cpu.runRd s n a = .done t → s.pwm.TakesIf false t.pwm := fun n a h => by
    simp only [Cpu.runRd] at h
    split at h
    · cases h
    · exact transact_takes _ _ _ h
  cases st with
  | rd x n a => exact hrd n a h
  | poll a m v => exact hrd .b4 a h
  | wr n a e =>
    simp only [Cpu.runStmt, Cpu.runWr] at h
    simp only [State.stmtStores]
    split at h
    · cases h
    · rename_i x hx
      rw [hx]
      exact transact_takes _ _ _ h
  | wait n => simp only [Cpu.runStmt, Cpu.runWait] at h; split at h <;> cases h <;> exact .of_eq rfl rfl
  | set x e => simp only [Cpu.runStmt, Cpu.runSet] at h; split at h <;> cases h; exact .of_eq rfl rfl
  | br c l =>
    simp only [Cpu.runStmt, Cpu.runBr] at h
    split at h
    · cases h
    · split at h <;> cases h <;> exact .of_eq rfl rfl
  | brFault c code info =>
    simp only [Cpu.runStmt, Cpu.runBrFault] at h
    split at h
    · cases h
    · split at h
      · split at h <;> cases h
      · cases h; exact .of_eq rfl rfl
  | jmp l => cases h; exact .of_eq rfl rfl
  | call i d => cases h
  | ret =>
    simp only [Cpu.runStmt, Cpu.runRet] at h
    split at h <;> cases h
    rename_i hl
    obtain ⟨_, _, _, rfl, _⟩ := leaveHandler_ok _ _ hl
    exact .of_eq rfl rfl
  | halt => simp only [Cpu.runStmt, Cpu.runHalt] at h; split at h <;> cases h; exact .of_eq rfl rfl

/-- Entering expansions only moves the host's position. -/
theorem enterCalls_pwm (depth : Nat) : ∀ (body : Prog) (s : State), (State.enterCalls depth body s).pwm = s.pwm := by
  induction depth with
  | zero => intro body s; rfl
  | succ d ih =>
    intro body s
    simp only [State.enterCalls]
    split
    · rw [ih]; rfl
    · rfl

/-- A step of the host takes the values if it is a `UG` write; one that holds or faults is none. -/
theorem outcome_takes (s t : State) (u : Bool) (r : StmtResult) (hd : ∀ w, r = .done w → s.pwm.TakesIf u w.pwm)
    (hu : u = true → ∃ w, r = .done w) (h : Cpu.outcome s r = .next t) : s.pwm.TakesIf u t.pwm := by
  have stay : (∀ w, r ≠ .done w) → s.pwm.TakesIf u s.pwm := fun hn => by
    cases u
    · exact .refl _
    · exact absurd (hu rfl).choose_spec (hn _)
  cases r with
  | done w => cases h; exact hd _ rfl
  | hold => cases h; exact stay fun _ => nofun
  | fault f => cases h; exact stay fun _ => nofun

theorem isUg_some (r : Option Reg) (v : Word) (h : isUg (r.map fun r => (r, v)) = true) : r = some (.pwm .egr) := by
  cases r with
  | none => cases h
  | some r =>
    cases r with
    | pwm q => cases q <;> first | rfl | cases h
    | _ => cases h

/-- A write of `EGR` is always accepted (41_pwm.md R512). -/
theorem hostWrite_egr (s : State) (n : Size) (a v : Word) (h : s.registerAt n a = some (.pwm .egr)) :
    ∃ t, s.hostWrite n a v = .ok t := by
  simp only [State.registerAt] at h
  split at h
  · rename_i r l hl
    cases h
    simp only [State.hostWrite, hl]
    exact ⟨_, rfl⟩
  · cases h

theorem transact_ug (s : State) (x : Transaction) (h : isUg (s.transactionStores x) = true) :
    (∃ t, Cpu.transact s x = .done t) ∧ ∃ i, decode s.params x = .ok i := by
  cases x with
  | rd n a => cases h
  | wr n a d =>
    have hr := isUg_some _ _ h
    obtain ⟨t, ht⟩ := hostWrite_egr s n a d hr
    refine ⟨⟨t.advance, by simp only [Cpu.transact, Cpu.finishWrite, ht]⟩, ?_⟩
    simp only [State.registerAt] at hr
    split at hr
    · rename_i r l hl
      cases hr
      simp only [decode, hl]
      exact ⟨_, rfl⟩
    · cases hr

theorem runStmt_ug (s : State) (st : Stmt) (h : isUg (s.stmtStores st) = true) : ∃ t, Cpu.runStmt s st = .done t := by
  cases st with
  | wr n a e =>
    simp only [State.stmtStores] at h
    split at h
    · rename_i x hx
      simp only [Cpu.runStmt, Cpu.runWr, hx]
      exact (transact_ug s x h).1
    · cases h
  | _ => cases h

theorem perform_takes (s t : State) (x : Transaction) (h : Cpu.perform s x = .next t) :
    s.pwm.TakesIf (isUg (s.transactionStores x)) t.pwm := by
  simp only [Cpu.perform] at h
  split at h
  · rename_i i hx
    rw [exec_decode _ _ _ hx] at h
    exact outcome_takes _ _ _ _ (fun w hw => transact_takes _ _ _ hw) (fun hu => (transact_ug _ _ hu).1) h
  · rename_i e hx
    cases h
    refine .of_eq (Bool.eq_false_iff.2 fun hu => ?_) rfl
    obtain ⟨i, hi⟩ := (transact_ug _ _ hu).2
    rw [hi] at hx
    cases hx

theorem performRead_takes (s t : State) (n : Size) (a : Expr) (h : Cpu.performRead s n a = .next t) :
    s.pwm.TakesIf false t.pwm := by
  simp only [Cpu.performRead] at h
  split at h
  · cases h; exact .refl _
  · split at h
    · cases h; exact .refl _
    · exact perform_takes _ _ _ h

/-- The host's statement step (40_bus.md R403). -/
theorem hostStatement_takes (s t : State) (h : Cpu.hostStatement s = .next t) : s.pwm.TakesIf (isUg s.hostStores) t.pwm := by
  simp only [Cpu.hostStatement] at h
  simp only [State.hostStores]
  split at h
  · rename_i hi; cases h; rw [if_pos hi]; exact .refl _
  · rename_i hi
    rw [if_neg hi]
    have hst : ∀ st, Cpu.outcome s (Cpu.runStmt s st) = .next t → s.pwm.TakesIf (isUg (s.stmtStores st)) t.pwm :=
      fun st h => outcome_takes _ _ _ _ (fun w hw => runStmt_takes _ _ _ hw) (runStmt_ug _ _) h
    split at h <;> rename_i hc <;> simp only [State.atStatement, hc, Option.bind]
    · exact hst .halt h
    · exact performRead_takes _ _ _ _ h
    · exact performRead_takes _ _ _ _ h
    · simp only [Cpu.performWrite] at h
      simp only [State.stmtStores]
      split at h <;> rename_i hx <;> rw [hx]
      · cases h; exact .refl _
      · exact perform_takes _ _ _ h
    · rename_i i d
      split at h <;> rename_i hi
      · rw [exec_operation i s hi] at h
        have hd : s.callDests = d := by simp only [State.callDests, hc]
        rw [hd] at h
        rw [if_pos hi]
        have hp := enterCalls_pwm 2 (expansion s.params i d) s
        simp only [Cpu.runCall] at h
        split at h <;> rename_i hc' <;> rw [hc']
        · exact outcome_takes _ _ _ _ (fun w hw => hp ▸ runStmt_takes _ _ _ hw) (runStmt_ug _ _) h
        · cases h; exact .refl _
      · cases h; rw [if_neg hi, hc]; exact .refl _
    all_goals exact hst _ h

/-- The write of a beat takes the values if it is a `UG` write (40_bus.md R412). -/
theorem dmaBusWrite_takes (u : State) (n : Size) (a v : Word) :
    match u.dmaBusWrite n a v with
    | .done w => u.pwm.TakesIf (isUg ((u.registerAt n a).map fun r => (r, v))) w.pwm
    | .error => isUg ((u.registerAt n a).map fun r => (r, v)) = false
    | .fault _ => isUg ((u.registerAt n a).map fun r => (r, v)) = false := by
  simp only [State.dmaBusWrite, State.registerAt]
  cases hl : locate u.params n a with
  | error e => cases n <;> rfl
  | ok g =>
    cases g with
    | ram off => cases n <;> exact .refl _
    | trim off => cases n <;> rfl
    | reg r l =>
      cases n with
      | b1 => rfl
      | b2 => rfl
      | b4 =>
        simp only [Option.map_some]
        cases hw : u.regWrite r v with
        | ok w => exact regWrite_takes _ _ _ _ hw
        | error f =>
          refine Bool.eq_false_iff.2 fun hu => ?_
          cases isUg_some (some r) v hu
          cases hw

/-- The transactions of a beat take the values if the write is a `UG` write of what the read gave (43_dma.md R730). -/
theorem moveElement_takes (s : State) (c : Fin 16) (n : Size) (src dst p m : Word) :
    s.pwm.TakesIf (isUg (match s.dmaBusRead n src with
      | .value v _ => (s.registerAt n dst).map fun r => (r, v)
      | _ => none)) ((s.moveElement c n src dst p m).getD s).pwm := by
  simp only [State.moveElement]
  cases hr : s.dmaBusRead n src with
  | hold => exact .refl _
  | error => exact .refl _
  | value v u =>
    obtain ⟨hp, hq⟩ : u.pwm = s.pwm ∧ u.params = s.params := by
      simp only [State.dmaBusRead] at hr
      split at hr <;> cases hr
      exact hostRead_pwm _ _ _ _ _ (by assumption)
    have hreg : s.registerAt n dst = u.registerAt n dst := by simp only [State.registerAt, hq]
    have hw := dmaBusWrite_takes u n dst v
    simp only [hreg]
    rw [← hp]
    cases hd : u.dmaBusWrite n dst v with
    | done w => rw [hd] at hw; exact hw
    | error => rw [hd] at hw; exact .of_eq hw rfl
    | fault f => rw [hd] at hw; exact .of_eq hw hp.symm

/-- A write inside RAM reaches no register (40_bus.md R412). -/
theorem registerAt_ram (s : State) (n : Size) (a : Word)
    (h : insideRegion s.params.ramBase s.params.ramSize a.toNat n.bytes = true) : s.registerAt n a = none := by
  have hl : ∀ r l, locate s.params n a ≠ .ok (.reg r l) := fun r l => by
    simp only [locate, h, if_true]
    split <;> nofun
  simp only [State.registerAt]
  split
  · exact absurd (by assumption) (hl _ _)
  · rfl

/-- The lowest requesting channel's beat (43_dma.md R730). -/
theorem beatStep_takes (s : State) : s.pwm.TakesIf (isUg s.beatStores) (s.moveOrStay .beat).pwm := by
  simp only [State.moveOrStay, State.agentStep, State.beatStep, State.beatStores]
  cases s.beatChannel with
  | none => exact .refl _
  | some c =>
    simp only [State.beatOf]
    cases hr : insideRegion s.params.ramBase s.params.ramSize s.dma[c].mptr.toNat (elementSize s.dma[c].psize).bytes
    · rw [Bool.and_false]; exact .refl _
    · cases hd : s.dma[c].dir
      · have hm := moveElement_takes s c (elementSize s.dma[c].psize) s.dma[c].pptr s.dma[c].mptr s.dma[c].pptr s.dma[c].mptr
        rw [registerAt_ram s _ _ hr] at hm
        split at hm <;> exact hm
      · exact moveElement_takes s c (elementSize s.dma[c].psize) s.dma[c].mptr s.dma[c].pptr s.dma[c].pptr s.dma[c].mptr

/-- The steps of the agents that write no register by a transaction. -/
theorem agentStep_takes (s t : State) (m : Move) (hm : m ≠ .beat) (h : s.agentStep m = some t) :
    s.pwm.TakesIf (m == .tick && s.pwm.updatesOnTick) t.pwm := by
  rcases agentStep_some s t m hm h with ⟨rfl, k, _, rfl⟩ | ⟨rfl, rfl⟩ | ⟨u, rfl, _, rfl⟩ | ⟨u, rfl, _, rfl⟩ | ⟨u, rfl, _, rfl⟩ |
    ⟨u, rfl, _, rfl⟩ | ⟨u, rfl, _, _, rfl⟩ | ⟨rfl, _, rfl⟩ | ⟨c, rfl, _, rfl⟩ | ⟨rfl, k, _, rfl⟩
  case inr.inl => exact s.pwm.tick_takes
  all_goals exact .refl _

/-- A step copies the preloaded compare values and prescaler exactly if it is an update event (41_pwm.md R524). -/
theorem step_takes (s t : State) (h : step s = .next t) : s.pwm.TakesIf s.updates t.pwm := by
  simp only [step] at h
  split at h
  · cases h
  · simp only [State.updates]
    split at h <;> rename_i hm
    · have hs : s.stores = s.hostStores := by simp only [State.stores, hm]
      rw [hs, hm]
      cases hh : Cpu.hostStatement s with
      | next u => rw [hh] at h; cases h; exact hostStatement_takes s u hh
      | fault r => rw [hh] at h; cases h
      | refused r => rw [hh] at h; cases h
    · cases h
      by_cases hb : s.turn = .beat
      · have hs : s.stores = s.beatStores := by simp only [State.stores, hb]
        rw [hs, hb]
        exact beatStep_takes s
      · have hs : isUg s.stores = false := by
          simp only [State.stores]
          rfl
        rw [hs, Bool.or_false]
        simp only [State.moveOrStay]
        cases ha : s.agentStep s.turn with
        | none =>
          refine .of_eq ?_ rfl
          cases ht : s.turn <;> first | rfl | (rw [ht] at ha; cases ha)
        | some u => exact agentStep_takes s u _ hb ha

end Sys2Proof.Machine
end

