-- ==== Sys2Proof/Tests/Slice0.lean ====
section
/-! SUPPORT. Tests: ill-formed terms, a word for every row of the opcode table that has one, values of the worked examples and vectors
of 95_test_vectors.md (each test names the section or the vector), and for each statement that has hypotheses a state and operands
that meet them. Every expected value is the spec's. -/
namespace Sys2Proof.Tests
open Sys2Proof Sys2Proof.Machine

/-! ### Helpers -/

/-- The state an outcome holds. -/
def after : Host.Outcome State Fault Refusal → Option State
  | .next t => some t
  | .fault _ => none
  | .refused _ => none

/-- s with one statement as the background program, at position 0. -/
def running (s : State) (st : Stmt) : State := { s with bg := Activity.background [st] }

/-- One step of the host at a statement. -/
def doStmt (s : State) (st : Stmt) : Option State := after (Cpu.hostStatement (running s st))

/-- The value a `RD` of an address gives. -/
def readAt (s : State) (n : Size) (a : Nat) : Option Word :=
  (doStmt s (.rd (.user 0) n (.num a))).bind fun t => findLocal t.top.loc (.user 0)

/-- The state after a `WR`. -/
def writeAt (s : State) (n : Size) (a v : Nat) : Option State := doStmt s (.wr n (.num a) (.num v))

/-- The fault record a state holds. -/
def faultOf (o : Option State) : Option (FaultCode × FaultInfo) := (o.bind (·.fault)).map fun f => (f.code, f.info)

/-- The default parameters, with values of our own for the OPEN ones (00_scope.md R8). -/
def par : Params :=
  { Params.default with vrefCalMin := 1400, vrefCalMax := 1800, cordicTol := 4, pollLimit := none, settle := 3 }

/-- Reset with these parameters, a known trim halfword, and a host statement as the first move. -/
def base : State := State.launch par 0x0672#16 [] (Vector.replicate 17 none) .statement

/-- Reset, with 0x11223344 written at the start of RAM (95_test_vectors.md section 3). -/
def ramBase : State := base.memWrite .b4 0x20000000 0x11223344#32

/-- The PWM unit of trace A before its first tick (95_test_vectors.md section 2.2). -/
def traceA : Pwm := { Pwm.reset with
  cen := true, cms := true, arr := 3, rcr := 1, rep := 1, ccmr := 0x3EEE, ccr := #v[2, 0, 3, 2, 1], ccrAct := #v[2, 0, 3, 2, 1]
  cr2 := 0xF, dtg := 1, ccer := 0x3F, moe := true, ossi := true }

/-- Base with a PWM unit. -/
def withPwm (p : Pwm) : State := { base with pwm := p }

/-- Unit 1 with its regulator READY and not calibrating (after AD8). -/
def calibrated : Adc := { Adc.reset with advregen := true, deeppwd := false, vreg := .ready }

/-- Unit 1 enabled (after AD12). -/
def enabledAdc : Adc := { calibrated with aden := true, en := .ready, isr := { AdcFlags.clear with adrdy := true } }

/-- Unit 1 enabled and configured as AD16 leaves it, regular and injected started (after AD14). -/
def startedAdc : Adc := { enabledAdc with
  dmaen := true, ovrmod := true, cont := true, smpr1 := 0x1F8, smpr2 := 0x1C0000, sq := #v[16, 0, 0, 0], jsqLen := 1
  jexten := 1, jsq := #v[1, 2, 0, 0], ier := { AdcFlags.clear with jeos := true }, adstart := true, jadstart := true }

/-- Base with unit 1. -/
def withAdc (a : Adc) : State := { base with adc1 := a }

/-- Channel 0 as in 95_test_vectors.md section 5.1, enabled. -/
def channel0 : DmaChannel := { DmaChannel.reset with
  en := true, cfg := 0x2D1, cndtr := 4, cpar := 0x40000440, cmar := 0x20000100, init := 4, pptr := 0x40000440, mptr := 0x20000100 }

/-- Channel 0 set to a value, its router register to 1. -/
def withDma (d : DmaChannel) : State :=
  { base with dma := base.dma.set 0 d, dmamux := base.dmamux.set 0 1 }

/-- The CORDIC after `CORDIC_INIT`, idle: CSR 0x00080061. -/
def cordicIdle : Cordic := { Cordic.reset with func := 1, precision := 6, nres := true }

/-- The same with two results waiting (after CO6). -/
def cordicDone : Cordic := { cordicIdle with res1 := 0x5A827999, res2 := 0x5A827999, left := 2 }

/-- Base with a CORDIC. -/
def withCordic (k : Cordic) : State := { base with cordic := k }

/-- A handler program of a line. -/
def someVec : Vector (Option Prog) 17 := ((Vector.replicate 17 none).set 0 (some [.ret])).set 1 (some [.ret]) |>.set 2 (some [.ret])

/-- The handler of a line running above the background, its claim not yet ended. -/
def inHandler (k : Line) (st : Stmt) : State := { base with
  vec := someVec
  intc := ⟨true, 7, [k]⟩
  handlers := [⟨[st], 0, [], [], Line.level k, some k, 0, 0⟩] }

/-- GEN on, IER 7, line 0 asserted by unit 1, and an entry the next move (95_test_vectors.md IN3, IN4). -/
def line0Asserted : State := { base with
  turn := .entry
  vec := someVec
  intc := ⟨true, 7, []⟩
  adc1 := { startedAdc with isr := { startedAdc.isr with jeos := true } } }

/-! ### Ill-formed terms, one for each check of WellFormed -/

theorem test_illFormed_ramRd16 : (Instr.ramRd16 1).wf = false ∧ (Instr.ramRd16 2).wf = true := by decide
theorem test_illFormed_ramRd32 : (Instr.ramRd32 2).wf = false ∧ (Instr.ramRd32 4).wf = true := by decide
theorem test_illFormed_ramWr16 : (Instr.ramWr16 0x7FFF 0).wf = false ∧ (Instr.ramWr16 0x7FFE 0).wf = true := by decide
theorem test_illFormed_ramWr32 : (Instr.ramWr32 0x7FFE 0).wf = false ∧ (Instr.ramWr32 0x7FFC 0).wf = true := by decide
theorem test_illFormed_oneShot_count :
    (Instr.adcOneShot .one (.num 1) (.num 0) (.num 7)).wf = false ∧
    (Instr.adcOneShot .one (.num 1) (.num 1) (.num 7)).wf = true ∧
    (Instr.adcOneShot .one (.num 1) (.num 4294967296) (.num 7)).wf = true := by decide
theorem test_illFormed_oneShot_sampling :
    (Instr.adcOneShot .one (.num 1) (.num 64) (.num 8)).wf = false ∧
    (Instr.adcOneShot .one (.num 1) (.num 64) (.num 0)).wf = true := by decide
theorem test_illFormed_label :
    Prog.wf [.jmp 2] = false ∧ Prog.wf [.br (.num 1) 2] = false ∧ Prog.wf [.jmp 1] = true := by decide
theorem test_illFormed_call :
    Prog.wf [.call (.pwmArrWr 1) []] = false ∧ Prog.wf [.call (.adcOneShot .one (.num 1) (.num 0) (.num 7)) []] = false ∧
    Prog.wf [.call .cordicInit []] = true := by decide

/-- The reference programs (60_exceptions.md R1040, R1041; 70_reset_and_hazards.md R1111) are well formed, and so is every operation's list
that holds a label or a CALL. -/
theorem test_programs_wf :
    Prog.wf (progBg par) = true ∧ Prog.wf (injectedHandler par) = true ∧ Prog.wf (transferHandler par 15) = true ∧
    Prog.wf (bodyPwmConfigure par (.num 2)) = true ∧ Prog.wf (bodyAdcEnable par .two) = true ∧
    Prog.wf (bodyAdcOneShot par .one (.num 1) (.num 1) (.num 7) (.user 0)) = true ∧ Prog.wf (bodyAdcVrefCalibrate par (.user 0)) = true ∧
    Prog.wf (bodyAdcReferenceVoltage par (.user 0)) = true ∧ Prog.wf (bodyAdcGetAverage par .two (.num 18) (.user 0)) = true ∧
    Prog.wf (bodyDmaStart par (.num 0) (.num 0) (.num 1)) = true ∧ Prog.wf (bodyCordicCompute par (.num 0) (.user 0) (.user 1)) = true := by
  decide

/-! ### Decoding: every row of format RDn and WRn -/

/-- Words of the PWM rows of spec/opcode_table.json: address from `match`, size from `format` (30_encoding.md R301, R303). -/
theorem test_decode_pwm :
    decode par (.rd .b4 0x40000000#32) = .ok (.pwmCr1Rd .word) ∧
    decode par (.wr .b4 0x40000000#32 0x3C6EF372#32) = .ok (.pwmCr1Wr 0x3C6EF372#32) ∧
    decode par (.rd .b1 0x40000005#32) = .ok (.pwmCr2Rd .byte1) ∧
    decode par (.wr .b4 0x40000004#32 0x78DDE6E4#32) = .ok (.pwmCr2Wr 0x78DDE6E4#32) ∧
    decode par (.rd .b4 0x40000008#32) = .ok (.pwmSrRd .word) ∧
    decode par (.wr .b4 0x40000008#32 0xB54CDA56#32) = .ok (.pwmSrWr 0xB54CDA56#32) ∧
    decode par (.rd .b4 0x4000000C#32) = .ok (.pwmEgrRd .word) ∧
    decode par (.wr .b4 0x4000000C#32 0xF1BBCDC8#32) = .ok (.pwmEgrWr 0xF1BBCDC8#32) ∧
    decode par (.rd .b2 0x40000010#32) = .ok (.pwmCcmrRd .half0) ∧
    decode par (.wr .b4 0x40000010#32 0x2E2AC13A#32) = .ok (.pwmCcmrWr 0x2E2AC13A#32) ∧
    decode par (.rd .b4 0x40000014#32) = .ok (.pwmCcerRd .word) ∧
    decode par (.wr .b4 0x40000014#32 0x6A99B4AC#32) = .ok (.pwmCcerWr 0x6A99B4AC#32) ∧
    decode par (.rd .b4 0x40000018#32) = .ok (.pwmCntRd .word) ∧
    decode par (.wr .b4 0x40000018#32 0xA708A81E#32) = .ok (.pwmCntWr 0xA708A81E#32) ∧
    decode par (.rd .b1 0x4000001D#32) = .ok (.pwmPscRd .byte1) ∧
    decode par (.wr .b4 0x4000001C#32 0xE3779B90#32) = .ok (.pwmPscWr 0xE3779B90#32) ∧
    decode par (.rd .b4 0x40000020#32) = .ok (.pwmArrRd .word) ∧
    decode par (.wr .b4 0x40000020#32 0x1FE68F02#32) = .ok (.pwmArrWr 0x1FE68F02#32) ∧
    decode par (.rd .b4 0x40000024#32) = .ok (.pwmRcrRd .word) ∧
    decode par (.wr .b4 0x40000024#32 0x5C558274#32) = .ok (.pwmRcrWr 0x5C558274#32) ∧
    decode par (.rd .b2 0x40000028#32) = .ok (.pwmCcr1Rd .half0) ∧
    decode par (.wr .b4 0x40000028#32 0x98C475E6#32) = .ok (.pwmCcr1Wr 0x98C475E6#32) ∧
    decode par (.rd .b4 0x4000002C#32) = .ok (.pwmCcr2Rd .word) ∧
    decode par (.wr .b4 0x4000002C#32 0xD5336958#32) = .ok (.pwmCcr2Wr 0xD5336958#32) ∧
    decode par (.rd .b4 0x40000030#32) = .ok (.pwmCcr3Rd .word) ∧
    decode par (.wr .b4 0x40000030#32 0x11A25CCA#32) = .ok (.pwmCcr3Wr 0x11A25CCA#32) ∧
    decode par (.rd .b1 0x40000035#32) = .ok (.pwmCcr4Rd .byte1) ∧
    decode par (.wr .b4 0x40000034#32 0x4E11503C#32) = .ok (.pwmCcr4Wr 0x4E11503C#32) ∧
    decode par (.rd .b4 0x40000038#32) = .ok (.pwmCcr5Rd .word) ∧
    decode par (.wr .b4 0x40000038#32 0x8A8043AE#32) = .ok (.pwmCcr5Wr 0x8A8043AE#32) ∧
    decode par (.rd .b4 0x4000003C#32) = .ok (.pwmBdtrRd .word) ∧
    decode par (.wr .b4 0x4000003C#32 0xC6EF3720#32) = .ok (.pwmBdtrWr 0xC6EF3720#32) := by decide

/-- Words of the ADC1 rows of spec/opcode_table.json: address from `match`, size from `format` (30_encoding.md R301, R303). -/
theorem test_decode_adc1 :
    decode par (.rd .b2 0x40000400#32) = .ok (.adc1IsrRd .half0) ∧
    decode par (.wr .b4 0x40000400#32 0x035E2A92#32) = .ok (.adc1IsrWr 0x035E2A92#32) ∧
    decode par (.rd .b4 0x40000404#32) = .ok (.adc1IerRd .word) ∧
    decode par (.wr .b4 0x40000404#32 0x3FCD1E04#32) = .ok (.adc1IerWr 0x3FCD1E04#32) ∧
    decode par (.rd .b4 0x40000408#32) = .ok (.adc1CrRd .word) ∧
    decode par (.wr .b4 0x40000408#32 0x7C3C1176#32) = .ok (.adc1CrWr 0x7C3C1176#32) ∧
    decode par (.rd .b1 0x4000040D#32) = .ok (.adc1CfgrRd .byte1) ∧
    decode par (.wr .b4 0x4000040C#32 0xB8AB04E8#32) = .ok (.adc1CfgrWr 0xB8AB04E8#32) ∧
    decode par (.rd .b4 0x40000414#32) = .ok (.adc1Smpr1Rd .word) ∧
    decode par (.wr .b4 0x40000414#32 0xF519F85A#32) = .ok (.adc1Smpr1Wr 0xF519F85A#32) ∧
    decode par (.rd .b4 0x40000418#32) = .ok (.adc1Smpr2Rd .word) ∧
    decode par (.wr .b4 0x40000418#32 0x3188EBCC#32) = .ok (.adc1Smpr2Wr 0x3188EBCC#32) ∧
    decode par (.rd .b2 0x40000430#32) = .ok (.adc1Sqr1Rd .half0) ∧
    decode par (.wr .b4 0x40000430#32 0x6DF7DF3E#32) = .ok (.adc1Sqr1Wr 0x6DF7DF3E#32) ∧
    decode par (.rd .b4 0x40000440#32) = .ok (.adc1DrRd .word) ∧
    decode par (.wr .b4 0x40000440#32 0xAA66D2B0#32) = .ok (.adc1DrWr 0xAA66D2B0#32) ∧
    decode par (.rd .b4 0x4000044C#32) = .ok (.adc1JsqrRd .word) ∧
    decode par (.wr .b4 0x4000044C#32 0xE6D5C622#32) = .ok (.adc1JsqrWr 0xE6D5C622#32) ∧
    decode par (.rd .b1 0x40000481#32) = .ok (.adc1Jdr1Rd .byte1) ∧
    decode par (.wr .b4 0x40000480#32 0x2344B994#32) = .ok (.adc1Jdr1Wr 0x2344B994#32) ∧
    decode par (.rd .b4 0x40000484#32) = .ok (.adc1Jdr2Rd .word) ∧
    decode par (.wr .b4 0x40000484#32 0x5FB3AD06#32) = .ok (.adc1Jdr2Wr 0x5FB3AD06#32) ∧
    decode par (.rd .b4 0x40000488#32) = .ok (.adc1Jdr3Rd .word) ∧
    decode par (.wr .b4 0x40000488#32 0x9C22A078#32) = .ok (.adc1Jdr3Wr 0x9C22A078#32) ∧
    decode par (.rd .b2 0x4000048C#32) = .ok (.adc1Jdr4Rd .half0) ∧
    decode par (.wr .b4 0x4000048C#32 0xD89193EA#32) = .ok (.adc1Jdr4Wr 0xD89193EA#32) := by decide

/-- Words of the ADC2 rows of spec/opcode_table.json: address from `match`, size from `format` (30_encoding.md R301, R303). -/
theorem test_decode_adc2 :
    decode par (.rd .b4 0x40000800#32) = .ok (.adc2IsrRd .word) ∧
    decode par (.wr .b4 0x40000800#32 0x1500875C#32) = .ok (.adc2IsrWr 0x1500875C#32) ∧
    decode par (.rd .b4 0x40000804#32) = .ok (.adc2IerRd .word) ∧
    decode par (.wr .b4 0x40000804#32 0x516F7ACE#32) = .ok (.adc2IerWr 0x516F7ACE#32) ∧
    decode par (.rd .b1 0x40000809#32) = .ok (.adc2CrRd .byte1) ∧
    decode par (.wr .b4 0x40000808#32 0x8DDE6E40#32) = .ok (.adc2CrWr 0x8DDE6E40#32) ∧
    decode par (.rd .b4 0x4000080C#32) = .ok (.adc2CfgrRd .word) ∧
    decode par (.wr .b4 0x4000080C#32 0xCA4D61B2#32) = .ok (.adc2CfgrWr 0xCA4D61B2#32) ∧
    decode par (.rd .b4 0x40000814#32) = .ok (.adc2Smpr1Rd .word) ∧
    decode par (.wr .b4 0x40000814#32 0x06BC5524#32) = .ok (.adc2Smpr1Wr 0x06BC5524#32) ∧
    decode par (.rd .b2 0x40000818#32) = .ok (.adc2Smpr2Rd .half0) ∧
    decode par (.wr .b4 0x40000818#32 0x432B4896#32) = .ok (.adc2Smpr2Wr 0x432B4896#32) ∧
    decode par (.rd .b4 0x40000830#32) = .ok (.adc2Sqr1Rd .word) ∧
    decode par (.wr .b4 0x40000830#32 0x7F9A3C08#32) = .ok (.adc2Sqr1Wr 0x7F9A3C08#32) ∧
    decode par (.rd .b4 0x40000840#32) = .ok (.adc2DrRd .word) ∧
    decode par (.wr .b4 0x40000840#32 0xBC092F7A#32) = .ok (.adc2DrWr 0xBC092F7A#32) ∧
    decode par (.rd .b1 0x4000084D#32) = .ok (.adc2JsqrRd .byte1) ∧
    decode par (.wr .b4 0x4000084C#32 0xF87822EC#32) = .ok (.adc2JsqrWr 0xF87822EC#32) ∧
    decode par (.rd .b4 0x40000880#32) = .ok (.adc2Jdr1Rd .word) ∧
    decode par (.wr .b4 0x40000880#32 0x34E7165E#32) = .ok (.adc2Jdr1Wr 0x34E7165E#32) ∧
    decode par (.rd .b4 0x40000884#32) = .ok (.adc2Jdr2Rd .word) ∧
    decode par (.wr .b4 0x40000884#32 0x715609D0#32) = .ok (.adc2Jdr2Wr 0x715609D0#32) ∧
    decode par (.rd .b2 0x40000888#32) = .ok (.adc2Jdr3Rd .half0) ∧
    decode par (.wr .b4 0x40000888#32 0xADC4FD42#32) = .ok (.adc2Jdr3Wr 0xADC4FD42#32) ∧
    decode par (.rd .b4 0x4000088C#32) = .ok (.adc2Jdr4Rd .word) ∧
    decode par (.wr .b4 0x4000088C#32 0xEA33F0B4#32) = .ok (.adc2Jdr4Wr 0xEA33F0B4#32) := by decide

/-- Words of the DMA rows of spec/opcode_table.json: address from `match`, size from `format` (30_encoding.md R301, R303). -/
theorem test_decode_dma :
    decode par (.rd .b4 0x40000CA0#32) = .ok (.dmaCcrRd 5 .word) ∧
    decode par (.wr .b4 0x40000CC0#32 0x26A2E426#32) = .ok (.dmaCcrWr 6 0x26A2E426#32) ∧
    decode par (.rd .b1 0x40000CE5#32) = .ok (.dmaCndtrRd 7 .byte1) ∧
    decode par (.wr .b4 0x40000D04#32 0x6311D798#32) = .ok (.dmaCndtrWr 8 0x6311D798#32) ∧
    decode par (.rd .b4 0x40000D28#32) = .ok (.dmaCparRd 9 .word) ∧
    decode par (.wr .b4 0x40000D48#32 0x9F80CB0A#32) = .ok (.dmaCparWr 10 0x9F80CB0A#32) ∧
    decode par (.rd .b4 0x40000D6C#32) = .ok (.dmaCmarRd 11 .word) ∧
    decode par (.wr .b4 0x40000D8C#32 0xDBEFBE7C#32) = .ok (.dmaCmarWr 12 0xDBEFBE7C#32) ∧
    decode par (.rd .b2 0x40000DB0#32) = .ok (.dmaCisrRd 13 .half0) ∧
    decode par (.wr .b4 0x40000DD0#32 0x185EB1EE#32) = .ok (.dmaCisrWr 14 0x185EB1EE#32) ∧
    decode par (.rd .b4 0x40000DF4#32) = .ok (.dmaCifcrRd 15 .word) ∧
    decode par (.wr .b4 0x40000C14#32 0x54CDA560#32) = .ok (.dmaCifcrWr 0 0x54CDA560#32) := by decide

/-- Words of the DMAMUX rows of spec/opcode_table.json: address from `match`, size from `format` (30_encoding.md R301, R303). -/
theorem test_decode_dmamux :
    decode par (.rd .b4 0x40001004#32) = .ok (.dmamuxCxcrRd 1 .word) ∧
    decode par (.wr .b4 0x40001008#32 0x913C98D2#32) = .ok (.dmamuxCxcrWr 2 0x913C98D2#32) := by decide

/-- Words of the CORDIC rows of spec/opcode_table.json: address from `match`, size from `format` (30_encoding.md R301, R303). -/
theorem test_decode_cordic :
    decode par (.rd .b1 0x40001401#32) = .ok (.cordicCsrRd .byte1) ∧
    decode par (.wr .b4 0x40001400#32 0xCDAB8C44#32) = .ok (.cordicCsrWr 0xCDAB8C44#32) ∧
    decode par (.rd .b4 0x40001404#32) = .ok (.cordicWdataRd .word) ∧
    decode par (.wr .b4 0x40001404#32 0x0A1A7FB6#32) = .ok (.cordicWdataWr 0x0A1A7FB6#32) ∧
    decode par (.rd .b4 0x40001408#32) = .ok (.cordicRdataRd .word) ∧
    decode par (.wr .b4 0x40001408#32 0x46897328#32) = .ok (.cordicRdataWr 0x46897328#32) := by decide

/-- Words of the XFORM rows of spec/opcode_table.json: address from `match`, size from `format` (30_encoding.md R301, R303). -/
theorem test_decode_xform :
    decode par (.rd .b2 0x40001800#32) = .ok (.xformCtrlRd .half0) ∧
    decode par (.wr .b4 0x40001800#32 0xFFFFFFF8#32) = .ok (.xformCtrlWrNop 0x1FFFFFFF#29) ∧
    decode par (.wr .b4 0x40001800#32 0xFFFFFFF9#32) = .ok (.xformCtrlWrClarke 0x1FFFFFFF#29) ∧
    decode par (.wr .b4 0x40001800#32 0xFFFFFFFA#32) = .ok (.xformCtrlWrPark 0x1FFFFFFF#29) ∧
    decode par (.wr .b4 0x40001800#32 0xFFFFFFFB#32) = .ok (.xformCtrlWrIpark 0x1FFFFFFF#29) ∧
    decode par (.wr .b4 0x40001800#32 0xFFFFFFFC#32) = .ok (.xformCtrlWrSvpwm 0x1FFFFFFF#29) ∧
    decode par (.wr .b4 0x40001800#32 0xFFFFFFFD#32) = .ok (.xformCtrlWrClarkePark 0x1FFFFFFF#29) ∧
    decode par (.rd .b4 0x40001810#32) = .ok (.xformIn0Rd .word) ∧
    decode par (.wr .b4 0x40001810#32 0xD67CBAA9#32) = .ok (.xformIn0Wr 0xD67CBAA9#32) ∧
    decode par (.rd .b1 0x40001817#32) = .ok (.xformIn1Rd .byte3) ∧
    decode par (.wr .b4 0x40001814#32 0x12EBAE1B#32) = .ok (.xformIn1Wr 0x12EBAE1B#32) ∧
    decode par (.rd .b4 0x40001818#32) = .ok (.xformIn2Rd .word) ∧
    decode par (.wr .b4 0x40001818#32 0x4F5AA18D#32) = .ok (.xformIn2Wr 0x4F5AA18D#32) ∧
    decode par (.rd .b4 0x4000181C#32) = .ok (.xformIn3Rd .word) ∧
    decode par (.wr .b4 0x4000181C#32 0x8BC994FF#32) = .ok (.xformIn3Wr 0x8BC994FF#32) ∧
    decode par (.rd .b2 0x40001822#32) = .ok (.xformOut0Rd .half1) ∧
    decode par (.wr .b4 0x40001820#32 0xC8388871#32) = .ok (.xformOut0Wr 0xC8388871#32) ∧
    decode par (.rd .b4 0x40001824#32) = .ok (.xformOut1Rd .word) ∧
    decode par (.wr .b4 0x40001824#32 0x04A77BE3#32) = .ok (.xformOut1Wr 0x04A77BE3#32) ∧
    decode par (.rd .b4 0x40001828#32) = .ok (.xformOut2Rd .word) ∧
    decode par (.wr .b4 0x40001828#32 0x41166F55#32) = .ok (.xformOut2Wr 0x41166F55#32) ∧
    decode par (.rd .b1 0x4000182F#32) = .ok (.xformOut3Rd .byte3) ∧
    decode par (.wr .b4 0x4000182C#32 0x7D8562C7#32) = .ok (.xformOut3Wr 0x7D8562C7#32) := by decide

/-- Words of the INTC rows of spec/opcode_table.json: address from `match`, size from `format` (30_encoding.md R301, R303). -/
theorem test_decode_intc :
    decode par (.rd .b4 0x40001C00#32) = .ok (.intcCtrlRd .word) ∧
    decode par (.wr .b4 0x40001C00#32 0xB9F45639#32) = .ok (.intcCtrlWr 0xB9F45639#32) ∧
    decode par (.rd .b4 0x40001C04#32) = .ok (.intcIerRd .word) ∧
    decode par (.wr .b4 0x40001C04#32 0xF66349AB#32) = .ok (.intcIerWr 0xF66349AB#32) ∧
    decode par (.rd .b2 0x40001C0A#32) = .ok (.intcIprRd .half1) ∧
    decode par (.wr .b4 0x40001C08#32 0x32D23D1D#32) = .ok (.intcIprWr 0x32D23D1D#32) ∧
    decode par (.rd .b4 0x40001C0C#32) = .ok (.intcIabrRd .word) ∧
    decode par (.wr .b4 0x40001C0C#32 0x6F41308F#32) = .ok (.intcIabrWr 0x6F41308F#32) ∧
    decode par (.rd .b4 0x40001C10#32) = .ok (.intcCurpriRd .word) ∧
    decode par (.wr .b4 0x40001C10#32 0xABB02401#32) = .ok (.intcCurpriWr 0xABB02401#32) ∧
    decode par (.rd .b1 0x40001C17#32) = .ok (.intcEoiRd .byte3) ∧
    decode par (.wr .b4 0x40001C14#32 0xE81F1773#32) = .ok (.intcEoiWr 0xE81F1773#32) ∧
    decode par (.rd .b4 0x40001C18#32) = .ok (.intcActiveRd .word) ∧
    decode par (.wr .b4 0x40001C18#32 0x248E0AE5#32) = .ok (.intcActiveWr 0x248E0AE5#32) := by decide

/-- Words of the MEM rows of spec/opcode_table.json: address from `match`, size from `format` (30_encoding.md R301, R303). -/
theorem test_decode_mem :
    decode par (.rd .b1 0x20000003#32) = .ok (.ramRd8 0x3#32) ∧
    decode par (.rd .b2 0x20000006#32) = .ok (.ramRd16 0x6#32) ∧
    decode par (.rd .b4 0x20007FFC#32) = .ok (.ramRd32 0x7FFC#32) ∧
    decode par (.wr .b1 0x20000003#32 0xA1B2C3D4#32) = .ok (.ramWr8 0x3#32 0xA1B2C3D4#32) ∧
    decode par (.wr .b2 0x20000006#32 0xA1B2C3D4#32) = .ok (.ramWr16 0x6#32 0xA1B2C3D4#32) ∧
    decode par (.wr .b4 0x20007FFC#32 0xA1B2C3D4#32) = .ok (.ramWr32 0x7FFC#32 0xA1B2C3D4#32) ∧
    decode par (.rd .b1 0x1FFF75AB#32) = .ok (.trimRd8 1#1) ∧
    decode par (.rd .b2 0x1FFF75AA#32) = .ok (.trimRd16) := by decide

/-! ### The bus and memory (95_test_vectors.md section 3) -/

theorem test_ram_littleEndian :
    readAt ramBase .b1 0x20000000 = some 0x44#32 ∧ readAt ramBase .b1 0x20000003 = some 0x11#32 ∧
    readAt ramBase .b2 0x20000002 = some 0x1122#32 ∧ readAt ramBase .b2 0x20000000 = some 0x3344#32 := by decide
theorem test_ram_byteWrite :
    (writeAt ramBase .b1 0x20000001 0xAB).bind (readAt · .b4 0x20000000) = some 0x1122AB44#32 := by decide
theorem test_ram_byteWrite_truncates :
    (writeAt ramBase .b1 0x20000001 0x1FF).bind (readAt · .b4 0x20000000) = some 0x1122FF44#32 := by decide
theorem test_ram_top : (writeAt base .b4 0x20007FFC 7).bind (readAt · .b4 0x20007FFC) = some 7#32 := by decide
theorem test_trim :
    readAt base .b2 0x1FFF75AA = some 0x0672#32 ∧ readAt base .b1 0x1FFF75AB = some 0x06#32 := by decide
theorem test_bus_faults_memory :
    faultOf (writeAt base .b2 0x20000001 0) = some (.busAlign, .num 0x20000001) ∧
    faultOf (doStmt base (.rd (.user 0) .b4 (.num 0x20007FFE))) = some (.busUnmapped, .num 0x20007FFE) ∧
    faultOf (doStmt base (.rd (.user 0) .b4 (.num 0x30000000))) = some (.busUnmapped, .num 0x30000000) ∧
    faultOf (doStmt base (.rd (.user 0) .b4 (.num 0x1FFF75A8))) = some (.busUnmapped, .num 0x1FFF75A8) ∧
    faultOf (doStmt base (.rd (.user 0) .b4 (.num 0x1FFF75AA))) = some (.busUnmapped, .num 0x1FFF75AA) ∧
    faultOf (writeAt base .b2 0x1FFF75AA 0) = some (.busRo, .num 0x1FFF75AA) := by decide
theorem test_bus_faults_registers :
    faultOf (writeAt base .b2 0x40000020 5) = some (.busWidth, .num 0x40000020) ∧
    faultOf (doStmt base (.rd (.user 0) .b4 (.num 0x40000040))) = some (.busUnmapped, .num 0x40000040) ∧
    faultOf (doStmt base (.rd (.user 0) .b4 (.num 0x40000402))) = some (.busAlign, .num 0x40000402) ∧
    faultOf (doStmt base (.rd (.user 0) .b4 (.num 0x40000E00))) = some (.busUnmapped, .num 0x40000E00) ∧
    faultOf (doStmt base (.rd (.user 0) .b4 (.num 0x40000C18))) = some (.busUnmapped, .num 0x40000C18) ∧
    faultOf (doStmt base (.rd (.user 0) .b4 (.num 0x40001040))) = some (.busUnmapped, .num 0x40001040) ∧
    faultOf (doStmt base (.rd (.user 0) .b4 (.num 0x40002000))) = some (.busUnmapped, .num 0x40002000) := by decide
theorem test_lanes :
    readAt base .b1 0x4000040B = some 0x20#32 ∧ readAt (withAdc calibrated) .b2 0x40000400 = some 0x1000#32 := by decide
theorem test_readOnly_write_ignored :
    (writeAt base .b4 0x40001820 0x1234).map (fun t => (t.xform, t.fault)) = some (Xform.reset, none) := by decide

/-! ### PWM (95_test_vectors.md section 2) -/

theorem test_pwm_resetReads : readAt base .b4 0x40000020 = some 0xFFFF#32 ∧ readAt base .b4 0x4000000C = some 0#32 := by decide
theorem test_pwm_cr1_dir : readAt (withPwm { traceA with dir := true }) .b4 0x40000000 = some 0x13#32 := by decide
theorem test_pwm_arr :
    faultOf (writeAt (withPwm traceA) .b4 0x40000020 100) = some (.pwmArrRun, .num 100) ∧
    (writeAt base .b4 0x40000020 8499).map (·.pwm.arr) = some 0x2133#16 := by decide
theorem test_pwm_cr1 :
    faultOf (writeAt (withPwm traceA) .b4 0x40000000 1) = some (.pwmCmsRun, .num 1) ∧
    (writeAt (withPwm { traceA with dir := true }) .b4 0x40000000 0).map (fun t => (t.pwm.cen, t.pwm.cms, t.pwm.dir))
      = some (false, false, false) := by decide
theorem test_pwm_ccmr :
    faultOf (writeAt base .b4 0x40000010 0x3EE1) = some (.pwmOcmRsv, .num 1) ∧
    faultOf (writeAt base .b4 0x40000010 0x3E2E) = some (.pwmOcmRsv, .num 2) := by decide
/-- ARR at the production value, stopped. -/
def pwmArr : State := withPwm { Pwm.reset with arr := 8499 }
theorem test_pwm_ccr_range :
    faultOf (writeAt pwmArr .b4 0x40000028 8500) = some (.pwmCcrRange, .num 1) ∧
    (writeAt pwmArr .b4 0x40000028 8499).map (·.pwm.ccr[0]) = some 8499#16 ∧
    (writeAt pwmArr .b4 0x40000028 0x10005).map (·.pwm.ccr[0]) = some 5#16 ∧
    (writeAt pwmArr .b4 0x40000034 0xFFFF).map (·.pwm.ccr[3]) = some 0xFFFF#16 := by decide
/-- A running counter with a pending compare value. -/
def pwmPending : State :=
  withPwm { traceA with ccr := #v[2, 0, 3, 8498, 1], cnt := 2, dir := true, pscCnt := 3, rep := 0, uif := true }
theorem test_pwm_egr :
    (writeAt pwmPending .b4 0x4000000C 0).map (·.pwm) = some pwmPending.pwm ∧
    (writeAt pwmPending .b4 0x4000000C 1).map (fun t => (t.pwm.ccrAct[3], t.pwm.cnt, t.pwm.dir, t.pwm.pscCnt, t.pwm.rep, t.pwm.uif))
      = some (8498#16, 0#16, false, 0#16, 1#8, true) := by decide
theorem test_pwm_sr :
    (writeAt pwmPending .b4 0x40000008 0).map (·.pwm.uif) = some true ∧ (writeAt pwmPending .b4 0x40000008 1).map (·.pwm.uif) = some false := by
  decide
theorem test_pwm_bdtr :
    (writeAt base .b4 0x4000003C 0x455).map (fun t => (t.pwm.dtg, t.pwm.ossi, t.pwm.moe, t.pwm.oc 0, t.pwm.ocn 2))
      = some (85#8, true, false, .low, .low) ∧ base.pwm.oc 0 = .z ∧ base.pwm.ocn 2 = .z := by decide
theorem test_pwm_cnt : (writeAt base .b4 0x40000018 0x12345).map (·.pwm.cnt) = some 0x2345#16 := by decide

/-- Ticks 5, 6 and 7 of trace A. -/
def traceA5 : Pwm := { traceA with cnt := 2, dir := true, rep := 0, ocref := #v[false, false, true], dtc := #v[0, 0, 1], trga := true }
def traceA6 : Pwm := { traceA5 with cnt := 1, ocref := #v[true, false, true], dtc := #v[1, 0, 0], trga := false, trgb := true }
def traceA7 : Pwm := { traceA6 with cnt := 0, dtc := #v[0, 0, 0], trgb := false }
/-- Ticks 6, 7 and 8 of trace A: a dead-time tick, the high side turning on, the update event at the bottom. -/
theorem test_pwm_traceA :
    traceA5.tick = traceA6 ∧ (traceA6.oc 0, traceA6.ocn 0) = (.low, .low) ∧
    traceA6.tick = traceA7 ∧ (traceA7.oc 0, traceA7.ocn 0) = (.high, .low) ∧
    traceA7.tick = { traceA7 with dir := false, rep := 1, uif := true } ∧ traceA7.updatesOnTick = true := by decide
/-- Tick 3 of trace A. -/
def traceA3 : Pwm := { traceA with cnt := 3 }
/-- Ticks 4 and 5 of trace A: the top, and TRGA on entering (2, down). -/
theorem test_pwm_traceA_top :
    (traceA3.tick.cnt, traceA3.tick.dir, traceA3.tick.rep, traceA3.updatesOnTick) = (3#16, true, 0#8, false) ∧
    (traceA3.tick.tick.cnt, traceA3.tick.tick.trga, traceA3.tick.tick.trgb) = (2#16, true, false) := by decide
/-- R524: an update event is one of a tick, or of a `UG` write, by the host (the first is R512's example, the third has bit 0 clear)
or by a DMA beat with DIR 1 that writes the word 1 to EGR. -/
theorem test_pwm_updates :
    { withPwm traceA7 with turn := .tick }.updates = true ∧ { withPwm traceA3 with turn := .tick }.updates = false ∧
    { running (withPwm traceA3) (.wr .b4 (.num 0x4000000C) (.num 1)) with turn := .statement }.updates = true ∧
    { running (withPwm traceA3) (.wr .b4 (.num 0x4000000C) (.num 2)) with turn := .statement }.updates = false ∧
    { running (withPwm traceA3) (.wr .b4 (.num 0x40000010) (.num 1)) with turn := .statement }.updates = false := by decide
/-- Tick 15 of trace B. -/
def traceB15 : Pwm :=
  { traceA with dtg := 0, ccr := #v[1, 0, 3, 2, 1], cnt := 0, dir := true, rep := 0, ocref := #v[true, false, true] }
/-- Ticks 16 and 17 of trace B: the update event applies the new compare value. -/
theorem test_pwm_traceB :
    (traceB15.tick.ccrAct[0], traceB15.tick.ocref[0], traceB15.tick.oc 0) = (1#16, true, .high) ∧
    (traceB15.tick.tick.cnt, traceB15.tick.tick.ocref[0], traceB15.tick.tick.ocn 0) = (1#16, false, .high) := by decide
/-- Tick 2 of trace C. -/
def traceC2 : Pwm := { traceA with
  cms := false, arr := 2, rcr := 0, rep := 0, ccr := #v[1, 0, 0, 0, 0], ccrAct := #v[1, 0, 0, 0, 0], cr2 := 0, dtg := 0, cnt := 2 }
/-- Ticks 3 and 4 of trace C: edge-aligned, an update event at every wrap. -/
theorem test_pwm_traceC :
    (traceC2.tick.cnt, traceC2.tick.dir, traceC2.tick.uif, traceC2.tick.ocref[0], traceC2.tick.oc 0)
      = (0#16, false, true, true, .high) ∧
    (traceC2.tick.tick.cnt, traceC2.tick.tick.ocref[0], traceC2.tick.tick.ocn 0) = (1#16, false, .high) := by decide
/-- Tick 8 of trace D. -/
def traceD8 : Pwm := { traceA with dtg := 0, psc := 1, pscAct := 1, cnt := 3, dir := true, rep := 0 }
/-- Ticks 9, 10 and 11 of trace D: no advance, the advance that enters (2, down), no advance. -/
theorem test_pwm_traceD :
    (traceD8.tick.cnt, traceD8.tick.trga) = (3#16, false) ∧ (traceD8.tick.tick.cnt, traceD8.tick.tick.trga) = (2#16, true) ∧
    (traceD8.tick.tick.tick.cnt, traceD8.tick.tick.tick.trga) = (2#16, false) := by decide

theorem test_pwm_deadtimeTicks :
    (doStmt base (.call .pwmDeadtimeTicks [.user 3])).bind (fun t => findLocal t.top.loc (.user 3)) = some 85#32 := by decide
theorem test_pwm_configure :
    faultOf (doStmt base (.call (.pwmConfigure (.num 1)) [])) = some (.pwmBadArg, .num 1) ∧
    faultOf (doStmt base (.call (.pwmConfigure (.num 65537)) [])) = some (.pwmBadArg, .num 65537) := by decide
theorem test_pwm_setDuty :
    faultOf (doStmt base (.call (.pwmSetDuty (.num 70000) (.num 0) (.num 0)) [])) = some (.pwmBadArg, .num 70000) ∧
    (Expr.eval [(.pwmSetDutyN, 8500)] (dutyE (.num 16384)) = .ok 2125) ∧
    (Expr.eval [(.pwmSetDutyN, 8500)] (dutyE (.num 65535)) = .ok 8499) := by decide
theorem test_pwm_enableOutputs :
    ((doStmt (withPwm { traceA with moe := false, dtg := 85 }) (.call .pwmEnableOutputs [])).bind
      (fun t => after (Cpu.hostStatement t))).map (fun t => t.pwm.read .bdtr) = some 0x8455#32 := by decide

/-! ### ADC (95_test_vectors.md section 4) -/

theorem test_adc_seq_faults :
    faultOf (writeAt base .b4 0x40000408 0x30000000) = some (.adcSeq, .num 1) ∧
    faultOf (writeAt base .b4 0x40000408 0x80000000) = some (.adcSeq, .num 1) ∧
    faultOf (writeAt (withAdc { calibrated with adcal := true, cal := .running }) .b4 0x40000408 0x90000001)
      = some (.adcSeq, .num 1) ∧
    faultOf (writeAt (withAdc calibrated) .b4 0x40000408 0x10000004) = some (.adcSeq, .num 1) ∧
    faultOf (writeAt (withAdc { enabledAdc with en := .enabling }) .b4 0x40000408 0x1000000C) = some (.adcSeq, .num 1) ∧
    faultOf (writeAt (withAdc enabledAdc) .b4 0x40000408 0x00000001) = some (.adcSeq, .num 1) := by decide
theorem test_adc_cr_powerup :
    (writeAt base .b4 0x40000408 0x10000000).map (fun t => (t.adc1.read .cr, t.adc1.vreg, t.adc1.read .isr))
      = some (0x10000000#32, .starting, 0#32) ∧
    (writeAt (withAdc calibrated) .b4 0x40000408 0x90000000).map (fun t => (t.adc1.read .cr, t.adc1.cal))
      = some (0x90000000#32, .running) := by decide
theorem test_adc_cr_start :
    (writeAt (withAdc calibrated) .b4 0x40000408 0x10000001).map (fun t => (t.adc1.read .cr, t.adc1.en))
      = some (0x10000001#32, .enabling) ∧
    (writeAt (withAdc { enabledAdc with jexten := 1 }) .b4 0x40000408 0x1000000C).map (fun t => (t.adc1.read .cr, t.adc1.jact))
      = some (0x1000000D#32, false) ∧
    (writeAt (withAdc startedAdc) .b4 0x40000408 0x10000000).map (fun t => t.adc1.read .cr) = some 0x1000000D#32 := by decide
theorem test_adc_handshakes :
    ({ calibrated with vreg := .starting }.regulatorReady.map fun a : Adc => a.read .isr) = some 0x1000#32 ∧
    ({ calibrated with cal := .running, adcal := true }.calibrationDone 9).map (fun a : Adc => a.read .cr) = some 0x10000000#32 ∧
    ({ enabledAdc with en := .enabling, isr := AdcFlags.clear }.enableDone.map fun a : Adc => (a.en, a.isr.adrdy)) = some (.ready, true) := by
  decide
theorem test_adc_config_running :
    faultOf (writeAt (withAdc startedAdc) .b4 0x4000040C 0x3001) = some (.adcRun, .num 1) ∧
    (writeAt (withAdc startedAdc) .b4 0x40000404 0).map (·.adc1.ier) = some AdcFlags.clear := by decide
theorem test_adc_sequences :
    faultOf (writeAt base .b4 0x4000044C 0x88) = some (.adcBadTrigger, .num 2) ∧
    faultOf (writeAt base .b4 0x40000430 0x4C0) = some (.adcBadChannel, .num 19) ∧
    (writeAt base .b4 0x40000430 0x13040).map (fun t => t.adc1.read .sqr1) = some 0x13040#32 ∧
    (writeAt base .b4 0x4000044C 0x10281).map (fun t => (t.adc1.jsqLen, t.adc1.jexten, t.adc1.jsq[0], t.adc1.jsq[1]))
      = some (1#2, 1#2, 1#5, 2#5) := by decide
/-- R660 begins with CR <- 0, which R603 refuses for an enabled unit. -/
theorem test_adc_powerup_refused :
    faultOf (doStmt (withAdc enabledAdc) (.call (.adcPowerupCalibrate .one) [])) = some (.adcSeq, .num 1) ∧
    (doStmt base (.call (.adcPowerupCalibrate .one) [])).map (fun t => (t.adc1.read .cr, t.top.pc)) = some (0#32, 1) := by decide
theorem test_adc_smpr :
    (writeAt base .b4 0x40000414 0xFFFFFFFF).map (fun t => t.adc1.read .smpr1) = some 0x3FFFFFFF#32 ∧
    (writeAt base .b4 0x40000818 0xFFFFFFFF).map (fun t => t.adc2.read .smpr2) = some 0x07FFFFFF#32 := by decide
/-- AD26 to AD31. -/
theorem test_adc_regular :
    let flags := fun a : Adc => (a.dr, a.isr.eoc, a.isr.eos, a.isr.ovr, a.adstart)
    flags ({ enabledAdc with adstart := true, cont := true }.convertRegular 100) = (100#16, true, true, false, true) ∧
    flags (({ enabledAdc with adstart := true, cont := true }.convertRegular 100).convertRegular 200)
      = (100#16, true, true, true, false) ∧
    flags ((startedAdc.convertRegular 100).convertRegular 200) = (200#16, true, true, true, true) ∧
    flags ({ enabledAdc with adstart := true }.convertRegular 100) = (100#16, true, true, false, false) := by decide
/-- AD33 and AD34: an injected sequence of two. -/
theorem test_adc_injected :
    let a := startedAdc.startInjected.convertInjected 2100
    let b := a.convertInjected 2050
    (a.jdr[0], a.isr.jeoc, a.isr.jeos, a.jrank, a.jact) = (2100#16, true, false, 1#2, true) ∧
    (b.jdr[0], b.jdr[1], b.isr.jeos, b.jact, b.jadstart) = (2100#16, 2050#16, true, false, true) := by decide
/-- AD32, AD35 and AD36. -/
theorem test_adc_triggers :
    (({ withAdc startedAdc with adc2 := startedAdc }.deliverTriggers (false, false) (true, false)).adcPaired) = true ∧
    ({ withAdc { startedAdc with jact := true, jrank := 1 } with adc2 := startedAdc }.deliverTriggers (false, false) (true, false)
      |>.adc1.jrank) = 1#2 ∧
    ({ withAdc startedAdc with adcPaired := true }.deliverTriggers (false, false) (true, false) |>.adcPaired) = false := by decide
theorem test_adc_dr_byteRead :
    (doStmt (withAdc { startedAdc with dr := 0x0834, isr := { AdcFlags.clear with eoc := true } }) (.rd (.user 0) .b1 (.num 0x40000441))).map
      (fun t => (findLocal t.top.loc (.user 0), t.adc1.isr.eoc)) = some (some 0x08#32, false) := by decide
theorem test_adc_injectedFlag :
    (writeAt { base with adc2 := { Adc.reset with isr := ⟨false, false, false, false, true, true⟩ } } .b4 0x40000800 0x40).map
      (fun t => (t.adc2.isr.jeoc, t.adc2.isr.jeos)) = some (true, false) ∧
    Expr.eval [(.adcReadInjectedFlagF, 0x60)] (andE (shrE (.loc .adcReadInjectedFlagF) (.num 6)) (.num 1)) = .ok 1 := by decide
theorem test_adc_operations :
    faultOf (doStmt base (.call (.adcConfigureProduction .one (.num 19) (.num 1) (.num 2)) [])) = some (.adcBadChannel, .num 19) ∧
    faultOf (doStmt base (.call (.adcReadInjectedData .one (.num 3)) [])) = some (.adcBadRank, .num 3) := by decide
/-- SMPR1, SMPR2 of AD16 and AD17. -/
theorem test_adc_production_sampling :
    let s1 := fun r j k : Expr => orE (orE (smpLowE r (.num 7)) (smpLowE j (.num 7))) (smpLowE k (.num 7))
    let s2 := fun r j k : Expr => orE (orE (smpHighE r (.num 7)) (smpHighE j (.num 7))) (smpHighE k (.num 7))
    Expr.eval [] (s1 (.num 16) (.num 1) (.num 2)) = .ok 0x1F8 ∧ Expr.eval [] (s2 (.num 16) (.num 1) (.num 2)) = .ok 0x1C0000 ∧
    Expr.eval [] (s1 (.num 5) (.num 3) (.num 4)) = .ok 0x3FE00 ∧ Expr.eval [] (s2 (.num 5) (.num 3) (.num 4)) = .ok 0 := by decide
/-- Section 1.1: 3c/4095 for c = 1650 and 4095. -/
theorem test_adc_reference :
    F32.div (F32.mul 0x40400000 (F32.ofInt 1650)) Config.f4095 = 0x3F9AB9AC#32 ∧
    F32.div (F32.mul 0x40400000 (F32.ofInt 4095)) Config.f4095 = 0x40400000#32 := by decide
/-- AD41 and AD44. -/
theorem test_adc_vrefCal :
    F32.div 0x3F9B22D1 (F32.div (F32.ofInt 1489) Config.f4095) = 0x40555335#32 ∧
    F32.div 0x3F9AB9AC (F32.div (F32.ofInt 1) Config.f4095) = 0x459AB000#32 := by decide

/-! ### DMA and router (95_test_vectors.md section 5) -/

theorem test_dma_ccr_active :
    (writeAt (withDma channel0) .b4 0x40000C00 0x5A3).map (·.dma[0]) = some channel0 ∧
    faultOf (writeAt (withDma channel0) .b4 0x40000C00 0x5A7) = some (.dmaReconfig, .num 0) ∧
    faultOf (writeAt (withDma channel0) .b4 0x40000C04 8) = some (.dmaReconfig, .num 0) ∧
    (writeAt (withDma channel0) .b4 0x40000C00 0x5A2).map (fun t => (t.dma[0].stopping, t.dma[0].read .ccr))
      = some (true, 0x5A3#32) := by decide
/-- Channel 0 with a stop pending whose last beat wrote EN 0 to its own CCR. -/
def selfStopped : DmaChannel := { channel0 with en := false, stopping := true }
/-- R700 and R701: such a channel reads EN 1 and is active. -/
theorem test_dma_ccr_stopping :
    readAt (withDma selfStopped) .b4 0x40000C00 = some 0x5A3#32 ∧
    faultOf (writeAt (withDma selfStopped) .b4 0x40000C04 8) = some (.dmaReconfig, .num 0) ∧
    faultOf (writeAt (withDma selfStopped) .b4 0x40001000 2) = some (.dmamuxReconfig, .num 0) := by decide
/-- Channel 0 idle with addresses set. -/
def idle0 : DmaChannel := { channel0 with en := false, cfg := 0, init := 0, pptr := 0, mptr := 0 }
theorem test_dma_ccr_enable :
    (writeAt (withDma idle0) .b4 0x40000C00 0x5A3).map (·.dma[0]) = some channel0 ∧
    faultOf (writeAt (withDma { idle0 with cndtr := 0 }) .b4 0x40000C00 0x5A3) = some (.dmaBadConfig, .num 0) ∧
    faultOf (writeAt (withDma idle0) .b4 0x40000C00 0x9A3) = some (.dmaBadConfig, .num 0) ∧
    faultOf (writeAt (withDma { idle0 with cmar := 0x20000101 }) .b4 0x40000C00 0x5A3) = some (.dmaBadConfig, .num 0) := by decide
theorem test_dma_stopAck : ({ channel0 with stopping := true, cndtr := 2, htif := true }.stopAck.map fun d : DmaChannel =>
    (d.read .ccr, d.cndtr, d.htif)) = some (0x5A2#32, 2#16, true) := by decide
/-- Beats 2, 3 and 4 of section 5.1. -/
theorem test_dma_pass :
    let b := fun d : DmaChannel => d.completeBeat 2 d.pptr d.mptr
    let d2 := b { channel0 with cndtr := 3, mptr := 0x20000102 }
    let d4 := b (b d2)
    (d2.cndtr, d2.read .cisr, d2.mptr) = (2#16, 5#32, 0x20000104#32) ∧
    (d4.cndtr, d4.read .cisr, d4.mptr, d4.read .ccr) = (4#16, 7#32, 0x20000100#32, 0x5A3#32) := by decide
/-- A beat of channel 0 from DR of unit 1, as beat 1 of section 5.1; then DM1 and DM4. -/
def beatBase (d : DmaChannel) : State :=
  { withDma d with adc1 := { startedAdc with dr := 0x0834, isr := { AdcFlags.clear with eoc := true } } }
theorem test_dma_beat :
    ((beatBase channel0).beatStep.map fun t => (t.dma[0].cndtr, t.adc1.isr.eoc, t.memRead .b2 0x20000100, t.dma[0].read .cisr))
      = some (3#16, false, 0x0834#32, 0#32) := by decide
/-- R710 and R730: the last beat of a pass that writes EN 0 to its own CCR; the stop waits for its acknowledgement. -/
theorem test_dma_selfStop :
    ({ beatBase { channel0 with cfg := 0x508, cndtr := 1, pptr := 0x40000C00, cpar := 0x40000C00 } with
        ram := [(0x20000100, 0x10), (0x20000101, 0x0A), (0x20000102, 0), (0x20000103, 0)] }.beatStep.map fun t : State =>
      (t.dma[0].cndtr, t.dma[0].stopping, t.dma[0].read .ccr, t.dma[0].tcif, t.fault))
      = some (0#16, true, 0xA11#32, true, none) := by decide
theorem test_dma_beat_ug :
    { beatBase { channel0 with cfg := 0x508, pptr := 0x4000000C, cpar := 0x4000000C } with
        ram := [(0x20000100, 1), (0x20000101, 0), (0x20000102, 0), (0x20000103, 0)], turn := .beat }.updates = true ∧
    { beatBase channel0 with turn := .beat }.updates = false := by decide
theorem test_dma_errors :
    ((beatBase { channel0 with cmar := 0x20008000, mptr := 0x20008000 }).beatStep.map fun t =>
      (t.adc1.isr.eoc, t.dma[0].read .cisr, t.dma[0].read .ccr, t.dma[0].cndtr)) = some (true, 9#32, 0x5A2#32, 4#16) ∧
    ((beatBase { channel0 with cfg := 0x2D9 }).beatStep.map fun t => (t.dma[0].teif, t.dma[0].en, t.fault))
      = some (true, false, none) := by decide
theorem test_dma_router :
    faultOf (writeAt base .b4 0x40001000 3) = some (.dmamuxBadId, .num 3) ∧
    faultOf (writeAt { base with dma := base.dma.set 1 channel0 } .b4 0x40001004 2) = some (.dmamuxReconfig, .num 1) ∧
    (writeAt base .b4 0x4000103C 2).map (·.dmamux[15]) = some 2#7 := by decide
/-- DM17. -/
theorem test_dma_lowestChannel :
    { beatBase channel0 with dma := (withDma channel0).dma.set 3 channel0, dmamux := (withDma channel0).dmamux.set 3 1 }.beatChannel
      = some 0 := by decide
theorem test_dma_cifcr :
    (writeAt (withDma { channel0 with tcif := true, htif := true }) .b4 0x40000C14 2).map (fun t => t.dma[0].read .cisr) = some 5#32 ∧
    (writeAt (withDma { channel0 with tcif := true, htif := true }) .b4 0x40000C14 1).map (fun t => t.dma[0].read .cisr) = some 0#32 := by
  decide
theorem test_dma_operations :
    faultOf (doStmt base (.call (.dmaBind (.num 16) (.num 0x40000440)) [])) = some (.dmaBadChannel, .num 16) ∧
    ((doStmt base (.call (.dmaStart (.num 0) (.num 0x20000100) (.num 0)) [])).bind fun t => after (Cpu.hostStatement t)).map
      (·.fault) = some (some ⟨.dmaBadConfig, .num 0⟩) := by decide

/-! ### CORDIC and Q31 (95_test_vectors.md sections 1.2 and 6) -/

theorem test_cordic_reset :
    readAt base .b4 0x40001400 = some 0x50#32 ∧ readAt base .b4 0x40001404 = some 0#32 ∧
    faultOf (doStmt base (.rd (.user 0) .b4 (.num 0x40001408))) = some (.cordicNoResult, .num 0) := by decide
theorem test_cordic_start :
    (writeAt (withCordic cordicIdle) .b4 0x40001404 0x20000000).map (fun t => (t.cordic.busy, t.cordic.m, t.cordic.readCsr))
      = some (true, 0x7FFFFFFF#32, 0x00080061#32) ∧
    (doStmt (withCordic { cordicIdle with busy := true }) (.rd (.user 0) .b4 (.num 0x40001408))).map (·.cordic.busy) = some true := by
  decide
theorem test_cordic_done :
    readAt (withCordic cordicDone) .b4 0x40001400 = some 0x80080061#32 ∧
    (doStmt (withCordic cordicDone) (.rd (.user 0) .b4 (.num 0x40001408))).map
      (fun t => (findLocal t.top.loc (.user 0), t.cordic.left, t.cordic.next)) = some (some 0x5A827999#32, 1#2, 2#2) := by decide
theorem test_cordic_faults :
    faultOf (writeAt (withCordic { cordicDone with left := 1, next := 2 }) .b4 0x40001404 0) = some (.cordicOverrun, .num 0) ∧
    faultOf (writeAt (withCordic cordicDone) .b4 0x40001400 0x80061) = some (.cordicBusy, .num 0x80061) ∧
    faultOf (writeAt (withCordic cordicIdle) .b4 0x40001400 0x80062) = some (.cordicBadFunc, .num 0x80062) ∧
    faultOf (writeAt (withCordic cordicIdle) .b4 0x40001400 0x80001) = some (.cordicBadFunc, .num 0x80001) ∧
    faultOf (writeAt (withCordic { cordicIdle with nargs := true, latched := true }) .b4 0x40001400 0x80061)
      = some (.cordicBusy, .num 0x80061) := by decide
/-- CO12: the second of a pair starts the computation. -/
theorem test_cordic_pair :
    (writeAt (withCordic { cordicIdle with nargs := true, latched := true, arg1 := 0x40000000 }) .b4 0x40001404 0x40000000).map
      (fun t => (t.cordic.x, t.cordic.m, t.cordic.busy, t.cordic.latched)) = some (0x40000000#32, 0x40000000#32, true, false) := by decide
theorem test_cordic_init_word :
    Expr.eval [] (orE (cordicModeE par) (shlE (.num 1) (.num 20))) = .ok 0x00180061 ∧ Expr.eval [] (cordicModeE par) = .ok 0x00080061 := by decide
/-- R830 with a result unread, and R833 with one left. -/
theorem test_cordic_operations :
    faultOf (doStmt (withCordic cordicDone) (.call .cordicInit [])) = some (.cordicBusy, .num 0x180061) ∧
    (doStmt (withCordic { cordicDone with left := 1, next := 2, res2 := 9 }) (.call .cordicCollect [])).map
      (fun t => (findLocal t.top.loc .cordicCollectR1, t.cordic.left)) = some (some 9#32, 0#2) := by decide
theorem test_cordic_domain :
    faultOf (doStmt (withCordic cordicIdle) (.call (.cordicCompute (.num 0x3F800000)) [])) = some (.q31Domain, .num 0x3F800000) := by decide

theorem test_q31_exact :
    F32.toQ31 0x00000000 = some 0#32 ∧ F32.toQ31 0x80000000 = some 0#32 ∧ F32.toQ31 0x3E800000 = some 0x20000000#32 ∧
    F32.toQ31 0xBF000000 = some 0xC0000000#32 ∧ F32.toQ31 0x3F7FFFFF = some 0x7FFFFF80#32 ∧
    F32.toQ31 0xBF800000 = some 0x80000000#32 ∧ F32.toQ31 0x3DCCCCCD = some 0x0CCCCCD0#32 ∧
    F32.toQ31 0xBF333333 = some 0xA6666680#32 := by decide
theorem test_q31_halves :
    F32.toQ31 0x2F800000 = some 1#32 ∧ F32.toQ31 0xAF800000 = some 0xFFFFFFFF#32 ∧ F32.toQ31 0x30400000 = some 2#32 ∧
    F32.toQ31 0xB0400000 = some 0xFFFFFFFE#32 ∧ F32.toQ31 0x2F000000 = some 0#32 ∧ F32.toQ31 0x30200000 = some 1#32 := by decide
theorem test_q31_domain :
    F32.toQ31 0x3F800000 = none ∧ F32.toQ31 0xBF800001 = none ∧ F32.toQ31 0x7F800000 = none ∧ F32.toQ31 0x7FC00000 = none := by decide
theorem test_q31_back :
    F32.ofQ31 0 = 0#32 ∧ F32.ofQ31 1 = 0x30000000#32 ∧ F32.ofQ31 0xFFFFFFFF = 0xB0000000#32 ∧
    F32.ofQ31 0x5A827999 = 0x3F3504F3#32 ∧ F32.ofQ31 0xA57D8667 = 0xBF3504F3#32 ∧ F32.ofQ31 0x7FFFFFFF = 0x3F800000#32 ∧
    F32.ofQ31 0x80000000 = 0xBF800000#32 := by decide

/-! ### Transform unit (95_test_vectors.md section 7) -/

/-- A unit with inputs and marked outputs. -/
def xformIn (a b c d : Word) : Xform := ⟨0, #v[a, b, c, d], #v[11, 22, 33, 44]⟩

theorem test_xform_clarke :
    (xformIn 0x3FD89D8A 0x3FC92492 0 0).clarke.out = #v[0x3FD89D8A, 0x4032A94F, 33, 44] ∧
    (xformIn 0xBF000000 0x3F800000 0 0).clarke.out = #v[0xBF000000, 0x3F5DB3D8, 33, 44] ∧
    (xformIn 0x7FC00000 0 0 0).clarke.out = #v[0x7FC00000, 0x7FC00000, 33, 44] := by decide
theorem test_xform_park :
    (xformIn 0x3FD89D8A 0x4032A94F 0x3F3504F3 0x3F3504F3).park.out = #v[0x404AEAF2, 0x3F46FD7E, 33, 44] := by decide
theorem test_xform_ipark :
    (xformIn 0x3F000000 0 0x3F3504F3 0x3F3504F3).ipark.out = #v[0x3EB504F3, 0x3EB504F3, 33, 44] ∧
    (xformIn 0x3F000000 0x3E800000 0x3F800000 0).ipark.out = #v[0xBE800000, 0x3F000000, 33, 44] := by decide
theorem test_xform_clarkePark :
    (xformIn 0x3FD89D8A 0x3FC92492 0x3F3504F3 0x3F3504F3).clarkePark.out
      = #v[0x404AEAF2, 0x3F46FD7E, 0x3FD89D8A, 0x4032A94F] := by decide
/-- SV2, SV4 and SV7. -/
theorem test_xform_svpwm_a :
    (xformIn 0 0x3F000000 0x477FFF00 0).svpwm.out = #v[0x46FFFF00, 0x476ED8FD, 0x4589301B, 2] ∧
    (xformIn 0x3F800000 0 0x477FFF00 0).svpwm.out = #v[0x477FFF00, 0, 0, 6] ∧
    (xformIn 0xBF000000 0xBE800000 0x3F800000 0).svpwm.out = #v[0x3C8930A0, 0x3F0CDC8F, 0x3F7BB67B, 4] := by decide
/-- SV3, SV8 and SV9. -/
theorem test_xform_svpwm_b :
    (xformIn 0 0xBF000000 0x477FFF00 0).svpwm.out = #v[0x46FFFF00, 0x4589301B, 0x476ED8FD, 5] ∧
    (xformIn 0x3F000000 0 0xBF800000 0).svpwm.out = #v[0, 0, 0, 6] ∧
    (xformIn 0x3EB504F3 0x3EB504F3 0x477FFF00 0).svpwm.out = #v[0x476B120C, 0x4731B0C7, 0x45A767A1, 1] := by decide
theorem test_xform_ctrl :
    faultOf (writeAt base .b4 0x40001800 6) = some (.xformBadOp, .num 6) ∧
    faultOf (writeAt base .b4 0x40001800 0xF) = some (.xformBadOp, .num 7) ∧
    (writeAt { base with xform := xformIn 5 6 7 8 } .b4 0x40001800 9).map (·.xform.op) = some 1#3 ∧
    (writeAt { base with xform := xformIn 5 6 7 8 } .b4 0x40001800 0).map (·.xform.out) = some #v[11, 22, 33, 44] := by decide
theorem test_xform_run :
    faultOf (doStmt base (.call (.xfRun (.num 6) (.num 0) (.num 0) (.num 0) (.num 0)) [])) = some (.xformBadOp, .num 6) := by decide

/-! ### Dispatcher and host (95_test_vectors.md section 8) -/

/-- The dispatcher's views: IPR, IABR, CURPRI, ACTIVE. -/
def views (s : State) : Word × Word × Word × Word := (s.intcRead .ipr, s.intcRead .iabr, s.intcRead .curpri, s.intcRead .active)

theorem test_intc_reset : views base = (0, 0, 2, 0x1F) := by decide
/-- IN2 and IN3. -/
theorem test_intc_entry :
    ({ line0Asserted with intc := ⟨false, 7, []⟩ }.entryStep.isNone) = true ∧
    (line0Asserted.entryStep.map fun t => (views t, t.intc.stack, t.top.lvl, t.top.line)) = some ((1, 1, 0, 0), [0], 0, some 0) := by decide
/-- IN4: level 0 wins. -/
theorem test_intc_priority :
    ({ line0Asserted with dma := base.dma.set 0 { channel0 with tcif := true } }.entryStep.map fun t => (views t, t.intc.stack))
      = some ((3, 1, 0, 0), [0]) := by decide
/-- IN7 and IN8: preemption by a higher level only. -/
theorem test_intc_preemption :
    ({ line0Asserted with intc := ⟨true, 7, [1]⟩, dma := base.dma.set 0 { channel0 with tcif := true } }.entryStep.map fun t =>
      (views t, t.intc.stack)) = some ((3, 3, 0, 0), [0, 1]) ∧
    ({ inHandler 1 .ret with dma := (base.dma.set 0 { channel0 with tcif := true }).set 1 { channel0 with tcif := true } }.entryStep.isNone)
      = true := by decide
theorem test_intc_eoi :
    (Cpu.hostStatement (inHandler 1 (.wr .b4 (.num 0x40001C14) (.num 0))) |> after).map (fun t => (t.intc.stack, t.handlers.length))
      = some ([], 1) ∧
    faultOf (writeAt base .b4 0x40001C14 0) = some (.intcBadEoi, .num 0) := by decide
theorem test_intc_ier :
    faultOf (writeAt base .b4 0x40001C04 8) = some (.intcNoHandler, .num 3) ∧
    faultOf (writeAt { base with vec := someVec } .b4 0x40001C04 0x10007) = some (.intcNoHandler, .num 16) ∧
    (writeAt { base with vec := someVec } .b4 0x40001C04 7).map (·.intc.ier) = some 7#17 := by decide
theorem test_host_return :
    faultOf (after (Cpu.hostStatement (inHandler 1 .ret))) = some (.intcNoEoi, .num 1) ∧
    (after (Cpu.hostStatement { inHandler 1 .ret with intc := ⟨true, 7, []⟩ })).map (fun t => (t.handlers.length, t.fault)) = some (0, none) ∧
    faultOf (doStmt base .ret) = some (.hostPcRange, .none) ∧
    faultOf (after (Cpu.hostStatement (inHandler 2 .halt))) = some (.hostPcRange, .num 2) := by decide
theorem test_host_undefLocal :
    faultOf (doStmt base (.set (.user 1) (.loc (.user 2)))) = some (.hostUndefLocal, .loc (.user 2)) := by decide
theorem test_host_let_wraps :
    (doStmt base (.set (.user 1) (.bin .sub (.num 0) (.num 1)))).bind (fun t => findLocal t.top.loc (.user 1)) = some 0xFFFFFFFF#32 := by
  decide
theorem test_host_branch :
    (doStmt base (.br (.num 2) 0)).map (·.top.pc) = some 0 ∧ (doStmt base (.br (.num 0) 0)).map (·.top.pc) = some 1 := by decide
/-- R403: WAIT N is N steps; after the first of two the position stays, after the second it moves. -/
theorem test_host_wait : (doStmt base (.wait 2)).map (fun t => (t.top.pc, t.top.waits)) = some (0, 1) ∧
    ((doStmt base (.wait 2)).bind fun t => after (Cpu.hostStatement t)).map (fun t => (t.top.pc, t.top.waits)) = some (1, 0) ∧
    (doStmt base (.wait 1)).map (·.top.pc) = some 1 ∧ (doStmt base (.wait 0)).map (·.top.pc) = some 1 := by decide
theorem test_host_poll :
    (doStmt base (.poll (.num 0x40001C10) (.num 3) (.num 2))).map (·.top.pc) = some 1 := by decide

/-! ### The machine -/

/-- The host's table word of `WR PWM.ARR, 8499` runs as the first instruction after reset (95_test_vectors.md P1). -/
theorem test_step_fetchWord :
    (after (step (State.reset.withFetchWord 64 0x4000002000002133))).map (·.pwm.arr) = some 8499#16 := by decide
/-- R101: the first step of a run may be any agent's, here a PWM tick, which is always enabled. -/
theorem test_launch_firstTick :
    (after (step (State.launch par 0 [] (Vector.replicate 17 none) .tick))).map (fun t => (t.pwm == Pwm.reset.tick, t.stepNo)) =
      some (true, 1) := by decide
theorem test_step_tick : (after (step { base with turn := .tick, pwm := traceA })).map (·.pwm.cnt) = some 1#16 := by decide
theorem test_step_quiescent :
    (match step (base.raise ⟨.busRo, .none⟩) with | .fault f => f == .quiescent .busRo .none | .next _ => false | .refused _ => false)
      = true := by decide

/-! ### Witnesses: for each statement with hypotheses, a state and operands that meet them, clause by clause -/

theorem witness_DecodeOfEncode :
    (Instr.ramWr32 0x7FFC 5).wf = true ∧ encode par (.ramWr32 0x7FFC 5) = some (.wr .b4 0x20007FFC 5) ∧
    (Instr.dmaCcrRd 15 .half1).wf = true ∧ encode par (.dmaCcrRd 15 .half1) = some (.rd .b2 0x40000DE2) := by decide
theorem witness_EncodeOfDecode :
    decode par (.rd .b1 0x1FFF75AB) = .ok (.trimRd8 1) ∧ decode par (.wr .b4 0x40001800 0xFFFFFFFD) = .ok (.xformCtrlWrClarkePark 0x1FFFFFFF) := by
  decide
/-- The parameters of the tests, and those of another layout, are well formed; so are the defaults (`Params.default_wf`). -/
def otherPar : Params := { par with pwmBase := 0x50000000, win := 0x200, ramBase := 0x30000000, ramSize := 0x20000, nDma := 8, chMax := 15, chVrefint := 13 }
theorem witness_wf : par.wf = true ∧ otherPar.wf = true ∧ base.params.wf = true := by decide
/-- R8: another layout moves the registers and RAM, and a channel that is not there has no register. -/
theorem test_decode_otherLayout :
    decode otherPar (.wr .b4 0x50000020#32 7) = .ok (.pwmArrWr 7) ∧ decode otherPar (.rd .b4 0x40000020#32) = .error (.unmapped 0x40000020#32) ∧
    decode otherPar (.rd .b4 0x3001FFFC#32) = .ok (.ramRd32 0x1FFFC#32) ∧
    decode otherPar (.rd .b4 0x40000CE0#32) = .ok (.dmaCcrRd 7 .word) ∧
    decode otherPar (.rd .b4 0x40000D00#32) = .error (.unmapped 0x40000D00#32) := by decide
/-- R8 in an operation and in the dead time: CH_MAX 15 refuses channel 16, and 100 MHz with 250 ns gives 25 ticks. -/
theorem test_params_operations :
    faultOf (doStmt { base with params := otherPar } (.call (.adcGetAverage .one (.num 16)) [])) = some (.adcBadChannel, .num 16) ∧
    (doStmt { base with params := { par with fTim := 100000000, dtNs := 250 } } (.call .pwmDeadtimeTicks [.user 3])).bind
      (fun t => findLocal t.top.loc (.user 3)) = some 25#32 := by decide
/-- The two ends of RAM, the trim halfword, a window's last register and the word past it, misaligned by one byte and by a halfword. -/
theorem witness_BusChecks :
    insideRegion par.ramBase par.ramSize 0x20007FFC 4 = true ∧ insideRegion par.ramBase par.ramSize 0x20007FFD 4 = false ∧
    insideRegion par.trimAddr 2 0x1FFF75AB 1 = true ∧ insideRegion par.trimAddr 2 0x1FFF75AB 2 = false ∧
    (insideRegion (Window.pwm.base par) par.win 0x4000003F 1 = true ∧ (Reg.pwm .bdtr).present par = true ∧
      (Reg.pwm .bdtr).address par = 0x4000003F - 0x4000003F % 4) ∧
    ((Reg.dma 15 .cifcr).present par = true ∧ (Reg.dma 15 .cifcr).address par = 0x40000DF4) ∧
    Window.pwm.reg? par 0x40 = none ∧ par.window? 0x40001FFF 1 = some .intc ∧ par.window? 0x40002000 1 = none ∧
    0x20000001 % Size.b2.bytes ≠ 0 ∧ 0x4000003E % Size.b4.bytes ≠ 0 ∧ 0x4000003E % Size.b2.bytes = 0 ∧ Size.b2 ≠ Size.b4 := by decide

/-- Each form of statement that runs an instruction. -/
theorem witness_StepRunsInstruction :
    (base.fault = none ∧ base.turn = .statement ∧ base.hostIdle = false) ∧
    ((running base (.rd (.user 0) .b1 (.num 0x40000003))).top.current = some (.rd (.user 0) .b1 (.num 0x40000003)) ∧
      (running base (.rd (.user 0) .b1 (.num 0x40000003))).evalWord (.num 0x40000003) = .ok 0x40000003#32 ∧
      decode par (.rd .b1 0x40000003#32) = .ok (.pwmCr1Rd .byte3)) ∧
    ((running base (.wr .b2 (.num 0x20007FFE) (.num 0x12345))).top.current = some (.wr .b2 (.num 0x20007FFE) (.num 0x12345)) ∧
      (running base .halt).evalWord (.num 0x12345) = .ok 0x12345#32 ∧
      decode par (.wr .b2 0x20007FFE#32 (Size.trunc .b2 0x12345#32)) = .ok (.ramWr16 0x7FFE#32 0x2345#32)) ∧
    ((running base (.poll (.num 0x40000400) (.num 1) (.num 1))).top.current = some (.poll (.num 0x40000400) (.num 1) (.num 1)) ∧
      decode par (.rd .b4 0x40000400#32) = .ok (.adc1IsrRd .word)) ∧
    ((running base (.call .cordicInit [])).top.current = some (.call .cordicInit []) ∧ Instr.cordicInit.isOperation = true) := by decide
theorem witness_RejectedAccessFaults :
    (running base (.rd (.user 0) .b4 (.num 0x20007FFE))).top.current = some (.rd (.user 0) .b4 (.num 0x20007FFE)) ∧
    decode par (.rd .b4 0x20007FFE#32) = .error (.unmapped 0x20007FFE#32) ∧
    decode par (.rd .b4 0x40000402#32) = .error (.misaligned 0x40000402#32) ∧
    (running base (.wr .b4 (.num 0x40000040) (.num 0))).top.current = some (.wr .b4 (.num 0x40000040) (.num 0)) ∧
    decode par (.wr .b4 0x40000040#32 (Size.trunc .b4 0)) = .error (.unmapped 0x40000040#32) ∧
    decode par (.wr .b2 0x20000001#32 (Size.trunc .b2 0)) = .error (.misaligned 0x20000001#32) ∧
    decode par (.wr .b2 0x1FFF75AA#32 (Size.trunc .b2 0)) = .error (.readOnly 0x1FFF75AA#32) ∧
    decode par (.wr .b2 0x40000020#32 (Size.trunc .b2 5)) = .error (.subWordWrite 0x40000020#32) ∧
    (running base (.poll (.num 0x40000040) (.num 1) (.num 1))).top.current = some (.poll (.num 0x40000040) (.num 1) (.num 1)) ∧
    decode par (.rd .b4 0x40000040#32) = .error (.unmapped 0x40000040#32) ∧
    decode par (.wr .b4 0x40001800#32 (Size.trunc .b4 6)) = .error (.reservedOp 6) ∧
    decode par (.wr .b4 0x40001800#32 (Size.trunc .b4 0xF)) = .error (.reservedOp 7) := by decide

/-- A state whose statement is a `RD` into a local: the hypothesis of PwmReads, AdcReads, DmaReads and CordicXformReads. -/
theorem witness_reads : (running base (.rd (.user 0) .b4 (.num 0x40000000))).sink = .ok (.store (.user 0)) := by decide
theorem witness_RamAndTrimReads :
    (running ramBase (.rd (.user 0) .b4 (.num 0x20000000))).sink = .ok (.store (.user 0)) ∧
    ramBase.ram.find 0x20000003 = some 0x11#8 := by decide
/-- The last byte of a word, the byte before it and the byte after it, at the top of RAM. -/
theorem witness_RamWrites :
    3 < Size.b4.bytes ∧ 0x20007FFB < par.ramBase + (0x7FFC#32).toNat ∧
    par.ramBase + (0x7FFC#32).toNat + Size.b4.bytes ≤ 0x20008000 := by decide
theorem witness_ResetState : Reg.pwm .arr ≠ .cordic .rdata ∧ Reg.intc .active ≠ .cordic .rdata := by decide
theorem witness_CordicXformReads :
    (withCordic { cordicIdle with busy := true }).cordic.busy = true ∧
    (cordicIdle.busy = false ∧ cordicIdle.left = 0) ∧ (cordicDone.busy = false ∧ cordicDone.left ≠ 0 ∧ cordicDone.next = 1) ∧
    ((cordicDone.pop).busy = false ∧ cordicDone.pop.left ≠ 0 ∧ cordicDone.pop.next = 2) := by decide
/-- IPR and IABR with lines 0 and 16; the stack empty, and with line 0 or 16 at its head. -/
def line16 : State := { inHandler 16 .ret with
  adc1 := { startedAdc with isr := { startedAdc.isr with jeos := true } }
  dma := base.dma.set 15 { channel0 with tcif := true } }
theorem witness_IntcReads :
    (∀ k : Fin 32, (0x00010001#32).getLsbD k.val = if h : k.val < 17 then line16.asserted ⟨k.val, h⟩ else false) ∧
    (∀ k : Fin 32, (0x00010000#32).getLsbD k.val =
      if h : k.val < 17 then decide ((⟨k.val, h⟩ : Line) ∈ line16.intc.stack) else false) ∧
    base.intc.stack = [] ∧ line16.intc.stack = [16] ∧ (inHandler 0 .ret).intc.stack = [0] := by decide

theorem witness_FaultIsFatal : (∃ t, step base = .next t) ∧ (base.raise ⟨.busRo, .num 1⟩).fault = some ⟨.busRo, .num 1⟩ :=
  ⟨⟨_, rfl⟩, rfl⟩
theorem witness_HostStatements :
    (base.fault = none ∧ base.turn = .statement ∧ base.hostIdle = false ∧ base.top.calls = []) ∧
    ((running base (.set (.user 1) (.num 5))).top.current = some (.set (.user 1) (.num 5)) ∧ (running base .halt).eval (.num 5) = .ok 5) ∧
    (running base (.jmp 1)).top.current = some (.jmp 1) ∧
    (running base (.br (.num 1) 1)).top.current = some (.br (.num 1) 1) ∧ (running base .halt).eval (.num 0) = .ok 0 ∧
    (running base (.brFault (.num 1) .pwmBadArg (.num 7))).top.current = some (.brFault (.num 1) .pwmBadArg (.num 7)) ∧
    (running base (.wait 0)).top.current = some (.wait 0) ∧ (running base (.wait 1)).top.current = some (.wait 1) ∧ (running base (.wait 2)).top.current = some (.wait 2) := by decide
/-- A statement of each form with an unwritten local inside an expression, in each operand, and an operation called with one. -/
theorem witness_Locals :
    let e : Expr := .bin .add (.num 1) (.un .bitNot (.loc (.user 1)))
    let f : FaultRecord := ⟨.hostUndefLocal, .loc (.user 1)⟩
    base.eval e = .error f ∧ base.eval (.num 4) = .ok 4 ∧
    (running base (.rd (.user 0) .b4 e)).top.current = some (.rd (.user 0) .b4 e) ∧
    (running base (.wr .b4 e (.num 4))).top.current = some (.wr .b4 e (.num 4)) ∧
    (running base (.wr .b4 (.num 4) e)).top.current = some (.wr .b4 (.num 4) e) ∧
    (running base (.poll e (.num 4) (.num 4))).top.current = some (.poll e (.num 4) (.num 4)) ∧
    (running base (.poll (.num 4) e (.num 4))).top.current = some (.poll (.num 4) e (.num 4)) ∧
    (running base (.poll (.num 4) (.num 4) e)).top.current = some (.poll (.num 4) (.num 4) e) ∧
    (running base (.br e 0)).top.current = some (.br e 0) ∧
    (running base (.brFault e .pwmBadArg (.num 4))).top.current = some (.brFault e .pwmBadArg (.num 4)) ∧
    (running base (.brFault (.num 4) .pwmBadArg e)).top.current = some (.brFault (.num 4) .pwmBadArg e) ∧
    (running base (.set (.user 0) e)).top.current = some (.set (.user 0) e) ∧
    findLocal [] (.user 1) = none ∧ Expr.locals e = [.user 1] := by decide
theorem test_host_undefLocal_operands :
    faultOf (doStmt base (.poll (.num 0x40001C10) (.num 3) (.loc (.user 2)))) = some (.hostUndefLocal, .loc (.user 2)) ∧
    faultOf (doStmt base (.call (.dmaStop (.loc (.user 2))) [])) = some (.hostUndefLocal, .loc (.user 2)) := by decide
/-- The background at HALT, past its end and at RET; a handler at HALT, past its end and at RET, its claim ended and not; idle. -/
theorem witness_HaltAndReturn :
    (base.handlers = [] ∧ base.halted = false ∧ base.bg.current = none) ∧ (running base .halt).bg.current = some .halt ∧
    (running base .ret).bg.current = some .ret ∧
    (∃ h, (inHandler 16 .halt).handlers = [h] ∧ h.line = some 16 ∧ h.current = some .halt) ∧
    (∃ h, { inHandler 0 .ret with handlers := [{ (inHandler 0 .ret).top with pc := 1 }] }.handlers = [h] ∧ h.line = some 0 ∧ h.current = none) ∧
    (∃ h, (inHandler 1 .ret).handlers = [h] ∧ h.current = some .ret ∧ (inHandler 1 .ret).intc.stack.head? = some 1) ∧
    ({ inHandler 1 .ret with intc := ⟨true, 7, []⟩ }).intc.stack.head? = none ∧ { base with halted := true }.hostIdle = true :=
  ⟨by decide, by decide, by decide, ⟨_, rfl, by decide, by decide⟩, ⟨_, rfl, by decide, by decide⟩, ⟨_, rfl, by decide, by decide⟩,
    by decide, by decide⟩
/-- A POLL whose read gives the value sought, one whose read does not, one whose read holds, and two whose read faults. -/
theorem witness_PollReads :
    (running base (.poll (.num 0x40001400) (.num 0xFF) (.num 0x50))).hostRead .b4 0x40001400 =
      (.word, .value 0x50 (running base (.poll (.num 0x40001400) (.num 0xFF) (.num 0x50)))) ∧
    0x50#32 &&& 0xFF#32 = 0x50#32 ∧ 0x50#32 &&& 0xFF#32 ≠ 0x51#32 ∧
    (withCordic { cordicIdle with busy := true }).hostRead .b4 0x40001408 = (.word, .hold) ∧
    base.hostRead .b4 0x40000040 = (.word, .fault ⟨.busUnmapped, .num 0x40000040⟩) ∧
    base.hostRead .b4 0x40001408 = (.word, .fault ⟨.cordicNoResult, .num 0⟩) :=
  ⟨rfl, by decide, by decide, rfl, rfl, rfl⟩

theorem witness_InterruptEntry :
    line0Asserted.fault = none ∧ line0Asserted.turn = .entry ∧ line0Asserted.intc.gen = true ∧
    line0Asserted.intc.ier.getLsbD 0 = true ∧ line0Asserted.asserted 0 = true ∧
    Line.level 0 < line0Asserted.intc.curlvl ∧ line0Asserted.vec[(0 : Line)] = some [.ret] ∧
    ∀ j : Line, line0Asserted.intc.ier.getLsbD j.val = true → line0Asserted.asserted j = true → Line.level j < line0Asserted.intc.curlvl →
      Line.level 0 < Line.level j ∨ (Line.level 0 = Line.level j ∧ 0 ≤ j) := by decide
theorem witness_InterruptMasking :
    base.intc.gen = false ∧
    (∀ j : Line, ¬((inHandler 1 .ret).intc.ier.getLsbD j.val = true ∧ (inHandler 1 .ret).asserted j = true ∧
      Line.level j < (inHandler 1 .ret).intc.curlvl)) ∧
    (inHandler 0 .ret).intc.stack = [0] ∧
    { line0Asserted with intc := ⟨true, 7, [16]⟩ }.intc.stack = [16] ∧ (16 : Line) ≠ 0 ∧
    { line0Asserted with intc := ⟨true, 7, [16]⟩ }.entryStep.isSome = true := by decide

theorem witness_RegisterReadFrame :
    (∃ t, exec ((Reg.adc .one .dr).rdInstr .byte3) (withAdc startedAdc) = .next t) ∧
    (∃ t, exec ((Reg.cordic .rdata).rdInstr .word) (withCordic cordicDone) = .next t) ∧
    (inHandler 1 .ret).handlers ≠ [] ∧ base.sink ≠ .ok (.store (.user 0)) := ⟨⟨_, rfl⟩, ⟨_, rfl⟩, by decide, by decide⟩
theorem witness_RegisterWriteFrame :
    (Reg.intc .ier).wrInstr 0 = .ok (.intcIerWr 0) ∧ (∃ t, exec (.intcIerWr 0) base = .next t) ∧
    (Reg.pwm .arr).wrInstr 7 = .ok (.pwmArrWr 7) ∧ (∃ t, exec (.pwmArrWr 7) (withPwm traceA) = .next t) :=
  ⟨rfl, ⟨_, rfl⟩, rfl, ⟨_, rfl⟩⟩
theorem witness_OperationCallFrame : Instr.cordicInit.isOperation = true ∧ ∃ t, exec .cordicInit base = .next t :=
  ⟨rfl, ⟨_, rfl⟩⟩

theorem witness_PwmWrites_event : (0#32).getLsbD 0 = false ∧ (1#32).getLsbD 0 = true := by decide
/-- Each check of the PWM writes on both sides of its bound. -/
theorem witness_PwmWrites :
    (traceA.cen = true ∧ (1#32).getLsbD 0 = true ∧ (1#32).getLsbD 1 ≠ traceA.cms) ∧
    ¬(traceA.cen = true ∧ (3#32).getLsbD 0 = true ∧ (3#32).getLsbD 1 ≠ traceA.cms) ∧
    ¬(traceA.cen = true ∧ (0#32).getLsbD 0 = true ∧ (0#32).getLsbD 1 ≠ traceA.cms) ∧ Pwm.reset.cen = false ∧
    (((0x3EE1#32).extractLsb' 0 3).toNat = 1 ∧ ((0x3EE3#32).extractLsb' 0 3).toNat = 3) ∧
    (((0x3E2E#32).extractLsb' 0 3).toNat = 6 ∧ ((0x3E2E#32).extractLsb' 4 3).toNat = 2) ∧
    (((0x3100#32).extractLsb' 0 3).toNat = 0 ∧ ((0x3100#32).extractLsb' 4 3).toNat = 0 ∧ ((0x3100#32).extractLsb' 8 3).toNat = 1) ∧
    (((0x3F40#32).extractLsb' 0 3).toNat = 0 ∧ ((0x3F40#32).extractLsb' 4 3).toNat = 4 ∧ ((0x3F40#32).extractLsb' 8 3).toNat = 7) ∧
    (traceA.arr.toNat < ((4#32).extractLsb' 0 16).toNat ∧ ((3#32).extractLsb' 0 16).toNat ≤ traceA.arr.toNat) := by decide
/-- Words of CR that fail each of the six checks, and one that passes. -/
theorem witness_AdcControlWrite :
    (enabledAdc.aden = true ∧ (0x00000001#32).getLsbD 28 ≠ enabledAdc.advregen) ∧
    ((0x30000000#32).getLsbD 28 = true ∧ (0x30000000#32).getLsbD 29 = true) ∧
    ((0x80000000#32).getLsbD 31 = true ∧ Adc.reset.adcal = false ∧ Adc.reset.vreg ≠ .ready) ∧
    ((0x00000001#32).getLsbD 0 = true ∧ Adc.reset.aden = false ∧ Adc.reset.vreg ≠ .ready) ∧
    ((0x10000004#32).getLsbD 2 = true ∧ calibrated.adstart = false ∧ calibrated.en ≠ .ready) ∧
    ((0x10000008#32).getLsbD 3 = true ∧ calibrated.jadstart = false ∧ calibrated.en ≠ .ready) ∧
    (Adc.reset.aden = false ∧ Adc.reset.adcal = false ∧ (0x10000000#32).getLsbD 29 = false ∧ (0x10000000#32).getLsbD 31 = false ∧
      (0x10000000#32).getLsbD 0 = false ∧ (0x10000000#32).getLsbD 2 = false ∧ (0x10000000#32).getLsbD 3 = false) := by decide
/-- A Running unit and an idle one; the first bad channel in rank 1 and in rank 4, a bad one beyond the length; the trigger selects 1 and 2. -/
theorem witness_AdcConfigWrites :
    startedAdc.adstart = true ∧ (enabledAdc.adstart = false ∧ enabledAdc.jadstart = false) ∧
    (((0x4C0#32).extractLsb' 6 5).toNat = 19 ∧ ((0x4C0#32).extractLsb' 0 2) = 0) ∧
    (((0x13000003#32).extractLsb' 0 2) = 3 ∧ ((0x13000003#32).extractLsb' 24 5).toNat = 19 ∧ ((0x13000003#32).extractLsb' 18 5).toNat = 0) ∧
    (((0x13040#32).extractLsb' 0 2) = 0 ∧ ((0x13040#32).extractLsb' 6 5).toNat = 1 ∧ ((0x13040#32).extractLsb' 12 5).toNat = 19) ∧
    ((0x88#32).extractLsb' 2 5).toNat = 2 ∧ ((0x84#32).extractLsb' 2 5).toNat = 1 ∧
    (((0x2600#32).extractLsb' 9 5).toNat = 19 ∧ ((0x2600#32).extractLsb' 2 5).toNat = 0) := by decide
theorem witness_DmaWrites :
    (channel0.en = true ∧ (0x5A7#32).extractLsb' 1 11 ≠ channel0.cfg ∧ (0x5A3#32).extractLsb' 1 11 = channel0.cfg ∧
      (0x5A3#32).getLsbD 0 = true ∧ (0x5A2#32).extractLsb' 1 11 = channel0.cfg ∧ (0x5A2#32).getLsbD 0 = false) ∧
    (selfStopped.en = false ∧ selfStopped.stopping = true) ∧ ¬(idle0.en = true ∨ idle0.stopping = true) ∧
    (idle0.en = false ∧ (0xF01#32).extractLsb' 8 2 = 3#2 ∧ { idle0 with cndtr := 0 }.cndtr = 0) ∧
    (idle0.en = false ∧ (0x5A3#32).extractLsb' 8 2 ≠ 3#2 ∧ (0x5A3#32).extractLsb' 8 2 = (0x5A3#32).extractLsb' 10 2 ∧ idle0.cndtr ≠ 0 ∧
      idle0.cpar.toNat % 2 = 0 ∧ idle0.cmar.toNat % 2 = 0) ∧
    ((3#32).extractLsb' 0 7).toNat = 3 ∧ ((2#32).extractLsb' 0 7).toNat = 2 := by decide
theorem witness_CordicWrites :
    ({ cordicIdle with busy := true }.busy = true ∧ cordicDone.left ≠ 0 ∧ { cordicIdle with latched := true }.latched = true) ∧
    (cordicIdle.busy = false ∧ cordicIdle.left = 0 ∧ cordicIdle.latched = false ∧ cordicIdle.nargs = false) ∧
    (((2#32).extractLsb' 0 4).toNat = 2 ∧ (0x80001#32).extractLsb' 4 4 = 0#4) ∧
    (((0x80061#32).extractLsb' 0 4).toNat < 2 ∧ (0x80061#32).extractLsb' 4 4 ≠ 0#4) ∧
    ({ cordicIdle with nargs := true }.nargs = true) := by decide
/-- Lines 3 and 16 without a handler program; an EOI by the running handler, by the background, and after the claim has ended. -/
theorem witness_IntcWrites :
    ((0x1000F#32).getLsbD 3 = true ∧ someVec[(3 : Line)] = none ∧ (∀ j : Line, j < 3 → (0x1000F#32).getLsbD j.val = true → someVec[j] ≠ none)) ∧
    ((0x10000#32).getLsbD 16 = true ∧ someVec[(16 : Line)] = none) ∧
    (∀ k : Line, (7#32).getLsbD k.val = true → someVec[k] ≠ none) ∧
    (∃ h, (inHandler 1 .ret).handlers = [h] ∧ (inHandler 1 .ret).intc.stack = [1] ∧ h.line = some 1) ∧
    base.intc.stack = [] ∧ base.handlers = [] ∧
    (∃ h, (inHandler 1 .ret).handlers = [h] ∧ h.line ≠ { inHandler 1 .ret with intc := ⟨true, 7, []⟩ }.intc.stack.head?) :=
  ⟨by decide, by decide, by decide, ⟨_, rfl, rfl, rfl⟩, rfl, rfl, ⟨_, rfl, by decide⟩⟩

theorem witness_PwmOperationCalls :
    (base.eval (.num 2) = .ok 2 ∧ base.eval (.num 65536) = .ok 65536) ∧ (base.eval (.num 1) = .ok 1 ∧ base.eval (.num 65537) = .ok 65537) ∧
    (base.eval (.num 65535) = .ok 65535) := by decide
theorem witness_AdcOperationCalls :
    ((base.adc .two).aden = false ∧ (base.adc .two).adcal = false) ∧
    (((withAdc enabledAdc).adc .one).aden = true ∧ ((withAdc enabledAdc).adc .one).advregen = true) ∧ base.params.chMax = 18 ∧ (base.eval (.num 18) = .ok 18 ∧ base.eval (.num 19) = .ok 19) ∧
    (base.eval (.num 0) = .ok 0 ∧ base.eval (.num 3) = .ok 3) := by decide
theorem witness_DmaOperationCalls :
    base.eval (.num 15) = .ok 15 ∧ base.eval (.num 16) = .ok 16 ∧ base.params.nDma = 16 := by decide
theorem witness_CordicXformOperationCalls :
    (base.eval (.num 0xBF800000) = .ok 0xBF800000 ∧ F32.toQ31 (BitVec.ofInt 32 0xBF800000) = some 0x80000000#32) ∧
    F32.toQ31 (BitVec.ofInt 32 0x3F800000) = none ∧
    (base.cordic.busy = false ∧ base.cordic.left = 0 ∧ base.cordic.latched = false) ∧
    (cordicDone.busy = false ∧ cordicDone.left ≠ 0 ∧ cordicDone.next = 1) ∧ { cordicIdle with busy := true }.busy = true ∧
    (cordicDone.pop.busy = false ∧ cordicDone.pop.left ≠ 0 ∧ cordicDone.pop.next = 2) ∧ { cordicIdle with latched := true }.latched = true ∧
    (base.eval (.num 5) = .ok 5 ∧ base.eval (.num 6) = .ok 6) := by decide

/-- A state at the CALL of an operation with the destinations given: the first hypothesis of every clause of the eight statements
below. -/
def calling (s : State) (i : Instr) (ds : List LocalName) : State := running s (.call i ds)
theorem witness_AtCall (s : State) (i : Instr) (ds : List LocalName) (hw : s.params.wf = true) (hf : s.fault = none)
    (hh : s.handlers = []) (hl : s.halted = false) : (calling s i ds).AtCall i ds := by
  refine ⟨hw, hf, ?_, ?_⟩
  · simp [calling, running, State.hostIdle, hl]
  · simp [calling, running, State.top, hh, Activity.background, Activity.current]
/-- The least period and the greatest. -/
theorem witness_PwmConfigureRun :
    (calling base (.pwmConfigure (.num (2 : Nat))) []).AtCall (.pwmConfigure (.num (2 : Nat))) [] ∧
    (calling base (.pwmConfigure (.num (65536 : Nat))) []).AtCall (.pwmConfigure (.num (65536 : Nat))) [] :=
  have hw : base.params.wf = true := witness_wf.2.2
  ⟨witness_AtCall _ _ _ hw rfl rfl rfl, witness_AtCall _ _ _ hw rfl rfl rfl⟩
theorem witness_PwmSetDutyRun :
    (calling base (.pwmSetDuty (.num (65535 : Nat)) (.num (0 : Nat)) (.num (1 : Nat))) []).AtCall
      (.pwmSetDuty (.num (65535 : Nat)) (.num (0 : Nat)) (.num (1 : Nat))) [] :=
  witness_AtCall _ _ _ witness_wf.2.2 rfl rfl rfl
theorem witness_CordicComputeRun :
    (calling (withCordic cordicIdle) (.cordicCompute (.num (0x3E800000 : Nat))) [.user 0, .user 1]).AtCall
      (.cordicCompute (.num (0x3E800000 : Nat))) [.user 0, .user 1] ∧ (0 : Nat) ≠ 1 ∧
    F32.toQ31 (BitVec.ofNat 32 0x3E800000) = some 0x20000000#32 ∧ cordicIdle.busy = false ∧ cordicIdle.left = 0 ∧
    cordicIdle.latched = false ∧ cordicIdle.nargs = false ∧ cordicIdle.nres = true ∧ cordicIdle.func = 1 :=
  ⟨witness_AtCall _ _ _ witness_wf.2.2 rfl rfl rfl, by decide⟩
theorem witness_XfRunRun :
    (calling base (.xfRun (.num (5 : Nat)) (.num (0 : Nat)) (.num (1 : Nat)) (.num (2 : Nat)) (.num (3 : Nat)))
      [.user 0, .user 1, .user 2, .user 3]).AtCall
      (.xfRun (.num (5 : Nat)) (.num (0 : Nat)) (.num (1 : Nat)) (.num (2 : Nat)) (.num (3 : Nat)))
      [.user 0, .user 1, .user 2, .user 3] ∧ [LocalName.user 0, .user 1, .user 2, .user 3].Nodup :=
  ⟨witness_AtCall _ _ _ witness_wf.2.2 rfl rfl rfl, by decide⟩
/-- Each operation at its CALL: a unit neither enabled nor calibrating; one enabled, one that calibrates, one READY with ADRDY at 0 and
at 1; one READY with a software-triggered sequence, one not; one Running, one not; channels 0, 9, 10 and 18. -/
theorem witness_AdcSetupRuns :
    ((calling base (.adcPowerupCalibrate .two) []).AtCall (.adcPowerupCalibrate .two) [] ∧ base.adc2.aden = false ∧
      base.adc2.adcal = false) ∧
    (calling base (.adcEnable .two) []).AtCall (.adcEnable .two) [] ∧ enabledAdc.aden = true ∧
    (Adc.reset.aden = false ∧ Adc.reset.vreg ≠ .ready ∧ { calibrated with adcal := true }.adcal = true) ∧
    (calibrated.aden = false ∧ calibrated.adcal = false ∧ calibrated.vreg = .ready ∧ calibrated.deeppwd = false ∧
      calibrated.isr.adrdy = false ∧ { calibrated with isr := enabledAdc.isr }.isr.adrdy = true) ∧
    (calling base (.adcStart .two) []).AtCall (.adcStart .two) [] ∧ (calibrated.en ≠ .ready ∧ calibrated.adstart = false) ∧
    (enabledAdc.en = .ready ∧ enabledAdc.deeppwd = false ∧ enabledAdc.jexten = 0 ∧ startedAdc.jexten ≠ 0) ∧
    (calling base (.adcConfigureProduction .two (.num (0 : Nat)) (.num (10 : Nat)) (.num (18 : Nat))) []).AtCall
      (.adcConfigureProduction .two (.num (0 : Nat)) (.num (10 : Nat)) (.num (18 : Nat))) [] ∧
    (startedAdc.adstart = true ∧ enabledAdc.adstart = false ∧ enabledAdc.jadstart = false) ∧ 9 ≤ base.params.chMax ∧
    base.params.chMax = 18 :=
  have hw : base.params.wf = true := witness_wf.2.2
  ⟨⟨witness_AtCall _ _ _ hw rfl rfl rfl, rfl, rfl⟩, witness_AtCall _ _ _ hw rfl rfl rfl, rfl, by decide, by decide,
    witness_AtCall _ _ _ hw rfl rfl rfl, by decide, by decide, witness_AtCall _ _ _ hw rfl rfl rfl, by decide, by decide, rfl⟩
/-- Channel 18, one code and the most; an idle unit enabled and one READY; a Running unit; a trim halfword in range, at its two ends and
below; ranks 1 and 2. -/
theorem witness_AdcMeasureRuns :
    ((calling base (.adcOneShot .two (.num (18 : Nat)) (.num (1 : Nat)) (.num (7 : Nat))) [.user 0]).AtCall
      (.adcOneShot .two (.num (18 : Nat)) (.num (1 : Nat)) (.num (7 : Nat))) [.user 0] ∧ (18 : Nat) ≤ base.params.chMax) ∧
    (calling base (.adcGetAverage .two (.num (18 : Nat))) [.user 0]).AtCall (.adcGetAverage .two (.num (18 : Nat))) [.user 0] ∧
    startedAdc.adstart = true ∧
    (enabledAdc.adstart = false ∧ enabledAdc.jadstart = false ∧ enabledAdc.jact = false ∧ enabledAdc.deeppwd = false ∧
      ranksOk 18 enabledAdc.sqLen enabledAdc.sq ∧ enabledAdc.aden = true ∧ enabledAdc.en = .ready) ∧
    (calibrated.adstart = false ∧ calibrated.jadstart = false ∧ calibrated.jact = false ∧ calibrated.deeppwd = false ∧
      ranksOk 18 calibrated.sqLen calibrated.sq ∧ calibrated.aden = false ∧ calibrated.adcal = false ∧ calibrated.vreg = .ready) ∧
    (4294967295 < 2 ^ 32) ∧
    (calling base .adcReferenceVoltage [.user 0]).AtCall .adcReferenceVoltage [.user 0] ∧
    (par.vrefCalMin.toNat = 1400 ∧ par.vrefCalMax.toNat = 1800 ∧ base.trim.toNat = 1650) ∧
    (calling base .adcVrefCalibrate [.user 0]).AtCall .adcVrefCalibrate [.user 0] ∧
    (calling base (.adcReadInjectedFlag .one) [.user 0]).AtCall (.adcReadInjectedFlag .one) [.user 0] ∧
    (calling base (.adcReadInjectedData .one (.num ((1 : Fin 2).val + 1 : Nat))) [.user 0]).AtCall
      (.adcReadInjectedData .one (.num ((1 : Fin 2).val + 1 : Nat))) [.user 0] :=
  have hw : base.params.wf = true := witness_wf.2.2
  ⟨⟨witness_AtCall _ _ _ hw rfl rfl rfl, by decide⟩, witness_AtCall _ _ _ hw rfl rfl rfl, rfl,
    by unfold ranksOk; decide, by unfold ranksOk; decide, by decide, witness_AtCall _ _ _ hw rfl rfl rfl, by decide,
    witness_AtCall _ _ _ hw rfl rfl rfl, witness_AtCall _ _ _ hw rfl rfl rfl, witness_AtCall _ _ _ hw rfl rfl rfl⟩
/-- The last channel, idle, active, and with a stop pending; request IDs 2 and 3, also above the field's width; lengths 0, 1, 65535 and
65536; sizes and addresses that are refused and accepted. -/
theorem witness_DmaOperationRuns :
    (15 : Fin 16).val < base.params.nDma ∧ (channel0.en = true ∧ selfStopped.stopping = true) ∧
    ¬(idle0.en = true ∨ idle0.stopping = true) ∧
    ((calling base (.dmamuxMap (.num (15 : Fin 16).val) (.num (130 : Nat))) []).AtCall
      (.dmamuxMap (.num (15 : Fin 16).val) (.num (130 : Nat))) [] ∧ (BitVec.ofNat 7 130).toNat = 2 ∧ (BitVec.ofNat 7 3).toNat = 3) ∧
    (calling base (.dmaBind (.num (15 : Fin 16).val) (.num (0x40000440 : Nat))) []).AtCall
      (.dmaBind (.num (15 : Fin 16).val) (.num (0x40000440 : Nat))) [] ∧
    (calling base (.dmaStart (.num (15 : Fin 16).val) (.num (0x20000100 : Nat)) (.num (65535 : Nat))) []).AtCall
      (.dmaStart (.num (15 : Fin 16).val) (.num (0x20000100 : Nat)) (.num (65535 : Nat))) [] ∧
    (0 < 1 ∧ 65535 < 65536) ∧
    (channel0.cfg.extractLsb' 7 2 = 1 ∧ channel0.cfg.extractLsb' 9 2 = 1 ∧ channel0.cpar.toNat % 2 = 0 ∧ 0x20000100 % 2 = 0 ∧
      (0x20000101#32).toNat % 2 ≠ 0) ∧
    (calling base (.dmaStop (.num (15 : Fin 16).val)) []).AtCall (.dmaStop (.num (15 : Fin 16).val)) [] ∧
    (calling base (.dmaTc (.num (15 : Fin 16).val)) [.user 0]).AtCall (.dmaTc (.num (15 : Fin 16).val)) [.user 0] ∧
    (calling base (.dmaClearTc (.num (15 : Fin 16).val)) []).AtCall (.dmaClearTc (.num (15 : Fin 16).val)) [] ∧
    (calling base (.dmaClearAll (.num (15 : Fin 16).val)) []).AtCall (.dmaClearAll (.num (15 : Fin 16).val)) [] :=
  have hw : base.params.wf = true := witness_wf.2.2
  ⟨by decide, by decide, by decide, ⟨witness_AtCall _ _ _ hw rfl rfl rfl, by decide⟩, witness_AtCall _ _ _ hw rfl rfl rfl,
    witness_AtCall _ _ _ hw rfl rfl rfl, by decide, by decide, witness_AtCall _ _ _ hw rfl rfl rfl,
    witness_AtCall _ _ _ hw rfl rfl rfl, witness_AtCall _ _ _ hw rfl rfl rfl, witness_AtCall _ _ _ hw rfl rfl rfl⟩
/-- The CORDIC idle, busy, and with one and two results left; the two argument modes, the first of a pair latched and not. -/
theorem witness_PwmCordicOperationRuns :
    (calling base .pwmEnableOutputs []).AtCall .pwmEnableOutputs [] ∧
    ((calling base .cordicInit []).AtCall .cordicInit [] ∧ base.cordic.busy = false ∧ base.cordic.left = 0 ∧
      base.cordic.latched = false) ∧
    ((calling base (.cordicRequest (.num (0xBF800000 : Nat))) []).AtCall (.cordicRequest (.num (0xBF800000 : Nat))) [] ∧
      F32.toQ31 (BitVec.ofNat 32 0xBF800000) = some 0x80000000#32) ∧
    ({ cordicIdle with busy := true }.busy = true ∧ cordicIdle.nargs = false ∧ { cordicIdle with nargs := true }.latched = false ∧
      { cordicIdle with nargs := true, latched := true }.latched = true) ∧
    ((calling base .cordicCollect [.user 0, .user 1]).AtCall .cordicCollect [.user 0, .user 1] ∧ (0 : Nat) ≠ 1 ∧
      cordicDone.busy = false ∧ cordicDone.next = 1 ∧ cordicDone.left = 2 ∧ { cordicDone with left := 1 }.left = 1) :=
  have hw : base.params.wf = true := witness_wf.2.2
  ⟨witness_AtCall _ _ _ hw rfl rfl rfl, ⟨witness_AtCall _ _ _ hw rfl rfl rfl, by decide⟩,
    ⟨witness_AtCall _ _ _ hw rfl rfl rfl, by decide⟩, by decide, ⟨witness_AtCall _ _ _ hw rfl rfl rfl, by decide⟩⟩

/-- Units in each case of a tick: stopped, waiting for the prescaler, advancing up below and at ARR, down above and at 0, with the
repetition count at 0 and above; each mode of a channel; and both edges of OCREF. -/
theorem witness_PwmTick :
    Pwm.reset.cen = false ∧ (traceD8.cen = true ∧ traceD8.pscCnt < traceD8.pscAct) ∧
    (traceC2.cen = true ∧ traceC2.pscAct ≤ traceC2.pscCnt ∧ traceC2.cms = false) ∧
    (traceA3.cms = true ∧ traceA3.dir = false ∧ ¬traceA3.cnt < traceA3.arr ∧ traceA.cnt < traceA.arr) ∧
    (traceA7.cms = true ∧ traceA7.dir = true ∧ ¬0 < traceA7.cnt ∧ 0 < traceA6.cnt) ∧
    (traceA7.rep = 0 ∧ traceA7.cnt = 0 ∧ traceA3.rep ≠ 0 ∧ traceA3.arr ≤ traceA3.cnt) ∧
    (traceA.ccmr.extractLsb' 0 3 = 6#3 ∧ (0x3457#14).extractLsb' 0 3 = 7#3 ∧ (0x3457#14).extractLsb' 4 3 = 5#3 ∧
      (0x3457#14).extractLsb' 8 3 = 4#3 ∧ Pwm.reset.ccmr.extractLsb' 0 3 = 0#3) ∧
    (traceA5.tick.ocref[0] ≠ traceA5.ocref[0] ∧ traceA6.tick.ocref[0] = traceA6.ocref[0]) := by decide
theorem witness_PwmPeriod :
    (traceA.cen = true ∧ traceA.cms = true ∧ traceA.psc = 0 ∧ traceA.pscAct = 0 ∧ traceA.rcr = 1 ∧ traceA.rep = 1 ∧ traceA.cnt = 0 ∧
      traceA.dir = false) ∧ { traceA with arr := 0 }.arr.toNat + 1 = 1 := by decide
theorem witness_DeadTime :
    traceA5.tick.ocref[0] ≠ traceA5.ocref[0] ∧ (∀ i, i ≤ traceA5.dtg.toNat → (Pwm.ticks (i + 1) traceA5).ocref[0] = traceA5.tick.ocref[0]) ∧
    traceA5.moe = true ∧ traceA5.ccer.getLsbD 0 = true ∧ traceA5.ccer.getLsbD 1 = true ∧
    (traceA7.oc 0 = .high ∧ (Pwm.ticks 4 traceA7).ocn 0 = .high) ∧ (traceA5.ocn 0 = .high ∧ (Pwm.ticks 2 traceA5).oc 0 = .high) := by decide
theorem witness_GlitchFree :
    ccmrPreload traceA.ccmr 0 = true ∧ (∀ i, i < 5 → (Pwm.ticks i traceA).updatesOnTick = false) := by decide
/-- The tick that raises TRGA is next, both units armed. -/
def tickState : State := { withAdc startedAdc with adc2 := startedAdc, pwm := traceA3.tick, turn := .tick }
/-- TRGA rising and falling, both units armed. -/
theorem witness_TriggerDelivery :
    (tickState.fault = none ∧ tickState.turn = .tick ∧ tickState.adc1.jextsel.toNat < 2 ∧ tickState.adc2.jextsel.toNat < 2) ∧
    (traceA3.tick.trga = false ∧ traceA3.tick.tick.trga = true ∧ traceA5.trga = true ∧ traceA5.tick.trga = false) ∧
    startedAdc.armed = true := by decide
theorem witness_AgentSteps :
    (base.fault = none ∧ { base with turn := .pair }.turn = .pair) ∧
    { calibrated with vreg := .starting }.vreg = .starting ∧ { calibrated with cal := .running }.cal = .running ∧
    { enabledAdc with en := .enabling }.en = .enabling ∧
    (startedAdc.en = .ready ∧ startedAdc.adstart = true ∧ startedAdc.jact = false) ∧
    ({ withAdc startedAdc.startInjected with adc2 := startedAdc.startInjected, adcPaired := true }.lockstep = true) ∧
    ((withAdc startedAdc.startInjected).adc1.jact = true ∧ (withAdc startedAdc.startInjected).lockstep = false) ∧
    { channel0 with stopping := true }.stopping = true ∧ { cordicIdle with busy := true }.busy = true := by decide
/-- Channel 0 requesting, as the lowest; memory at the two ends of RAM and just past it; and a peripheral address with no register. -/
theorem witness_DmaBeat :
    (beatBase channel0).dmaReq 0 = true ∧ (∀ b : Fin 16, b < 0 → (beatBase channel0).dmaReq b = false) ∧
    (∀ b : Fin 16, base.dmaReq b = false) ∧
    (channel0.psize = 1 ∧ channel0.dir = false ∧ channel0.pinc = false ∧ channel0.minc = true ∧ channel0.circ = true) ∧
    channel0.pptr = BitVec.ofNat 32 (par.adc1Base + 0x40) ∧ insideRegion par.ramBase par.ramSize 0x20007FFE 2 = true ∧ insideRegion par.ramBase par.ramSize 0x20008000 2 = false ∧
    decode par (.rd .b2 0x40000044#32) = .error (.unmapped 0x40000044#32) := by decide
/-- The sources and destinations of a beat: the trim halfword and its second byte, a register's byte, a CORDIC result not there (an
error) and not yet there (a hold); memory misaligned; with DIR 1 a word register that takes the word and one that refuses it, a
halfword to a register, and the two ends of RAM; a configuration with words from memory and one with bytes. -/
theorem witness_DmaBeat_forms :
    (par.wf = true ∧ (0x1FFF75AA#32).toNat = par.trimAddr ∧ (0x1FFF75AB#32).toNat = par.trimAddr + 1) ∧
    ((Reg.pwm .arr).present par = true ∧ Lane.byte3.size = .b1 ∧ (0x40000023#32).toNat = (Reg.pwm .arr).address par + Lane.byte3.offset) ∧
    (base.regRead (.cordic .rdata) = .fault ⟨.cordicNoResult, .num 0⟩) ∧
    ((withCordic { cordicIdle with busy := true }).regRead (.cordic .rdata) = .hold) ∧
    (0x20000101#32).toNat % Size.b2.bytes ≠ 0 ∧
    (base.regWrite (.dma 1 .cpar) 5).isOk = true ∧
    ((Reg.pwm .arr).address par = 0x40000020 ∧ (withPwm traceA).regWrite (.pwm .arr) 5 = .error ⟨.pwmArrRun, .num 5⟩) ∧
    decode par (.wr .b2 0x40000020#32 5) = .error (.subWordWrite 0x40000020#32) ∧
    (insideRegion par.ramBase par.ramSize 0x20000000 1 = true ∧ insideRegion par.ramBase par.ramSize 0x20007FFF 1 = true) ∧
    ({ channel0 with cfg := 0x508 }.psize = 2 ∧ { channel0 with cfg := 0x508 }.dir = true) ∧ { channel0 with cfg := 0x008 }.psize = 0 ∧
    { channel0 with cfg := 0x008 }.dir = true := by
  refine ⟨⟨witness_wf.1, by decide⟩, by decide, rfl, rfl, by decide, by decide, ⟨by decide, rfl⟩, by decide, by decide, by decide, by decide,
    by decide⟩
theorem witness_RunningResources :
    (∃ t, step { withDma selfStopped with turn := .stopAck 0 } = .next t) ∧
    (∃ t, step { withAdc startedAdc with pwm := traceA, dma := base.dma.set 0 channel0, turn := .beat } = .next t) ∧
    (∃ t, step { withAdc { enabledAdc with adstart := true } with turn := .regular .one } = .next t ∧
      t.adc1.adstart = false) :=
  ⟨⟨_, rfl⟩, ⟨_, rfl⟩, ⟨_, rfl, by decide⟩⟩
theorem witness_Q31Conversions :
    (F32.isNan 0x7FC00000 = true ∧ F32.isInf 0x7F800000 = true ∧ F32.scaled 0xBF800001 < -(2 ^ 149) ∧ 2 ^ 149 ≤ F32.scaled 0x3F800000) ∧
    (F32.isFinite 0xBF800000 = true ∧ -(2 ^ 149) ≤ F32.scaled 0xBF800000 ∧ F32.scaled 0x3F7FFFFF < 2 ^ 149) := by decide

/-- A state with RAM written, both units and a DMA channel running, a CORDIC computation going on and a handler entered, which meets
every invariant; the next step is an injected conversion of unit 1. -/
def busyState : State := { inHandler 1 .ret with
  adc1 := startedAdc.startInjected
  adc2 := startedAdc
  dma := base.dma.set 0 channel0
  cordic := { cordicIdle with busy := true }
  ram := [(0x20000000, 1), (0x20007FFF, 2)]
  turn := .injected .one }
theorem witness_step : ∃ t, step busyState = .next t := ⟨_, rfl⟩
theorem witness_MemoryInvariant : busyState.MemoryOk := by unfold State.MemoryOk; decide
theorem witness_FieldsInvariant : busyState.FieldsOk := by unfold State.FieldsOk Adc.FieldsOk ranksOk; decide
theorem witness_AdcInvariant : busyState.AdcOk := by unfold State.AdcOk Adc.HandshakeOk Adc.SequenceOk; decide
theorem witness_DmaInvariant : busyState.DmaOk := by unfold State.DmaOk DmaChannel.Ok; decide
theorem witness_CordicProtocol : busyState.cordic.Ok ∧ cordicDone.Ok := by unfold Cordic.Ok; decide
theorem witness_DispatchInvariant : busyState.DispatchOk :=
  ⟨rfl, rfl, by decide, by decide, by decide, by decide⟩

end Sys2Proof.Tests
end

section
/-! SUPPORT. The statements of 20_memory.md: which target the bus checks give an access and which rejections there are, what a host read
leaves alone, how bytes make a word; with these, the theorems that settle the family. -/

namespace Sys2Proof

/-! ### Where an address lies -/

/-- A register found at an offset has that offset; likewise for the registers of the other units below. -/
theorem PwmReg.offset_of_at? {o : Nat} {r : PwmReg} (h : PwmReg.at? o = some r) : r.offset = o := by
  unfold PwmReg.at? at h
  split at h <;> cases h <;> rfl

theorem AdcReg.offset_of_at? {o : Nat} {r : AdcReg} (h : AdcReg.at? o = some r) : r.offset = o := by
  unfold AdcReg.at? at h
  split at h <;> cases h <;> rfl

theorem DmaReg.offset_of_at? {o : Nat} {r : DmaReg} (h : DmaReg.at? o = some r) : r.offset = o := by
  unfold DmaReg.at? at h
  split at h <;> cases h <;> rfl

theorem CordicReg.offset_of_at? {o : Nat} {r : CordicReg} (h : CordicReg.at? o = some r) : r.offset = o := by
  unfold CordicReg.at? at h
  split at h <;> cases h <;> rfl

theorem XformReg.offset_of_at? {o : Nat} {r : XformReg} (h : XformReg.at? o = some r) : r.offset = o := by
  unfold XformReg.at? at h
  split at h <;> cases h <;> rfl

theorem IntcReg.offset_of_at? {o : Nat} {r : IntcReg} (h : IntcReg.at? o = some r) : r.offset = o := by
  unfold IntcReg.at? at h
  split at h <;> cases h <;> rfl

/-- A register found at a word-aligned offset of a window is that window's register at that offset, and the machine has it. -/
theorem Window.reg?_some (p : Params) (w : Window) (o : Nat) (r : Reg) (ho : o % 4 = 0) (h : w.reg? p o = some r) :
    r.window = w ∧ r.offset = o ∧ r.present p = true := by
  cases w with
  | pwm =>
    obtain ⟨q, hq, rfl⟩ := Option.map_eq_some_iff.mp h
    exact ⟨rfl, PwmReg.offset_of_at? hq, rfl⟩
  | adc u =>
    obtain ⟨q, hq, rfl⟩ := Option.map_eq_some_iff.mp h
    exact ⟨rfl, AdcReg.offset_of_at? hq, rfl⟩
  | dma =>
    simp only [Window.reg?] at h
    split at h
    · rename_i c hc
      obtain ⟨q, hq, rfl⟩ := Option.map_eq_some_iff.mp h
      obtain ⟨hval, hlt⟩ := channel?_some p _ c hc
      have hoff := DmaReg.offset_of_at? hq
      refine ⟨rfl, ?_, decide_eq_true hlt⟩
      simp only [Reg.offset]
      omega
    · cases h
  | dmamux =>
    obtain ⟨c, hc, rfl⟩ := Option.map_eq_some_iff.mp h
    obtain ⟨hval, hlt⟩ := channel?_some p _ c hc
    refine ⟨rfl, ?_, decide_eq_true hlt⟩
    simp only [Reg.offset]
    omega
  | cordic =>
    obtain ⟨q, hq, rfl⟩ := Option.map_eq_some_iff.mp h
    exact ⟨rfl, CordicReg.offset_of_at? hq, rfl⟩
  | xform =>
    obtain ⟨q, hq, rfl⟩ := Option.map_eq_some_iff.mp h
    exact ⟨rfl, XformReg.offset_of_at? hq, rfl⟩
  | intc =>
    obtain ⟨q, hq, rfl⟩ := Option.map_eq_some_iff.mp h
    exact ⟨rfl, IntcReg.offset_of_at? hq, rfl⟩

/-- The window found for an access contains it. -/
theorem Params.window?_some (p : Params) (a n : Nat) (w : Window) (h : p.window? a n = some w) :
    insideRegion (w.base p) p.win a n = true := by simpa using List.find?_some h

theorem Size.bytes_dvd_four (n : Size) : n.bytes ∣ 4 := by cases n <;> decide

theorem Size.bytes_pos (n : Size) : 1 ≤ n.bytes := by cases n <;> decide

/-- A lane exists exactly where the access is naturally aligned. -/
theorem Lane.at?_isSome (n : Size) (k : Nat) (hk : k < 4) : (Lane.at? n k).isSome = decide (k % n.bytes = 0) := by
  interval_cases k <;> cases n <;> rfl

/-- The lane of an access depends on its address modulo 4 alone. -/
theorem Lane.at?_mod_four (n : Size) (x : Nat) : (Lane.at? n (x % 4)).isSome = decide (x % n.bytes = 0) := by
  rw [Lane.at?_isSome n _ (Nat.mod_lt _ (by decide)), Nat.mod_mod_of_dvd _ n.bytes_dvd_four]

theorem Lane.exists_of_aligned {n : Size} {x : Nat} (h : x % n.bytes = 0) : ∃ lane, Lane.at? n (x % 4) = some lane :=
  Option.isSome_iff_exists.mp (by rw [Lane.at?_mod_four, h, decide_eq_true rfl])

theorem Lane.none_of_misaligned {n : Size} {x : Nat} (h : x % n.bytes ≠ 0) : Lane.at? n (x % 4) = none :=
  Option.not_isSome_iff_eq_none.mp (by rw [Lane.at?_mod_four, decide_eq_true_iff]; exact h)

/-! ### Which target the bus checks give -/

/-- The access lies on a register of the machine: inside its unit's window, in the register's word (20_memory.md R202, R203). -/
def Reg.Holds (p : Params) (n : Size) (a : Word) (r : Reg) : Prop :=
  insideRegion (r.window.base p) p.win a.toNat n.bytes = true ∧ r.present p = true ∧ r.address p = a.toNat - a.toNat % 4

theorem locate_inRam (p : Params) (n : Size) (a : Word) (h : insideRegion p.ramBase p.ramSize a.toNat n.bytes = true) :
    locate p n a = if a.toNat % n.bytes = 0 then .ok (.ram (BitVec.ofNat 32 (a.toNat - p.ramBase))) else .error (.misaligned a) := by
  simp only [locate, h, if_true]

/-- An access inside one of two regions that lie apart is not inside the other. -/
theorem insideRegion_false {base size base' size' a n : Nat} (hn : 1 ≤ n) (h : insideRegion base size a n = true)
    (hap : base + size ≤ base' ∨ base' + size' ≤ base) : insideRegion base' size' a n = false := by
  rw [insideRegion_iff] at h
  rw [Bool.eq_false_iff, ne_eq, insideRegion_iff]
  omega

theorem locate_inTrim (p : Params) (hp : p.wf = true) (n : Size) (a : Word) (h : insideRegion p.trimAddr 2 a.toNat n.bytes = true) :
    locate p n a = if a.toNat % n.bytes = 0 then .ok (.trim (BitVec.ofNat 1 (a.toNat - p.trimAddr))) else .error (.misaligned a) := by
  have hram := insideRegion_false n.bytes_pos h (p.layout hp).ramTrim.symm
  simp only [locate, h, hram, Bool.false_eq_true, if_false, if_true]

/-- An access to a register's word: the lane there, or none where it is not naturally aligned. -/
theorem locate_onReg (p : Params) (hp : p.wf = true) (n : Size) (a : Word) (r : Reg) (h : r.Holds p n a) :
    locate p n a = (Lane.at? n (a.toNat % 4)).elim (.error (.misaligned a)) fun lane => .ok (.reg r lane) := by
  obtain ⟨hin, hpresent, haddr⟩ := h
  have L := p.layout hp
  have hram := insideRegion_false n.bytes_pos hin (L.ramWindow r.window).symm
  have htrim := insideRegion_false n.bytes_pos hin (L.trimWindow r.window).symm
  have hwin := p.window?_eq hp _ _ _ n.bytes_pos hin
  have hbase := (L.window r.window).1
  have hlow : r.window.base p ≤ a.toNat := ((insideRegion_iff _ _ _ _).mp hin).1
  have hlane : (a.toNat - r.window.base p) % 4 = a.toNat % 4 := by omega
  have hword : a.toNat - r.window.base p - a.toNat % 4 = r.offset := by
    simp only [Reg.address] at haddr
    omega
  simp only [locate, hram, htrim, hwin, hlane, hword, Window.reg?_offset p r hpresent, Bool.false_eq_true, if_false]
  cases Lane.at? n (a.toNat % 4) <;> rfl

/-- An access outside RAM, the trim halfword and every register's word is unmapped. -/
theorem locate_unmapped (p : Params) (hp : p.wf = true) (n : Size) (a : Word)
    (hram : insideRegion p.ramBase p.ramSize a.toNat n.bytes = false) (htrim : insideRegion p.trimAddr 2 a.toNat n.bytes = false)
    (hreg : ∀ r : Reg, ¬ r.Holds p n a) : locate p n a = .error (.unmapped a) := by
  simp only [locate, hram, htrim, Bool.false_eq_true, if_false]
  cases hwin : p.window? a.toNat n.bytes with
  | none => rfl
  | some w =>
    have hin := p.window?_some _ _ _ hwin
    have hlow : w.base p ≤ a.toNat := ((insideRegion_iff _ _ _ _).mp hin).1
    have hbase := ((p.layout hp).window w).1
    cases hr : w.reg? p (a.toNat - w.base p - (a.toNat - w.base p) % 4) with
    | none => simp only [hr]
    | some r =>
      obtain ⟨rfl, hoff, hpresent⟩ := Window.reg?_some p w _ r (by omega) hr
      refine absurd ⟨hin, hpresent, ?_⟩ (hreg r)
      simp only [Reg.address, hoff]
      omega

/-- The access lies in RAM, in the trim halfword or on a register. -/
def Params.Maps (p : Params) (n : Size) (a : Word) : Prop :=
  insideRegion p.ramBase p.ramSize a.toNat n.bytes = true ∨ insideRegion p.trimAddr 2 a.toNat n.bytes = true ∨
    ∃ r : Reg, r.Holds p n a

/-- A naturally aligned access to a mapped address has a target. -/
theorem locate_aligned (p : Params) (hp : p.wf = true) (n : Size) (a : Word) (h : p.Maps n a) (ha : a.toNat % n.bytes = 0) :
    ∃ t, locate p n a = .ok t := by
  rcases h with hram | htrim | ⟨r, hr⟩
  · exact ⟨_, by rw [locate_inRam p n a hram, if_pos ha]⟩
  · exact ⟨_, by rw [locate_inTrim p hp n a htrim, if_pos ha]⟩
  · obtain ⟨lane, hl⟩ := Lane.exists_of_aligned ha
    exact ⟨.reg r lane, by rw [locate_onReg p hp n a r hr, hl, Option.elim]⟩

/-- A misaligned access to a mapped address is rejected as such. -/
theorem locate_misaligned (p : Params) (hp : p.wf = true) (n : Size) (a : Word) (h : p.Maps n a) (ha : a.toNat % n.bytes ≠ 0) :
    locate p n a = .error (.misaligned a) := by
  rcases h with hram | htrim | ⟨r, hr⟩
  · rw [locate_inRam p n a hram, if_neg ha]
  · rw [locate_inTrim p hp n a htrim, if_neg ha]
  · rw [locate_onReg p hp n a r hr, Lane.none_of_misaligned ha, Option.elim]

/-! ### What decoding makes of a target -/

/-- A failed region, offset or alignment check rejects reads and writes alike. -/
theorem decode_of_locate_error {p : Params} {n : Size} {a : Word} {e : Reject} (h : locate p n a = .error e) (d : Word) :
    decode p (.rd n a) = .error e ∧ decode p (.wr n a d) = .error e := by
  simp only [decode, h, and_self]

/-- Every target can be read. -/
theorem decode_rd_of_locate_ok {p : Params} {n : Size} {a : Word} {t : Target} (h : locate p n a = .ok t) :
    ∃ i, decode p (.rd n a) = .ok i := by
  simp only [decode, h]
  cases t <;> exact ⟨_, rfl⟩

/-- Settles O4: `locate_unmapped`, `locate_misaligned` and `locate_aligned` decide the checks that reads and writes share; what a write
adds is the one case of `decode` for its target. -/
theorem busChecks : Obligations.BusChecks := by
  unfold Obligations.BusChecks
  intro p n a d hp
  refine ⟨fun h => ?_, fun h ha => ?_, fun h ha => ?_, fun htrim ha => ?_, fun ⟨r, hr⟩ ha hn => ?_, fun hram ha => ?_⟩
  · obtain ⟨hram, htrim, hreg⟩ := (not_or.trans (and_congr_right' not_or)).mp h
    exact decode_of_locate_error (locate_unmapped p hp n a (Bool.eq_false_iff.mpr hram) (Bool.eq_false_iff.mpr htrim)
      (not_exists.mp hreg)) d
  · exact decode_of_locate_error (locate_misaligned p hp n a h ha) d
  · obtain ⟨t, ht⟩ := locate_aligned p hp n a h ha
    exact decode_rd_of_locate_ok ht
  · simp only [decode, locate_inTrim p hp n a htrim, if_pos ha]
  · obtain ⟨lane, hl⟩ := Lane.exists_of_aligned ha
    simp only [decode, locate_onReg p hp n a r hr, hl, Option.elim, if_neg hn]
  · exact ⟨ramWrInstr n (BitVec.ofNat 32 (a.toNat - p.ramBase)) d, by simp only [decode, locate_inRam p n a hram, if_pos ha]⟩

/-! ### Which rejections there are -/

/-- The region, offset and alignment checks carry the address. -/
theorem locate_error_cases {p : Params} {n : Size} {a : Word} {e : Reject} (h : locate p n a = .error e) :
    e = .unmapped a ∨ e = .misaligned a := by
  simp only [locate] at h
  split at h
  · split at h <;> cases h
    exact .inr rfl
  · split at h
    · split at h <;> cases h
      exact .inr rfl
    · split at h
      · cases h
        exact .inl rfl
      · split at h
        · cases h
          exact .inl rfl
        · split at h <;> cases h
          exact .inr rfl

/-- A read is rejected by the checks of its address alone. -/
theorem decode_rd_error_cases {p : Params} {n : Size} {a : Word} {e : Reject} (h : decode p (.rd n a) = .error e) :
    e = .unmapped a ∨ e = .misaligned a := by
  cases hl : locate p n a with
  | error e' => simp only [decode, hl] at h; cases h; exact locate_error_cases hl
  | ok t => cases t <;> simp only [decode, hl] at h <;> cases h

/-- A CTRL write of the transform unit is refused by its word for an operation code of 6 or 7. -/
theorem Reg.wrInstr_ctrl_error {v : Word} {e : Reject} (h : Reg.wrInstr (.xform .ctrl) v = .error e) :
    ∃ op, 6 ≤ op.toNat ∧ e = .reservedOp op := by
  simp only [Reg.wrInstr] at h
  split at h
  case h_7 op h0 h1 h2 h3 h4 h5 =>
    cases h
    refine ⟨v.extractLsb' 0 3, ?_, rfl⟩
    generalize v.extractLsb' 0 3 = op at h0 h1 h2 h3 h4 h5
    revert op
    decide
  all_goals cases h

/-- A register write is refused by its word only at `XFORM.CTRL`. -/
theorem Reg.wrInstr_error_cases {r : Reg} {v : Word} {e : Reject} (h : r.wrInstr v = .error e) :
    ∃ op, 6 ≤ op.toNat ∧ e = .reservedOp op := by
  cases r with
  | pwm r => cases r <;> cases h
  | adc u r => cases u <;> cases r <;> cases h
  | dma c r => cases r <;> cases h
  | dmamux c => cases h
  | cordic r => cases r <;> cases h
  | xform r =>
    cases r with
    | ctrl => exact Reg.wrInstr_ctrl_error h
    | _ => cases h
  | intc r => cases r <;> cases h

/-- A write is rejected by the checks of its address, as a write to the trim halfword or of part of a register, or by a reserved
operation code. -/
theorem decode_wr_error_cases {p : Params} {n : Size} {a d : Word} {e : Reject} (h : decode p (.wr n a d) = .error e) :
    e = .unmapped a ∨ e = .misaligned a ∨ e = .readOnly a ∨ e = .subWordWrite a ∨ ∃ op, 6 ≤ op.toNat ∧ e = .reservedOp op := by
  cases hl : locate p n a with
  | error e' =>
    simp only [decode, hl] at h
    cases h
    exact (locate_error_cases hl).imp_right .inl
  | ok t =>
    simp only [decode, hl] at h
    cases t with
    | ram off => cases h
    | trim off => cases h; exact .inr (.inr (.inl rfl))
    | reg r lane =>
      simp only at h
      split at h
      · exact .inr (.inr (.inr (.inr (Reg.wrInstr_error_cases h))))
      · cases h; exact .inr (.inr (.inr (.inl rfl)))

end Sys2Proof

namespace Sys2Proof.Machine

/-! ### The memory invariant -/

/-- The invariant reads nothing of a state but its memory and its parameters. -/
theorem State.MemoryOk.of_same {s t : State} (h : s.MemoryOk) (hr : t.ram = s.ram) (hp : t.params = s.params) : t.MemoryOk := by
  simpa only [State.MemoryOk, hr, hp] using h

/-- A write inside RAM keeps memory canonical and inside RAM. -/
theorem State.MemoryOk.memWrite {s : State} (h : s.MemoryOk) (n : Size) (a : Nat) (v : Word) (hlo : s.params.ramBase ≤ a)
    (hhi : a + n.bytes ≤ s.params.ramBase + s.params.ramSize) : (s.memWrite n a v).MemoryOk :=
  ⟨s.memWrite_wf n a v h.1, s.memWrite_inRam n a v h.2 hlo hhi⟩

/-- No agent but the beat touches memory. -/
theorem agentStep_memory (s t : State) (m : Move) (hm : m ≠ .beat) (h : s.agentStep m = some t) :
    t.ram = s.ram ∧ t.params = s.params := by
  rcases agentStep_some s t m hm h with ⟨_, _, _, rfl⟩ | ⟨_, rfl⟩ | ⟨_, _, _, rfl⟩ | ⟨_, _, _, rfl⟩ | ⟨_, _, _, rfl⟩ | ⟨_, _, _, rfl⟩ |
    ⟨_, _, _, _, rfl⟩ | ⟨_, _, rfl⟩ | ⟨_, _, _, rfl⟩ | ⟨_, _, _, rfl⟩ <;> exact ⟨rfl, rfl⟩

/-- Every operation a step is made of keeps memory canonical and inside RAM; only a RAM write touches it. -/
theorem memoryOk_stepKeeps : StepKeeps State.MemoryOk where
  top _ _ _ _ h := h
  ret s t ht h := by
    obtain ⟨_, _, _, rfl, _⟩ := leaveHandler_ok s t ht
    exact h
  data _ _ h := h
  halt _ _ h := h
  raise _ _ h := h
  sched _ h := h
  read s r v t ht h := h.of_same (regRead_host s t r v ht).ram (regRead_host s t r v ht).params
  write s r v t ht h := h.of_same (regWrite_host s t r v ht).ram (regWrite_host s t r v ht).params
  mem _ n a v hlo hhi h := h.memWrite n a v hlo hhi
  agent s m t hm ht h := h.of_same (agentStep_memory s t m hm ht).1 (agentStep_memory s t m hm ht).2
  error _ _ h := h
  beat _ _ _ h := h

/-- Settles O54: each operation of a step keeps the canonical form, the only one that touches memory being a write inside RAM. -/
theorem memoryInvariant : Obligations.MemoryInvariant := memoryOk_stepKeeps.step

/-! ### Rejected accesses -/

/-- A host statement's step, in a machine without a fault whose turn it is. -/
theorem step_statement (s : State) (hf : s.fault = none) (ht : s.turn = .statement) :
    step s = Cpu.schedule (Cpu.hostStatement s) := by
  simp only [step, hf, ht]

/-- A rejected transaction records the fault of its check. -/
theorem perform_of_decode_error {s : State} {x : Transaction} {e : Reject} (h : decode s.params x = .error e) :
    Cpu.perform s x = .next (s.raise (rejectFault e)) := by
  simp only [Cpu.perform, h]

/-- A read statement whose operands evaluate performs its transaction. -/
theorem performRead_of_eval {s : State} {n : Size} {e : Expr} {a : Word} {k : Sink} (he : s.evalWord e = .ok a)
    (hk : s.sink = .ok k) : Cpu.performRead s n e = Cpu.perform s (.rd n a) := by
  simp only [Cpu.performRead, he, hk]

/-- A write statement whose operands evaluate performs its transaction. -/
theorem performWrite_of_eval {s : State} {n : Size} {e v : Expr} {a d : Word} (he : s.evalWord e = .ok a) (hv : s.evalWord v = .ok d) :
    Cpu.performWrite s n e v = Cpu.perform s (.wr n a (Size.trunc n d)) := by
  simp only [Cpu.performWrite, State.wrTransaction, he, hv]

theorem sink_rd {s : State} {x : LocalName} {n : Size} {e : Expr} (hc : s.top.current = some (.rd x n e)) :
    s.sink = .ok (.store x) := by
  simp only [State.sink, hc]

theorem sink_poll {s : State} {e m v : Expr} {a wm wv : Word} (hc : s.top.current = some (.poll e m v)) (he : s.evalWord e = .ok a)
    (hm : s.evalWord m = .ok wm) (hv : s.evalWord v = .ok wv) : s.sink = .ok (.poll a wm wv) := by
  simp only [State.sink, hc, he, hm, hv]

/-- The step of a statement whose transaction is rejected: the state before it with the fault of the check. -/
theorem step_of_decode_error {s : State} {x : Transaction} {e : Reject} (hf : s.fault = none) (ht : s.turn = .statement)
    (hx : Cpu.hostStatement s = Cpu.perform s x) (h : decode s.params x = .error e) :
    step s = .next (s.raise (rejectFault e)).scheduled := by
  rw [step_statement s hf ht, hx, perform_of_decode_error h, Cpu.schedule]

/-- A read rejected by its address check, whichever statement issues it. -/
theorem step_rejected_read {s : State} {n : Size} {a : Word} (hf : s.fault = none) (ht : s.turn = .statement)
    (hx : Cpu.hostStatement s = Cpu.perform s (.rd n a)) :
    (∀ b, decode s.params (.rd n a) = .error (.unmapped b) → step s = .next (s.raise ⟨.busUnmapped, .num a.toNat⟩).scheduled) ∧
    (∀ b, decode s.params (.rd n a) = .error (.misaligned b) → step s = .next (s.raise ⟨.busAlign, .num a.toNat⟩).scheduled) := by
  refine ⟨fun b h => ?_, fun b h => ?_⟩
  all_goals
    obtain rfl : b = a := by simpa using decode_rd_error_cases h
    exact step_of_decode_error hf ht hx h

/-- Settles O6: a rejected transaction records the fault of its check, and every rejection carries the transaction's own address. -/
theorem rejectedAccessFaults : Obligations.RejectedAccessFaults := by
  unfold Obligations.RejectedAccessFaults
  intro s hf ht hi
  refine ⟨fun x n e a hc he => step_rejected_read hf ht ?_, fun e m v a wm wv hc he hm hv => step_rejected_read hf ht ?_,
    fun n e v a d hc he hv => ?_⟩
  · simp only [Cpu.hostStatement, hi, hc, Bool.false_eq_true, if_false, performRead_of_eval he (sink_rd hc)]
  · simp only [Cpu.hostStatement, hi, hc, Bool.false_eq_true, if_false, performRead_of_eval he (sink_poll hc he hm hv)]
  · have hx : Cpu.hostStatement s = Cpu.perform s (.wr n a (Size.trunc n d)) := by
      simp only [Cpu.hostStatement, hi, hc, Bool.false_eq_true, if_false, performWrite_of_eval he hv]
    refine ⟨fun b h => ?_, fun b h => ?_, fun b h => ?_, fun b h => ?_, fun op h => ⟨?least, step_of_decode_error hf ht hx h⟩⟩
    case least => simpa using decode_wr_error_cases h
    all_goals
      obtain rfl : b = a := by simpa using decode_wr_error_cases h
      exact step_of_decode_error hf ht hx h

/-! ### RAM writes -/

/-- Byte i of a word: the quotient that the memory laws give is its bits 8i+7..8i. -/
theorem byte_of_word (v : Word) (i : Nat) : BitVec.ofNat 8 (v.toNat / 256 ^ i) = v.extractLsb' (8 * i) 8 := by
  apply BitVec.eq_of_toNat_eq
  rw [BitVec.toNat_ofNat, BitVec.extractLsb'_toNat, Nat.shiftRight_eq_div_pow, Nat.pow_mul]

/-- The position is not read when a byte of memory is. -/
@[simp] theorem State.advance_byteAt (s : State) (a : Nat) : s.advance.byteAt a = s.byteAt a := rfl

/-- Settles O7: the write rows are `memWrite` by definition, and its bytes are those of the memory laws. -/
theorem ramWrites : Obligations.RamWrites := by
  unfold Obligations.RamWrites
  intro s off d
  refine ⟨rfl, rfl, rfl, fun n => ⟨fun i hi => ?_, fun e he => ?_, rfl⟩⟩
  · rw [State.advance_byteAt, State.byteAt_memWrite_inside s n _ i d hi, byte_of_word]
  · rw [State.advance_byteAt, State.byteAt_memWrite_outside s n _ e d he]

/-! ### RAM and trim reads: the byte at the address is the least significant (20_memory.md R204) -/

/-- A byte appended below a vector. -/
theorem toNat_append_byte {n : Nat} (x : BitVec n) (b : Byte) : (x ++ b).toNat = b.toNat + 256 * x.toNat := by
  rw [BitVec.toNat_append, ← Nat.shiftLeft_add_eq_or_of_lt b.isLt, Nat.shiftLeft_eq]
  omega

theorem State.memRead_b1 (s : State) (a : Nat) : s.memRead .b1 a = 0#24 ++ s.byteAt a := by
  apply BitVec.eq_of_toNat_eq
  simp only [State.memRead, Size.bytes, State.memNat, toNat_append_byte, BitVec.toNat_ofNat]
  omega

theorem State.memRead_b2 (s : State) (a : Nat) : s.memRead .b2 a = 0#16 ++ s.byteAt (a + 1) ++ s.byteAt a := by
  apply BitVec.eq_of_toNat_eq
  simp only [State.memRead, Size.bytes, State.memNat, toNat_append_byte, BitVec.toNat_ofNat]
  omega

theorem State.memRead_b4 (s : State) (a : Nat) :
    s.memRead .b4 a = s.byteAt (a + 3) ++ s.byteAt (a + 2) ++ s.byteAt (a + 1) ++ s.byteAt a := by
  apply BitVec.eq_of_toNat_eq
  simp only [State.memRead, Size.bytes, State.memNat, toNat_append_byte, BitVec.toNat_ofNat, Nat.add_assoc, Nat.reduceAdd]
  omega

/-- Zero extension puts zeros above the value. -/
theorem setWidth_eq_zero_append {w : Nat} (n : Nat) (x : BitVec w) : x.setWidth (n + w) = 0#n ++ x := by
  rw [BitVec.setWidth_eq_append (Nat.le_add_left w n)]
  exact BitVec.eq_of_toNat_eq (by simp [BitVec.toNat_append])

theorem State.trimRead_b1 (s : State) (low : BitVec 1) :
    s.trimRead .b1 low = 0#24 ++ (if low = 0 then s.trim.extractLsb' 0 8 else s.trim.extractLsb' 8 8) := by
  obtain rfl | rfl := low.eq_zero_or_eq_one
  · exact setWidth_eq_zero_append 24 (s.trim.extractLsb' 0 8)
  · exact setWidth_eq_zero_append 24 (s.trim.extractLsb' 8 8)

theorem State.trimRead_b2 (s : State) (low : BitVec 1) : s.trimRead .b2 low = 0#16 ++ s.trim :=
  setWidth_eq_zero_append 16 s.trim

/-- A listed byte of RAM reads as it was written. -/
theorem State.byteAt_of_find (s : State) (e : Nat) (b : Byte) (h : s.ram.find e = some b) : s.byteAt e = b := by
  simp only [State.byteAt, h]

/-- Settles O8: each row is a read into the local, of the value that the lemma of its size gives. -/
theorem ramAndTrimReads : Obligations.RamAndTrimReads := by
  unfold Obligations.RamAndTrimReads
  intro s x off low hs
  have row (v : Word) : Cpu.runRead s .word (.value v s) = .next (s.loaded x v) := runRead_store s s x .word v hs
  refine ⟨?_, ?_, ?_, ?_, ?_, s.byteAt_of_find⟩
  · rw [← State.memRead_b1]; exact row _
  · rw [← State.memRead_b2]; exact row _
  · rw [← State.memRead_b4]; exact row _
  · rw [← State.trimRead_b1]; exact row _
  · rw [← State.trimRead_b2 s 0]; exact row _

/-! ### The frame of a read -/

@[simp] theorem State.setTop_handlers_tail (s : State) (a : Activity) : (s.setTop a).handlers.tail = s.handlers.tail := by
  unfold State.setTop; cases s.handlers <;> rfl

/-- Below a handler the background stays when the top activity is replaced. -/
theorem State.setTop_bg {s : State} (a : Activity) (h : s.handlers ≠ []) : (s.setTop a).bg = s.bg := by
  unfold State.setTop
  cases hh : s.handlers with
  | nil => exact absurd hh h
  | cons => rfl

/-- A local just written is read back, every other is as before (40_bus.md R402). -/
theorem findLocal_writeLocal (loc : List (LocalName × Word)) (x y : LocalName) (v : Word) :
    findLocal (writeLocal loc x v) y = if x = y then some v else findLocal loc y := by
  induction loc with
  | nil => rfl
  | cons c rest ih =>
    obtain ⟨z, w⟩ := c
    by_cases hzx : z = x
    · subst hzx
      simp only [writeLocal, if_pos, findLocal]
      split <;> rfl
    · simp only [writeLocal, if_neg hzx, findLocal, ih]
      by_cases hzy : z = y
      · subst hzy
        simp only [if_pos, if_neg (Ne.symm hzx)]
      · simp only [if_neg hzy]

/-- From s to t the host has moved its top activity at most, whose locals other than the destination of k, level and line are as
before; it may have recorded a transaction's result or a fault. Units, memory and launch inputs are the same. -/
structure State.ReadFrame (s t : State) (k : Except FaultRecord Sink) : Prop where
  units : s.SameUnits t
  stepNo : t.stepNo = s.stepNo
  halted : t.halted = s.halted
  length : t.handlers.length = s.handlers.length
  tail : t.handlers.tail = s.handlers.tail
  bg : s.handlers ≠ [] → t.bg = s.bg
  lvl : t.top.lvl = s.top.lvl
  line : t.top.line = s.top.line
  loc : ∀ y, k ≠ .ok (.store y) → findLocal t.top.loc y = findLocal s.top.loc y

theorem State.SameUnits.refl (s : State) : s.SameUnits s := ⟨rfl, rfl, rfl, rfl, rfl, rfl, rfl, rfl, rfl, rfl, rfl, rfl, rfl⟩

theorem State.ReadFrame.refl (s : State) (k : Except FaultRecord Sink) : s.ReadFrame s k :=
  ⟨.refl s, rfl, rfl, rfl, rfl, fun _ => rfl, rfl, rfl, fun _ _ => rfl⟩

theorem State.ReadFrame.raise (s : State) (f : FaultRecord) (k : Except FaultRecord Sink) : s.ReadFrame (s.raise f) k :=
  ⟨⟨rfl, rfl, rfl, rfl, rfl, rfl, rfl, rfl, rfl, rfl, rfl, rfl, rfl⟩, rfl, rfl, rfl, rfl, fun _ => rfl, rfl, rfl, fun _ _ => rfl⟩

/-- Recording a result and replacing the top activity by one with the same level and line. -/
theorem State.ReadFrame.setTop (s : State) (w : Word) (a : Activity) (k : Except FaultRecord Sink) (hlvl : a.lvl = s.top.lvl)
    (hline : a.line = s.top.line) (hloc : ∀ y, k ≠ .ok (.store y) → findLocal a.loc y = findLocal s.top.loc y) :
    s.ReadFrame ({ s with busData := w }.setTop a) k where
  units := ⟨rfl, rfl, rfl, rfl, rfl, rfl, rfl, rfl, rfl, rfl, rfl, rfl, rfl⟩
  stepNo := rfl
  halted := rfl
  length := State.setTop_handlers_length _ a
  tail := State.setTop_handlers_tail _ a
  bg := State.setTop_bg (s := { s with busData := w }) a
  lvl := by rw [State.top_setTop, hlvl]
  line := by rw [State.top_setTop, hline]
  loc y hy := by rw [State.top_setTop, hloc y hy]

/-- A read's result changes its destination and the position. -/
theorem State.absorb_frame {s t : State} {k : Sink} {r : Word} (h : s.absorb k r = .done t) : s.ReadFrame t (.ok k) := by
  cases k with
  | store x =>
    rw [absorb_store] at h
    cases h
    refine .setTop s r _ _ rfl rfl fun y hy => ?_
    have hxy : x ≠ y := fun e => hy (e ▸ rfl)
    exact (findLocal_writeLocal _ x y r).trans (if_neg hxy)
  | drop =>
    cases h
    exact .setTop s r _ _ rfl rfl fun _ _ => rfl
  | poll a m v =>
    simp only [State.absorb] at h
    split at h
    · cases h
      exact .setTop s r _ _ rfl rfl fun _ _ => rfl
    · split at h <;> cases h
      exact .setTop s r _ _ rfl rfl fun _ _ => rfl

/-- A host read of a register: from the state its rule gives, or from the state before where it gives none, only the host's own part
moves. -/
theorem runRead_frame {s t : State} {lane : Lane} {r : ReadResult} (h : Cpu.runRead s lane r = .next t) :
    ∃ u, (u = s ∨ ∃ v, r = .value v u) ∧ u.ReadFrame t s.sink := by
  unfold Cpu.runRead Cpu.finishRead at h
  cases hk : s.sink with
  | error f =>
    rw [hk] at h
    cases h
    exact ⟨s, .inl rfl, .raise s f _⟩
  | ok k =>
    rw [hk] at h
    cases r with
    | hold => cases h; exact ⟨s, .inl rfl, .refl s _⟩
    | fault f => cases h; exact ⟨s, .inl rfl, .raise s f _⟩
    | value v u =>
      cases ha : u.absorb k (Lane.take lane v) with
      | done w => simp only [ha, Cpu.outcome] at h; cases h; exact ⟨u, .inr ⟨v, rfl⟩, State.absorb_frame ha⟩
      | hold => simp only [ha, Cpu.outcome] at h; cases h; exact ⟨s, .inl rfl, .refl s _⟩
      | fault f => simp only [ha, Cpu.outcome] at h; cases h; exact ⟨s, .inl rfl, .raise s f _⟩

theorem SameHost.top {s t : State} (h : SameHost s t) : t.top = s.top := by
  simp only [State.top, h.handlers, h.bg]

/-- A byte reads the same in states of one memory and one step. -/
theorem State.byteAt_congr {s t : State} (hr : t.ram = s.ram) (hn : t.stepNo = s.stepNo) (a : Nat) : t.byteAt a = s.byteAt a := by
  simp only [State.byteAt, hr, hn]

/-- What a read of register r may change of the units from s to u: `EOC` of the unit whose `DR` it is, or the count and index of the
CORDIC results when it is `RDATA` (42_adc.md R621, 44_cordic.md R814). -/
structure State.ReadEffect (s u : State) (r : Reg) : Prop where
  pwm : u.pwm = s.pwm
  adcPaired : u.adcPaired = s.adcPaired
  dma : u.dma = s.dma
  dmamux : u.dmamux = s.dmamux
  xform : u.xform = s.xform
  intc : u.intc = s.intc
  adc1 : r ≠ .adc .one .dr → u.adc1 = s.adc1
  adc2 : r ≠ .adc .two .dr → u.adc2 = s.adc2
  eoc1 : { u.adc1 with isr := { u.adc1.isr with eoc := s.adc1.isr.eoc } } = s.adc1
  eoc2 : { u.adc2 with isr := { u.adc2.isr with eoc := s.adc2.isr.eoc } } = s.adc2
  cordic : r ≠ .cordic .rdata → u.cordic = s.cordic
  results : { u.cordic with left := s.cordic.left, next := s.cordic.next } = s.cordic

theorem State.ReadEffect.refl (s : State) (r : Reg) : s.ReadEffect s r :=
  ⟨rfl, rfl, rfl, rfl, rfl, rfl, fun _ => rfl, fun _ => rfl, rfl, rfl, fun _ => rfl, rfl⟩

/-- A register's read rule has that effect at most. -/
theorem regRead_effect {s u : State} {r : Reg} {v : Word} (h : s.regRead r = .value v u) : s.ReadEffect u r := by
  rcases regRead_value s u r v h with rfl | ⟨q, rfl, rfl⟩ | ⟨rfl, _, _, rfl⟩
  · exact .refl _ r
  · cases q with
    | one => exact ⟨rfl, rfl, rfl, rfl, rfl, rfl, fun hr => absurd rfl hr, fun _ => rfl, rfl, rfl, fun _ => rfl, rfl⟩
    | two => exact ⟨rfl, rfl, rfl, rfl, rfl, rfl, fun _ => rfl, fun hr => absurd rfl hr, rfl, rfl, fun _ => rfl, rfl⟩
  · exact ⟨rfl, rfl, rfl, rfl, rfl, rfl, fun _ => rfl, fun _ => rfl, rfl, rfl, fun hr => absurd rfl hr, rfl⟩

/-- A register's read row: its rule's side effect on the units, then the host's own part. -/
theorem exec_rdInstr_frame {s t : State} {r : Reg} {lane : Lane} (h : exec (r.rdInstr lane) s = .next t) :
    ∃ u, s.ReadEffect u r ∧ SameHost s u ∧ u.ReadFrame t s.sink := by
  rw [exec_rdInstr] at h
  obtain ⟨u, rfl | ⟨v, hv⟩, hframe⟩ := runRead_frame h
  · exact ⟨u, .refl u r, .refl u, hframe⟩
  · exact ⟨u, regRead_effect hv, regRead_host s u r v hv, hframe⟩

/-- Settles O24: the side effect of the register's rule touches units only, what the host does with the result touches none. -/
theorem registerReadFrame : Obligations.RegisterReadFrame := by
  unfold Obligations.RegisterReadFrame
  intro s t r lane h
  obtain ⟨u, E, H, F⟩ := exec_rdInstr_frame h
  obtain ⟨pwm, adc1, adc2, adcPaired, dma, dmamux, cordic, xform, intc, ram, trim, vec, params⟩ := F.units
  rw [adc1, adc2, cordic, ← H.top]
  exact ⟨pwm.trans E.pwm, adcPaired.trans E.adcPaired, dma.trans E.dma, dmamux.trans E.dmamux, xform.trans E.xform,
    intc.trans E.intc, trim.trans H.trim, params.trans H.params, vec.trans H.vec, F.halted.trans H.halted,
    State.byteAt_congr (ram.trans H.ram) (F.stepNo.trans H.stepNo), E.adc1, E.adc2, E.eoc1, E.eoc2, E.cordic, E.results,
    F.length.trans (congrArg _ H.handlers), F.tail.trans (congrArg _ H.handlers),
    fun hs => (F.bg (H.handlers ▸ hs)).trans H.bg, F.lvl, F.line, F.loc⟩

end Sys2Proof.Machine
end

section
/-! SUPPORT. The statements of 30_encoding.md: encoding undoes decoding and decoding undoes encoding, each from what the address
checks accept and from one equation per kind of row; a statement whose transaction decodes runs the instruction; with these, the
theorems that settle the family, the last of which is that no step leaves a reserved value in an enumerated field. -/

namespace Sys2Proof

/-! ### The rows of a register, both ways -/

/-- The read row of a register encodes to the read of its lane. -/
@[simp] theorem encode_rdInstr (p : Params) (r : Reg) (lane : Lane) : encode p (r.rdInstr lane) = r.rdTransaction p lane := by
  cases r with
  | pwm r => cases r <;> rfl
  | adc u r => cases u <;> cases r <;> rfl
  | dma c r => cases r <;> rfl
  | dmamux c => rfl
  | cordic r => cases r <;> rfl
  | xform r => cases r <;> rfl
  | intc r => cases r <;> rfl

@[simp] theorem Reg.rdInstr_wf (r : Reg) (lane : Lane) : (r.rdInstr lane).wf = true := by
  cases r with
  | pwm r => cases r <;> rfl
  | adc u r => cases u <;> cases r <;> rfl
  | dma c r => cases r <;> rfl
  | dmamux c => rfl
  | cordic r => cases r <;> rfl
  | xform r => cases r <;> rfl
  | intc r => cases r <;> rfl

/-- A word is the 29 bits above OP followed by OP (30_encoding.md R328). -/
theorem ctrl_word_split {v : Word} {op : BitVec 3} (h : v.extractLsb' 0 3 = op) : v.extractLsb' 3 29 ++ op = v := by
  subst h
  exact BitVec.extractLsb'_append_extractLsb' (w := 29) (len := 3)

/-- The CTRL row that a word selects writes that word. -/
theorem wrInstr_ctrl_spec {v : Word} {i : Instr} (h : Reg.wrInstr (.xform .ctrl) v = .ok i) (p : Params) :
    i.wf = true ∧ encode p i = Reg.wrTransaction p (.xform .ctrl) v := by
  simp only [Reg.wrInstr] at h
  split at h
  case h_7 => cases h
  all_goals
    rename_i hop
    cases h
    exact ⟨rfl, congrArg (Reg.wrTransaction p (.xform .ctrl)) (ctrl_word_split hop)⟩

/-- The write row that a word selects is well formed and writes that word to its register. -/
theorem Reg.wrInstr_spec {r : Reg} {v : Word} {i : Instr} (h : r.wrInstr v = .ok i) (p : Params) :
    i.wf = true ∧ encode p i = r.wrTransaction p v := by
  cases r with
  | pwm r => cases r <;> cases h <;> exact ⟨rfl, rfl⟩
  | adc u r => cases u <;> cases r <;> cases h <;> exact ⟨rfl, rfl⟩
  | dma c r => cases r <;> cases h <;> exact ⟨rfl, rfl⟩
  | dmamux c => cases h; exact ⟨rfl, rfl⟩
  | cordic r => cases r <;> cases h <;> exact ⟨rfl, rfl⟩
  | xform r =>
    cases r with
    | ctrl => exact wrInstr_ctrl_spec h p
    | _ => cases h; exact ⟨rfl, rfl⟩
  | intc r => cases r <;> cases h <;> exact ⟨rfl, rfl⟩

/-- OP and the bits above it come back from the word they make. -/
theorem ctrl_word_fields (hi : BitVec 29) (op : BitVec 3) :
    (hi ++ op : Word).extractLsb' 0 3 = op ∧ (hi ++ op : Word).extractLsb' 3 29 = hi :=
  ⟨BitVec.extractLsb'_append_eq_right, BitVec.extractLsb'_append_eq_left⟩

/-! ### The rows of RAM -/

@[simp] theorem encode_ramRdInstr (p : Params) (n : Size) (off : BitVec 32) :
    encode p (ramRdInstr n off) = ramRdTransaction p n off := by cases n <;> rfl

@[simp] theorem encode_ramWrInstr (p : Params) (n : Size) (off : BitVec 32) (d : Word) :
    encode p (ramWrInstr n off d) = ramWrTransaction p n off d := by cases n <;> rfl

/-- A RAM row is well formed at an aligned offset (20_memory.md R207). -/
theorem ramRdInstr_wf {n : Size} {off : BitVec 32} (h : off.toNat % n.bytes = 0) : (ramRdInstr n off).wf = true := by
  cases n with
  | b1 => rfl
  | b2 | b4 => exact beq_iff_eq.mpr h

theorem ramWrInstr_wf {n : Size} {off : BitVec 32} (d : Word) (h : off.toNat % n.bytes = 0) : (ramWrInstr n off d).wf = true := by
  cases n with
  | b1 => rfl
  | b2 | b4 => exact beq_iff_eq.mpr h

/-! ### Decoding what the encoder gives -/

theorem decode_of_rdTransaction {p : Params} (hp : p.wf = true) {r : Reg} {lane : Lane} {t : Transaction}
    (h : r.rdTransaction p lane = some t) : decode p t = .ok (r.rdInstr lane) := by
  rw [Reg.rdTransaction] at h
  split at h <;> cases h
  rename_i hr
  simp only [decode, locate_reg p hp r hr lane]

theorem decode_of_wrTransaction {p : Params} (hp : p.wf = true) {r : Reg} {v : Word} {t : Transaction}
    (h : r.wrTransaction p v = some t) : decode p t = r.wrInstr v := by
  rw [Reg.wrTransaction] at h
  split at h <;> cases h
  rename_i hr
  simp only [decode, locate_word p hp r hr, if_true]

theorem decode_of_ramRdTransaction {p : Params} (hp : p.wf = true) {n : Size} {off : BitVec 32} {t : Transaction}
    (ha : off.toNat % n.bytes = 0) (h : ramRdTransaction p n off = some t) : decode p t = .ok (ramRdInstr n off) := by
  rw [ramRdTransaction] at h
  split at h <;> cases h
  rename_i hin
  simp only [decode, (locate_ramOffset p hp n off ha hin).2]

theorem decode_of_ramWrTransaction {p : Params} (hp : p.wf = true) {n : Size} {off : BitVec 32} {d : Word} {t : Transaction}
    (ha : off.toNat % n.bytes = 0) (h : ramWrTransaction p n off d = some t) : decode p t = .ok (ramWrInstr n off d) := by
  rw [ramWrTransaction] at h
  split at h <;> cases h
  rename_i hin
  simp only [decode, (locate_ramOffset p hp n off ha hin).2]

/-- The decoder finds an aligned trim offset at the address the encoder gives it. -/
theorem locate_trimOffset (p : Params) (hp : p.wf = true) (n : Size) (off : BitVec 1) (ha : off.toNat % n.bytes = 0)
    (h : off.toNat + n.bytes ≤ 2) : locate p n (Word.ofAddr (p.trimAddr + off.toNat)) = .ok (.trim off) := by
  have htrim := (p.layout hp).trim
  have haddr : (Word.ofAddr (p.trimAddr + off.toNat)).toNat = p.trimAddr + off.toNat := by
    have := n.bytes_pos
    rw [Word.ofAddr, BitVec.toNat_ofNat, Nat.mod_eq_of_lt (by omega)]
  have hal : (p.trimAddr + off.toNat) % n.bytes = 0 := by
    cases n <;> simp only [Size.bytes] at ha h ⊢ <;> omega
  rw [locate_inTrim p hp n _ (by rw [insideRegion_iff, haddr]; omega), haddr, if_pos hal, Nat.add_sub_cancel_left,
    BitVec.ofNat_toNat, BitVec.setWidth_eq]

/-- Decoding undoes encoding, by the kind of row: RAM, trim, `XFORM.CTRL`, the register writes, the operations, which have no
transaction, and the register reads. -/
theorem decode_of_encode {p : Params} (hp : p.wf = true) {i : Instr} {t : Transaction} (hi : i.wf = true)
    (h : encode p i = some t) : decode p t = .ok i := by
  cases i with
  | ramRd8 off => exact (decode_of_ramRdTransaction hp (Nat.mod_one _) h :)
  | ramRd16 off => exact (decode_of_ramRdTransaction hp (n := .b2) (beq_iff_eq.mp hi) h :)
  | ramRd32 off => exact (decode_of_ramRdTransaction hp (n := .b4) (beq_iff_eq.mp hi) h :)
  | ramWr8 off d => exact (decode_of_ramWrTransaction hp (Nat.mod_one _) h :)
  | ramWr16 off d => exact (decode_of_ramWrTransaction hp (n := .b2) (beq_iff_eq.mp hi) h :)
  | ramWr32 off d => exact (decode_of_ramWrTransaction hp (n := .b4) (beq_iff_eq.mp hi) h :)
  | trimRd8 off =>
    cases h
    simp only [decode, locate_trimOffset p hp .b1 off (Nat.mod_one _) off.isLt, trimRdInstr]
  | trimRd16 =>
    cases h
    have hl : locate p .b2 (Word.ofAddr p.trimAddr) = .ok (.trim 0) := locate_trimOffset p hp .b2 0 rfl (Nat.le_refl 2)
    simp only [decode, hl, trimRdInstr]
  | xformCtrlWrNop hi | xformCtrlWrClarke hi | xformCtrlWrPark hi | xformCtrlWrIpark hi | xformCtrlWrSvpwm hi
  | xformCtrlWrClarkePark hi =>
    refine (decode_of_wrTransaction hp h :).trans ?_
    simp only [Reg.wrInstr, ctrl_word_fields]
  | pwmCr1Wr | pwmCr2Wr | pwmSrWr | pwmEgrWr | pwmCcmrWr | pwmCcerWr | pwmCntWr | pwmPscWr | pwmArrWr | pwmRcrWr | pwmCcr1Wr
  | pwmCcr2Wr | pwmCcr3Wr | pwmCcr4Wr | pwmCcr5Wr | pwmBdtrWr | adc1IsrWr | adc1IerWr | adc1CrWr | adc1CfgrWr | adc1Smpr1Wr
  | adc1Smpr2Wr | adc1Sqr1Wr | adc1DrWr | adc1JsqrWr | adc1Jdr1Wr | adc1Jdr2Wr | adc1Jdr3Wr | adc1Jdr4Wr | adc2IsrWr | adc2IerWr
  | adc2CrWr | adc2CfgrWr | adc2Smpr1Wr | adc2Smpr2Wr | adc2Sqr1Wr | adc2DrWr | adc2JsqrWr | adc2Jdr1Wr | adc2Jdr2Wr
  | adc2Jdr3Wr | adc2Jdr4Wr | dmaCcrWr | dmaCndtrWr | dmaCparWr | dmaCmarWr | dmaCisrWr | dmaCifcrWr | dmamuxCxcrWr
  | cordicCsrWr | cordicWdataWr | cordicRdataWr | xformIn0Wr | xformIn1Wr | xformIn2Wr | xformIn3Wr | xformOut0Wr | xformOut1Wr
  | xformOut2Wr | xformOut3Wr | intcCtrlWr | intcIerWr | intcIprWr | intcIabrWr | intcCurpriWr | intcEoiWr | intcActiveWr =>
    exact (decode_of_wrTransaction hp h :)
  | pwmConfigure | pwmDeadtimeTicks | pwmEnableOutputs | pwmSetDuty | adcPowerupCalibrate | adcEnable | adcStart
  | adcConfigureProduction | adcOneShot | adcGetAverage | adcReferenceVoltage | adcVrefCalibrate | adcClearInjectedFlag
  | adcReadInjectedFlag | adcReadInjectedData | adcRawDrAddress | dmamuxMap | dmaBind | dmaStart | dmaStop | dmaTc | dmaClearTc
  | dmaClearAll | floatToQ31 | q31ToFloat | cordicInit | cordicCompute | cordicRequest | cordicCollect | xfRun =>
    cases h
  | _ => exact (decode_of_rdTransaction hp h :)

/-- Settles O1: `decode_of_encode`, by the kind of the instruction's row. -/
theorem decodeOfEncode : Obligations.DecodeOfEncode := by
  unfold Obligations.DecodeOfEncode
  exact fun p i t hp hi h => decode_of_encode hp hi h

/-! ### Encoding what the decoder gives -/

/-- The target an address names for an access of n bytes: aligned, inside its region, and at that address. -/
def Target.At (p : Params) (n : Size) (a : Word) : Target → Prop
  | .ram off => off.toNat % n.bytes = 0 ∧ off.toNat + n.bytes ≤ p.ramSize ∧ Word.ofAddr (p.ramBase + off.toNat) = a
  | .trim off => off.toNat % n.bytes = 0 ∧ off.toNat + n.bytes ≤ 2 ∧ Word.ofAddr (p.trimAddr + off.toNat) = a
  | .reg r lane => r.present p = true ∧ lane.size = n ∧ r.laneAddr p lane = a

/-- A bus address from its own number. -/
theorem Word.ofAddr_toNat (a : Word) : Word.ofAddr a.toNat = a := by
  rw [Word.ofAddr, BitVec.ofNat_toNat, BitVec.setWidth_eq]

theorem Lane.of_at? {n : Size} {k : Nat} {lane : Lane} (h : Lane.at? n k = some lane) : lane.size = n ∧ lane.offset = k := by
  unfold Lane.at? at h
  split at h <;> cases h <;> exact ⟨rfl, rfl⟩

/-- An aligned access inside a region whose base is aligned is at the offset that a vector wide enough for the region holds. -/
theorem offset_insideRegion {base size w : Nat} {n : Size} {a : Word} (hin : insideRegion base size a.toNat n.bytes = true)
    (hbase : base % n.bytes = 0) (hal : a.toNat % n.bytes = 0) (hw : size ≤ 2 ^ w) :
    (BitVec.ofNat w (a.toNat - base)).toNat % n.bytes = 0 ∧ (BitVec.ofNat w (a.toNat - base)).toNat + n.bytes ≤ size ∧
      Word.ofAddr (base + (BitVec.ofNat w (a.toNat - base)).toNat) = a := by
  rw [insideRegion_iff] at hin
  have hpos := n.bytes_pos
  have hoff : (BitVec.ofNat w (a.toNat - base)).toNat = a.toNat - base := by
    rw [BitVec.toNat_ofNat, Nat.mod_eq_of_lt (by omega)]
  rw [hoff, Nat.add_sub_cancel' hin.1, Word.ofAddr_toNat]
  exact ⟨Nat.sub_mod_eq_zero_of_mod_eq (hal.trans hbase.symm), by omega, rfl⟩

/-- What the address checks accept is at the address: the base of the region and the offset, or the register and the lane, make it. -/
theorem locate_ok_at {p : Params} (hp : p.wf = true) {n : Size} {a : Word} {tg : Target} (h : locate p n a = .ok tg) :
    tg.At p n a := by
  have L := p.layout hp
  by_cases hram : insideRegion p.ramBase p.ramSize a.toNat n.bytes = true
  · rw [locate_inRam p n a hram] at h
    split at h <;> cases h
    rename_i hal
    have hbase : p.ramBase % n.bytes = 0 :=
      Nat.mod_eq_zero_of_dvd (n.bytes_dvd_four.trans (Nat.dvd_of_mod_eq_zero L.ram.1))
    exact offset_insideRegion hram hbase hal (Nat.le_of_add_left_le L.ram.2)
  by_cases htrim : insideRegion p.trimAddr 2 a.toNat n.bytes = true
  · rw [locate_inTrim p hp n a htrim] at h
    split at h <;> cases h
    rename_i hal
    have hbase : p.trimAddr % n.bytes = 0 := by
      have hfits := (insideRegion_iff _ _ _ _).mp htrim
      have htwo := L.trim.1
      cases n <;> simp only [Size.bytes] at hfits ⊢ <;> omega
    exact offset_insideRegion htrim hbase hal (Nat.le_refl 2)
  by_cases hreg : ∃ r : Reg, r.Holds p n a
  · obtain ⟨r, hr⟩ := hreg
    rw [locate_onReg p hp n a r hr] at h
    obtain ⟨-, hpresent, haddr⟩ := hr
    cases hlane : Lane.at? n (a.toNat % 4) with
    | none => rw [hlane] at h; cases h
    | some lane =>
      rw [hlane] at h
      cases h
      obtain ⟨hsize, hoffset⟩ := Lane.of_at? hlane
      refine ⟨hpresent, hsize, ?_⟩
      rw [Reg.laneAddr, haddr, hoffset, Nat.sub_add_cancel (Nat.mod_le _ _), Word.ofAddr_toNat]
  · rw [locate_unmapped p hp n a (Bool.eq_false_iff.mpr hram) (Bool.eq_false_iff.mpr htrim) (not_exists.mp hreg)] at h
    cases h

/-- The read row of a target encodes to the read of its address. -/
theorem encode_of_decode_rd {p : Params} (hp : p.wf = true) {n : Size} {a : Word} {i : Instr} (h : decode p (.rd n a) = .ok i) :
    i.wf = true ∧ encode p i = some (.rd n a) := by
  cases hl : locate p n a with
  | error e => simp only [decode, hl] at h; cases h
  | ok tg =>
    have hat := locate_ok_at hp hl
    simp only [decode, hl] at h
    cases tg with
    | ram off =>
      obtain ⟨hal, hin, rfl⟩ := hat
      cases h
      exact ⟨ramRdInstr_wf hal, by rw [encode_ramRdInstr, ramRdTransaction, if_pos hin]⟩
    | trim off =>
      obtain ⟨hal, hin, rfl⟩ := hat
      cases h
      cases n with
      | b1 => exact ⟨rfl, rfl⟩
      | b2 =>
        obtain rfl : off = 0 := BitVec.eq_of_toNat_eq (by simp only [Size.bytes] at hin; simp; omega)
        exact ⟨rfl, rfl⟩
      | b4 => simp only [Size.bytes] at hin; omega
    | reg r lane =>
      obtain ⟨hpresent, rfl, rfl⟩ := hat
      cases h
      exact ⟨r.rdInstr_wf lane, by rw [encode_rdInstr, Reg.rdTransaction, if_pos hpresent]⟩

/-- The write row of a target encodes to the write of its address. -/
theorem encode_of_decode_wr {p : Params} (hp : p.wf = true) {n : Size} {a d : Word} {i : Instr}
    (h : decode p (.wr n a d) = .ok i) : i.wf = true ∧ encode p i = some (.wr n a d) := by
  cases hl : locate p n a with
  | error e => simp only [decode, hl] at h; cases h
  | ok tg =>
    have hat := locate_ok_at hp hl
    simp only [decode, hl] at h
    cases tg with
    | ram off =>
      obtain ⟨hal, hin, rfl⟩ := hat
      cases h
      exact ⟨ramWrInstr_wf d hal, by rw [encode_ramWrInstr, ramWrTransaction, if_pos hin]⟩
    | trim off => cases h
    | reg r lane =>
      obtain ⟨hpresent, hsize, rfl⟩ := hat
      dsimp only at h
      split at h
      · rename_i hn
        obtain rfl : lane = .word := by rw [hn] at hsize; revert hsize; cases lane <;> decide
        obtain ⟨hwf, henc⟩ := Reg.wrInstr_spec h p
        refine ⟨hwf, ?_⟩
        rw [henc, Reg.wrTransaction, if_pos hpresent, hn]
        rfl
      · cases h

/-- Settles O2: what the address checks accept is at the address, so the row of the target carries the transaction. -/
theorem encodeOfDecode : Obligations.EncodeOfDecode := by
  unfold Obligations.EncodeOfDecode
  intro p t i hp h
  cases t with
  | rd n a => exact encode_of_decode_rd hp h
  | wr n a d => exact encode_of_decode_wr hp h

/-- Settles O3: each word is a closed value of the decoder. -/
theorem wordsDecode : Obligations.WordsDecode := by
  unfold Obligations.WordsDecode
  decide

end Sys2Proof

namespace Sys2Proof.Machine

/-! ### A statement runs its instruction -/

theorem perform_of_decode_ok {s : State} {x : Transaction} {i : Instr} (h : decode s.params x = .ok i) :
    Cpu.perform s x = exec i s := by
  simp only [Cpu.perform, h]

/-- A host that is not idle performs the statement it is at. -/
theorem hostStatement_rd {s : State} {x : LocalName} {n : Size} {e : Expr} {a : Word} (hi : s.hostIdle = false)
    (hc : s.top.current = some (.rd x n e)) (he : s.evalWord e = .ok a) : Cpu.hostStatement s = Cpu.perform s (.rd n a) := by
  simp only [Cpu.hostStatement, hi, hc, Bool.false_eq_true, if_false, performRead_of_eval he (sink_rd hc)]

theorem hostStatement_poll {s : State} {e m v : Expr} {a wm wv : Word} (hi : s.hostIdle = false)
    (hc : s.top.current = some (.poll e m v)) (he : s.evalWord e = .ok a) (hm : s.evalWord m = .ok wm) (hv : s.evalWord v = .ok wv) :
    Cpu.hostStatement s = Cpu.perform s (.rd .b4 a) := by
  simp only [Cpu.hostStatement, hi, hc, Bool.false_eq_true, if_false, performRead_of_eval he (sink_poll hc he hm hv)]

theorem hostStatement_wr {s : State} {n : Size} {e v : Expr} {a d : Word} (hi : s.hostIdle = false)
    (hc : s.top.current = some (.wr n e v)) (he : s.evalWord e = .ok a) (hv : s.evalWord v = .ok d) :
    Cpu.hostStatement s = Cpu.perform s (.wr n a (Size.trunc n d)) := by
  simp only [Cpu.hostStatement, hi, hc, Bool.false_eq_true, if_false, performWrite_of_eval he hv]

theorem hostStatement_call {s : State} {i : Instr} {ds : List LocalName} (hi : s.hostIdle = false)
    (hc : s.top.current = some (.call i ds)) (ho : i.isOperation = true) : Cpu.hostStatement s = exec i s := by
  simp only [Cpu.hostStatement, hi, hc, ho, Bool.false_eq_true, if_false, if_true]

/-- Settles O5: the statement performs its transaction, which runs the instruction it decodes to. -/
theorem stepRunsInstruction : Obligations.StepRunsInstruction := by
  unfold Obligations.StepRunsInstruction
  intro s hf ht hi
  refine ⟨fun x n e a i hc he hd => ?_, fun n e v a d i hc he hv hd => ?_, fun e m v a wm wv i hc he hm hv hd => ?_,
    fun i ds hc ho => ?_, fun t => rfl⟩
  · rw [step_statement s hf ht, hostStatement_rd hi hc he, perform_of_decode_ok hd]
  · rw [step_statement s hf ht, hostStatement_wr hi hc he hv, perform_of_decode_ok hd]
  · rw [step_statement s hf ht, hostStatement_poll hi hc he hm hv, perform_of_decode_ok hd]
  · rw [step_statement s hf ht, hostStatement_call hi hc ho]

/-! ### The enumerated fields: what a write refuses and what an agent's step keeps -/

/-- The mode fields of `CCMR` hold no reserved code (30_encoding.md R320). -/
def Pwm.ModesOk (p : Pwm) : Prop := ∀ k : Fin 3, ocmReserved (ccmrMode p.ccmr k) = false

@[simp] theorem Pwm.prescale_ccmr (p : Pwm) : p.prescale.1.ccmr = p.ccmr := by
  simp only [Pwm.prescale]
  split
  · split <;> rfl
  · rfl

@[simp] theorem Pwm.centreAdvance_ccmr (p : Pwm) : p.centreAdvance.1.ccmr = p.ccmr := by
  simp only [Pwm.centreAdvance]
  split <;> split <;> rfl

@[simp] theorem Pwm.edgeAdvance_ccmr (p : Pwm) : p.edgeAdvance.1.ccmr = p.ccmr := by
  simp only [Pwm.edgeAdvance]
  split <;> rfl

@[simp] theorem Pwm.repetition_ccmr (p : Pwm) : p.repetition.ccmr = p.ccmr := by
  simp only [Pwm.repetition]
  split <;> rfl

@[simp] theorem Pwm.count_ccmr (p : Pwm) : p.count.ccmr = p.ccmr := by
  cases hm : p.cms <;> simp only [Pwm.count, hm, Bool.false_eq_true, if_false, if_true] <;> split <;> simp

/-- A tick counts, compares and drives triggers; the modes are the program's. -/
@[simp] theorem Pwm.tick_ccmr (p : Pwm) : p.tick.ccmr = p.ccmr := by
  have hcount : (if p.prescale.2 then p.prescale.1.count else p.prescale.1).ccmr = p.ccmr := by split <;> simp
  exact hcount

/-- The `CCMR` write refuses each reserved mode. -/
theorem Pwm.writeCcmr_modesOk {p q : Pwm} {v : Word} (h : p.writeCcmr v = .ok q) : q.ModesOk := by
  simp only [Pwm.writeCcmr] at h
  split at h
  · cases h
  · split at h
    · cases h
    · split at h <;> cases h
      rename_i h0 h1 h2
      intro k
      match k with
      | 0 => exact Bool.eq_false_iff.mpr h0
      | 1 => exact Bool.eq_false_iff.mpr h1
      | 2 => exact Bool.eq_false_iff.mpr h2

/-- No other PWM write touches the modes. -/
theorem Pwm.write_modesOk {p q : Pwm} {r : PwmReg} {v : Word} (h : p.write r v = .ok q) (hp : p.ModesOk) : q.ModesOk := by
  cases r <;> simp only [Pwm.write] at h
  case ccmr => exact Pwm.writeCcmr_modesOk h
  case cr1 => simp only [Pwm.writeCr1] at h; split at h <;> cases h; exact hp
  case arr => simp only [Pwm.writeArr] at h; split at h <;> cases h; exact hp
  case ccr1 | ccr2 | ccr3 | ccr4 | ccr5 => simp only [Pwm.writeCcr] at h; split at h <;> cases h; exact hp
  case egr =>
    cases h
    simp only [Pwm.writeEgr]
    split <;> exact hp
  all_goals (cases h; exact hp)

/-- The sequence check leaves no rank in use above `CH_MAX` (30_encoding.md R322). -/
theorem ranksOk_of_badChannel {chMax : Nat} {len : BitVec 2} {ch : Vector (BitVec 5) 4} (h : badChannel chMax len ch = none) :
    ranksOk chMax len ch := by
  simp only [badChannel] at h
  split at h
  · cases h
  · split at h
    · cases h
    · split at h
      · cases h
      · split at h <;> cases h
        rename_i h0 h1 h2 h3
        intro r hr
        match r with
        | 0 => exact Nat.le_of_not_lt h0
        | 1 => exact Nat.le_of_not_lt fun hlt => h1 ⟨hr, hlt⟩
        | 2 => exact Nat.le_of_not_lt fun hlt => h2 ⟨hr, hlt⟩
        | 3 => exact Nat.le_of_not_lt fun hlt => h3 ⟨hr, hlt⟩

theorem Adc.writeSqr1_fieldsOk {p : Params} {a b : Adc} {u : AdcUnit} {v : Word} (h : a.writeSqr1 p.chMax u v = .ok b)
    (ha : a.FieldsOk p) : b.FieldsOk p := by
  obtain ⟨hsel, _, hjsq, hdr, hjdr⟩ := ha
  simp only [Adc.writeSqr1] at h
  split at h
  · cases h
  · split at h <;> cases h
    rename_i hch
    exact ⟨hsel, ranksOk_of_badChannel hch, hjsq, hdr, hjdr⟩

theorem Adc.writeJsqr_fieldsOk {p : Params} {a b : Adc} {u : AdcUnit} {v : Word} (h : a.writeJsqr p.chMax u v = .ok b)
    (ha : a.FieldsOk p) : b.FieldsOk p := by
  obtain ⟨_, hsq, _, hdr, hjdr⟩ := ha
  simp only [Adc.writeJsqr] at h
  split at h
  · cases h
  · split at h
    · cases h
    · rename_i hsel
      split at h <;> cases h
      rename_i hch
      exact ⟨Nat.lt_of_not_le hsel, hsq, ranksOk_of_badChannel hch, hdr, hjdr⟩

/-- The sequence registers check what they take, and no other ADC write touches the enumerated fields or the data. -/
theorem Adc.write_fieldsOk {p : Params} {a b : Adc} {u : AdcUnit} {r : AdcReg} {v : Word} (h : a.write p.chMax u r v = .ok b)
    (ha : a.FieldsOk p) : b.FieldsOk p := by
  cases r <;> simp only [Adc.write] at h
  case sqr1 => exact Adc.writeSqr1_fieldsOk h ha
  case jsqr => exact Adc.writeJsqr_fieldsOk h ha
  case cfgr => simp only [Adc.writeCfgr] at h; split at h <;> cases h; exact ha
  case smpr1 => simp only [Adc.writeSmpr1] at h; split at h <;> cases h; exact ha
  case smpr2 => simp only [Adc.writeSmpr2] at h; split at h <;> cases h; exact ha
  all_goals (cases h; exact ha)

/-- A conversion's draw is a code of `ADC_BITS` bits (42_adc.md R640). -/
theorem State.draw_lt (s : State) (u : AdcUnit) : (s.draw u).toNat < 2 ^ s.params.adcBits := by
  rw [State.draw, BitVec.toNat_ofNat]
  exact (Nat.mod_le _ _).trans_lt (Nat.mod_lt _ (Nat.two_pow_pos _))

/-- A regular conversion stores its code in `DR` or, on an overrun without overwrite, nothing. -/
theorem Adc.convertRegular_fieldsOk {p : Params} {a : Adc} {code : BitVec 16} (ha : a.FieldsOk p)
    (hc : code.toNat < 2 ^ p.adcBits) : (a.convertRegular code).FieldsOk p := by
  obtain ⟨hsel, hsq, hjsq, hdr, hjdr⟩ := ha
  simp only [Adc.convertRegular]
  split
  · exact ⟨hsel, hsq, hjsq, hdr, hjdr⟩
  · split <;> exact ⟨hsel, hsq, hjsq, hc, hjdr⟩

/-- An injected conversion stores its code in the data register of its rank. -/
theorem Adc.convertInjected_fieldsOk {p : Params} {a : Adc} {code : BitVec 16} (ha : a.FieldsOk p)
    (hc : code.toNat < 2 ^ p.adcBits) : (a.convertInjected code).FieldsOk p := by
  obtain ⟨hsel, hsq, hjsq, hdr, hjdr⟩ := ha
  have hset : ∀ r : Fin 4, (a.jdr.set (rankIndex a.jrank) code)[r].toNat < 2 ^ p.adcBits := fun r => by
    rw [Fin.getElem_fin, Vector.getElem_set]
    split
    · exact hc
    · exact hjdr r
  simp only [Adc.convertInjected]
  split <;> exact ⟨hsel, hsq, hjsq, hdr, hset⟩

/-- The CORDIC writes leave a valid FUNC and PRECISION (30_encoding.md R327). -/
theorem Cordic.write_fieldsOk {k l : Cordic} {r : CordicReg} {v : Word} (h : k.write r v = .ok l)
    (hk : k.func.toNat < 2 ∧ k.precision ≠ 0) : l.func.toNat < 2 ∧ l.precision ≠ 0 := by
  cases r <;> simp only [Cordic.write] at h
  case csr =>
    simp only [Cordic.writeCsr] at h
    split at h
    · cases h
    · split at h <;> cases h
      rename_i hok
      simpa using hok
  case wdata =>
    simp only [Cordic.writeWdata] at h
    split at h
    · cases h
    · split at h
      · cases h; exact hk
      · split at h <;> cases h <;> exact hk
  case rdata => cases h; exact hk

theorem Cordic.complete_fields {k l : Cordic} (h : k.complete = some l) : l.func = k.func ∧ l.precision = k.precision := by
  simp only [Cordic.complete] at h
  split at h <;> cases h
  exact ⟨rfl, rfl⟩

/-- A `CTRL` write refuses the codes 6 and 7 and stores every other (30_encoding.md R328). -/
theorem Xform.writeCtrl_op {x y : Xform} {v : Word} (h : x.writeCtrl v = .ok y) : y.op.toNat < 6 := by
  simp only [Xform.writeCtrl] at h
  split at h <;> cases h <;>
    simp [Xform.nop, Xform.clarke, Xform.park, Xform.ipark, Xform.svpwm, Xform.clarkePark]

theorem Xform.write_op {x y : Xform} {r : XformReg} {v : Word} (h : x.write r v = .ok y) (hx : x.op.toNat < 6) :
    y.op.toNat < 6 := by
  cases r <;> simp only [Xform.write] at h
  case ctrl => exact Xform.writeCtrl_op h
  all_goals (cases h; exact hx)

/-! ### The invariant of the enumerated fields -/

namespace State.FieldsOk

theorem adc {s : State} (h : s.FieldsOk) (u : AdcUnit) : (s.adc u).FieldsOk s.params := by
  obtain ⟨_, h1, h2, _⟩ := h
  cases u with
  | one => exact h1
  | two => exact h2

theorem setAdc {s : State} (h : s.FieldsOk) (u : AdcUnit) {a : Adc} (ha : a.FieldsOk s.params) : (s.setAdc u a).FieldsOk := by
  obtain ⟨hpwm, h1, h2, hrest⟩ := h
  cases u with
  | one => exact ⟨hpwm, ha, h2, hrest⟩
  | two => exact ⟨hpwm, h1, ha, hrest⟩

/-- Reading a register changes no enumerated field and no datum. -/
theorem regRead {s t : State} {r : Reg} {v : Word} (h : s.FieldsOk) (ht : s.regRead r = .value v t) : t.FieldsOk := by
  rcases regRead_value s t r v ht with rfl | ⟨u, _, rfl⟩ | ⟨_, _, _, rfl⟩
  · exact h
  · exact h.setAdc u (h.adc u)
  · exact h

/-- Each unit's accepted write keeps its part; the router's takes request IDs below 3 (30_encoding.md R326). -/
theorem regWrite {s t : State} {r : Reg} {v : Word} (h : s.FieldsOk) (ht : s.regWrite r v = .ok t) : t.FieldsOk := by
  obtain ⟨hpwm, h1, h2, hmux, hfunc, hprec, hop⟩ := h
  have h : s.FieldsOk := ⟨hpwm, h1, h2, hmux, hfunc, hprec, hop⟩
  rcases regWrite_ok s t r v ht with ⟨q, p, _, hp, rfl⟩ | ⟨u, _, _, rfl⟩ | ⟨u, q, a, _, _, ha, rfl⟩ | ⟨c, q, d, _, _, rfl⟩ |
    ⟨c, _, hid, _, rfl⟩ | ⟨q, k, _, hk, rfl⟩ | ⟨q, x, _, hx, rfl⟩ | ⟨q, _, hq⟩
  · exact ⟨Pwm.write_modesOk hp hpwm, h1, h2, hmux, hfunc, hprec, hop⟩
  · exact h.setAdc u (h.adc u)
  · exact h.setAdc u (Adc.write_fieldsOk ha (h.adc u))
  · exact h
  · refine ⟨hpwm, h1, h2, fun b => ?_, hfunc, hprec, hop⟩
    rw [Fin.getElem_fin, Vector.getElem_set]
    split
    · exact Nat.le_of_lt_succ hid
    · exact hmux b
  · obtain ⟨hfunc, hprec⟩ := Cordic.write_fieldsOk hk ⟨hfunc, hprec⟩
    exact ⟨hpwm, h1, h2, hmux, hfunc, hprec, hop⟩
  · exact ⟨hpwm, h1, h2, hmux, hfunc, hprec, Xform.write_op hx hop⟩
  · rcases intcWrite_ok s t q v hq with rfl | ⟨_, rfl⟩ | ⟨_, _, rfl⟩ | ⟨_, _, rfl⟩ <;> exact h

/-- A tick keeps the modes and at most starts injected sequences. -/
theorem tick {s : State} (h : s.FieldsOk) : s.tick.FieldsOk := by
  obtain ⟨hpwm, h1, h2, hrest⟩ := h
  have started : ∀ {a : Adc} (e : Bool), a.FieldsOk s.params → (if e then a.startInjected else a).FieldsOk s.params :=
    fun e ha => by cases e <;> exact ha
  exact ⟨by simpa only [State.tick, State.deliverTriggers, Pwm.tick_ccmr] using hpwm, started _ h1, started _ h2, hrest⟩

/-- The agents' steps: only a conversion stores anything among the fields, and it stores a draw. -/
theorem agentStep {s t : State} {m : Move} (h : s.FieldsOk) (hm : m ≠ .beat) (ht : s.agentStep m = some t) : t.FieldsOk := by
  rcases agentStep_some s t m hm ht with ⟨_, _, _, rfl⟩ | ⟨_, rfl⟩ | ⟨u, _, _, rfl⟩ | ⟨u, _, _, rfl⟩ | ⟨u, _, _, rfl⟩ | ⟨u, _, _, rfl⟩ |
    ⟨u, _, _, _, rfl⟩ | ⟨_, _, rfl⟩ | ⟨_, _, _, rfl⟩ | ⟨_, k, hk, rfl⟩
  · exact h
  · exact h.tick
  · exact h.setAdc u (h.adc u)
  · exact h.setAdc u (h.adc u)
  · exact h.setAdc u (h.adc u)
  · exact h.setAdc u (Adc.convertRegular_fieldsOk (h.adc u) (s.draw_lt u))
  · exact h.setAdc u (Adc.convertInjected_fieldsOk (h.adc u) (s.draw_lt u))
  · obtain ⟨hpwm, h1, h2, hrest⟩ := h
    exact ⟨hpwm, Adc.convertInjected_fieldsOk h1 (s.draw_lt .one), Adc.convertInjected_fieldsOk h2 (s.draw_lt .two), hrest⟩
  · exact h
  · obtain ⟨hpwm, h1, h2, hmux, hfunc, hprec, hop⟩ := h
    obtain ⟨hf, hp⟩ := Cordic.complete_fields hk
    exact ⟨hpwm, h1, h2, hmux, hf ▸ hfunc, hp ▸ hprec, hop⟩

end State.FieldsOk

/-- Every operation a step is made of leaves the enumerated fields without a reserved value. -/
theorem fieldsOk_stepKeeps : StepKeeps State.FieldsOk where
  top _ _ _ _ h := h
  ret s t ht h := by
    obtain ⟨_, _, _, rfl, _⟩ := leaveHandler_ok s t ht
    exact h
  data _ _ h := h
  halt _ _ h := h
  raise _ _ h := h
  sched _ h := h
  read _ _ _ _ ht h := h.regRead ht
  write _ _ _ _ ht h := h.regWrite ht
  mem _ _ _ _ _ _ h := h
  agent _ _ _ hm ht h := h.agentStep hm ht
  error _ _ h := h
  beat _ _ _ h := h

/-- Settles O55: a write is the only way to such a field and refuses the reserved codes; ADC data are draws. -/
theorem fieldsInvariant : Obligations.FieldsInvariant := fieldsOk_stepKeeps.step

end Sys2Proof.Machine
end

section
/-! SUPPORT. Handlers nest: which operations of a step touch the dispatcher's stack, the lines and levels of the host's activities or the
enabled lines, and why each keeps them in order (40_bus.md R401; 60_exceptions.md R1012, R1030 to R1033). -/
namespace Sys2Proof.Machine

/-! ### The dispatcher's invariant -/

/-- The invariant reads nothing of a state but the activities, the dispatcher's registers and the handler programs. -/
theorem State.DispatchOk.of_same {s t : State} (h : s.DispatchOk) (hbg : t.bg = s.bg) (hh : t.handlers = s.handlers)
    (hi : t.intc = s.intc) (hv : t.vec = s.vec) : t.DispatchOk := by
  simpa only [State.DispatchOk, hbg, hh, hi, hv] using h

/-- The top activity's line and level are all the invariant reads of it. -/
theorem State.DispatchOk.setTop {s : State} {a : Activity} (h : s.DispatchOk) (hlvl : a.lvl = s.top.lvl)
    (hline : a.line = s.top.line) : (s.setTop a).DispatchOk := by
  obtain ⟨hbgLine, hbgLvl, hactive, hnested, hlevels, hvec⟩ := h
  cases hs : s.handlers with
  | nil =>
    simp only [State.top, hs] at hlvl hline
    simp only [State.setTop, hs]
    exact ⟨hline.trans hbgLine, hlvl.trans hbgLvl, by simp, hs ▸ hnested, hlevels, hvec⟩
  | cons b rest =>
    simp only [State.top, hs] at hlvl hline
    rw [hs, List.forall_mem_cons] at hactive
    simp only [State.setTop, hs]
    refine ⟨hbgLine, hbgLvl, List.forall_mem_cons.mpr ⟨?_, hactive.2⟩, ?_, hlevels, hvec⟩
    · rw [hline, hlvl]; exact hactive.1
    · rw [hs] at hnested
      simpa only [List.map_cons, hline] using hnested

/-- A handler returns only when its line has ended, so the lines not yet ended belong to the handlers below it. -/
theorem State.DispatchOk.leaveHandler {s t : State} (h : s.DispatchOk) (ht : s.leaveHandler = .ok t) : t.DispatchOk := by
  obtain ⟨hbgLine, hbgLvl, hactive, hnested, hlevels, hvec⟩ := h
  obtain ⟨a, rest, hs, rfl, hended⟩ := leaveHandler_ok s t ht
  rw [hs, List.forall_mem_cons] at hactive
  obtain ⟨⟨k, hk, _⟩, hbelow⟩ := hactive
  refine ⟨hbgLine, hbgLvl, hbelow, ?_, hlevels, hvec⟩
  rw [hs, List.map_cons, hk] at hnested
  cases hst : s.intc.stack with
  | nil => exact List.nil_sublist _
  | cons j js =>
    have hjk : j ≠ k := fun e => hended k hk (by rw [hst, e, List.head?_cons])
    rw [hst, List.map_cons] at hnested
    cases hnested with
    | cons _ h => exact h
    | cons_cons _ _ => exact absurd rfl hjk

/-- Entry takes a line above the running level, which is the least of those on the stack (60_exceptions.md R1030). -/
theorem State.entryLine_level {s : State} {k : Line} (h : s.entryLine = some k)
    (hlevels : (s.intc.stack.map Line.level).Pairwise (· < ·)) : ∀ l ∈ s.intc.stack.map Line.level, Line.level k < l := by
  have hcur : Line.level k < s.intc.curlvl := by
    simp only [State.entryLine] at h
    split at h
    · have := List.find?_some h
      simp only [State.eligible, Bool.and_eq_true, decide_eq_true_eq] at this
      exact this.2
    · cases h
  cases hst : s.intc.stack with
  | nil => simp
  | cons j js =>
    simp only [Intc.curlvl, hst] at hcur
    rw [hst, List.map_cons, List.pairwise_cons] at hlevels
    exact List.forall_mem_cons.mpr ⟨hcur, fun l hl => hcur.trans (hlevels.1 l hl)⟩

theorem State.DispatchOk.enterLine {s : State} {k : Line} (h : s.DispatchOk) (hk : s.entryLine = some k) :
    (s.enterLine k).DispatchOk := by
  obtain ⟨hbgLine, hbgLvl, hactive, hnested, hlevels, hvec⟩ := h
  exact ⟨hbgLine, hbgLvl, List.forall_mem_cons.mpr ⟨⟨k, rfl, rfl⟩, hactive⟩, hnested.cons_cons (some k),
    List.pairwise_cons.mpr ⟨s.entryLine_level hk hlevels, hlevels⟩, hvec⟩

/-- An `IER` write is refused where it enables a line without a handler program (60_exceptions.md R1012). -/
theorem State.vec_of_missingHandler {s : State} {v : Word} (h : s.missingHandler v = none) (k : Line)
    (hk : (Word.field v 0 17).getLsbD k.val = true) : s.vec[k].isSome = true := by
  have hnone := List.find?_eq_none.mp h k (List.mem_finRange k)
  have hbit : Word.bit v k.val = true := by
    simpa only [Word.field, Word.bit, BitVec.getLsbD_extractLsb', k.isLt, decide_true, Bool.true_and, Nat.zero_add] using hk
  rw [hbit, Bool.true_and] at hnone
  cases hv : s.vec[k] with
  | none => exact absurd (by rw [hv]; rfl) hnone
  | some p => rfl

/-- Of the register writes, `IER` and `EOI` touch what the invariant reads. -/
theorem State.DispatchOk.regWrite {s t : State} {r : Reg} {v : Word} (h : s.DispatchOk) (ht : s.regWrite r v = .ok t) :
    t.DispatchOk := by
  rcases regWrite_ok s t r v ht with ⟨_, _, _, _, rfl⟩ | ⟨_, _, _, rfl⟩ | ⟨_, _, _, _, _, _, rfl⟩ | ⟨_, _, _, _, _, rfl⟩ |
    ⟨_, _, _, _, rfl⟩ | ⟨_, _, _, _, rfl⟩ | ⟨_, _, _, _, rfl⟩ | ⟨q, _, hq⟩
  case inr.inr.inr.inr.inr.inr.inr =>
    obtain ⟨hbgLine, hbgLvl, hactive, hnested, hlevels, hvec⟩ := id h
    rcases intcWrite_ok s t q v hq with rfl | ⟨_, rfl⟩ | ⟨_, hm, rfl⟩ | ⟨_, _, rfl⟩
    · exact h
    · exact h
    · exact ⟨hbgLine, hbgLvl, hactive, hnested, hlevels, State.vec_of_missingHandler hm⟩
    · refine ⟨hbgLine, hbgLvl, hactive, .trans (.map _ (List.tail_sublist _)) hnested, ?_, hvec⟩
      exact hlevels.sublist (.map _ (List.tail_sublist _))
  all_goals exact h

/-- Of the agents, entry alone touches what the invariant reads. -/
theorem State.DispatchOk.agentStep {s t : State} {m : Move} (h : s.DispatchOk) (hm : m ≠ .beat) (ht : s.agentStep m = some t) :
    t.DispatchOk := by
  rcases agentStep_some s t m hm ht with ⟨_, k, hk, rfl⟩ | ⟨_, rfl⟩ | ⟨_, _, _, rfl⟩ | ⟨_, _, _, rfl⟩ | ⟨_, _, _, rfl⟩ | ⟨_, _, _, rfl⟩ |
    ⟨_, _, _, _, rfl⟩ | ⟨_, _, rfl⟩ | ⟨_, _, _, rfl⟩ | ⟨_, _, _, rfl⟩
  · exact h.enterLine hk
  all_goals exact h

/-- Every operation a step is made of keeps the nesting. -/
theorem dispatchOk_stepKeeps : StepKeeps State.DispatchOk where
  top _ _ hlvl hline h := h.setTop hlvl hline
  ret _ _ ht h := h.leaveHandler ht
  data _ _ h := h
  halt _ _ h := h
  raise _ _ h := h
  sched _ h := h
  read s r v t ht h := by
    have e := regRead_host s t r v ht
    exact h.of_same e.bg e.handlers (regRead_effect ht).intc e.vec
  write _ _ _ _ ht h := h.regWrite ht
  mem _ _ _ _ _ _ h := h
  agent _ _ _ hm ht h := h.agentStep hm ht
  error _ _ h := h
  beat _ _ _ h := h

/-- Settles O59: only entry, return, `EOI` and `IER` touch what nesting is about, and each asks for what keeps it. -/
theorem dispatchInvariant : Obligations.DispatchInvariant := dispatchOk_stepKeeps.step

end Sys2Proof.Machine
end

section
/-! SUPPORT. The host's statements: a statement step is `Cpu.runStmt` of the statement at the position, whichever it is; from what that
answers follow the moves of the position, the faults of expressions, HALT and RET, and POLL (40_bus.md R402 to R404, R420 to R427). -/
namespace Sys2Proof.Machine

/-! ### A statement's step is `Cpu.runStmt` -/

/-- A transaction is the same performed by its decoded instruction or on the bus (40_bus.md R410, R411). -/
theorem perform_eq_transact {s : State} (x : Transaction) (hs : ∀ f, s.sink ≠ .error f) :
    Cpu.perform s x = Cpu.outcome s (Cpu.transact s x) := by
  cases h : decode s.params x with
  | ok i => rw [perform_of_decode_ok h, exec_decode x i s h]
  | error e => rw [perform_of_decode_error h, transact_reject x e s h hs, Cpu.outcome]

theorem performRead_eq_runRd (s : State) (n : Size) (a : Expr) :
    Cpu.performRead s n a = Cpu.outcome s (Cpu.runRd s n a) := by
  cases ha : s.evalWord a with
  | error f => simp only [Cpu.performRead, Cpu.runRd, ha, Cpu.outcome]
  | ok w =>
    cases hk : s.sink with
    | error f => simp only [Cpu.performRead, Cpu.runRd, ha, hk, Cpu.transact, Cpu.finishRead, Cpu.outcome]
    | ok k =>
      rw [performRead_of_eval ha hk, perform_eq_transact _ (by simp [hk])]
      simp only [Cpu.runRd, ha]

theorem performWrite_eq_runWr {s : State} (n : Size) (a e : Expr) (hs : ∀ f, s.sink ≠ .error f) :
    Cpu.performWrite s n a e = Cpu.outcome s (Cpu.runWr s n a e) := by
  cases h : s.wrTransaction n a e with
  | error f => simp only [Cpu.performWrite, Cpu.runWr, h, Cpu.outcome]
  | ok x => simp only [Cpu.performWrite, Cpu.runWr, h, perform_eq_transact x hs]

/-- A host that is not idle runs the statement at its position, when that is not a CALL. -/
theorem hostStatement_eq_runStmt {s : State} {st : Stmt} (hi : s.hostIdle = false) (hc : s.top.current = some st)
    (hst : ∀ j ds, st ≠ .call j ds) : Cpu.hostStatement s = Cpu.outcome s (Cpu.runStmt s st) := by
  simp only [Cpu.hostStatement, hi, Bool.false_eq_true, if_false, hc]
  cases st with
  | rd x n a => exact performRead_eq_runRd s n a
  | poll a m v => exact performRead_eq_runRd s .b4 a
  | wr n a e => exact performWrite_eq_runWr n a e (by simp [State.sink, hc])
  | call j ds => exact absurd rfl (hst j ds)
  | _ => rfl

/-- The host's step at a statement that is not a CALL. -/
theorem step_eq_runStmt {s : State} {st : Stmt} (hf : s.fault = none) (ht : s.turn = .statement) (hi : s.hostIdle = false)
    (hc : s.top.current = some st) (hst : ∀ j ds, st ≠ .call j ds) :
    step s = Cpu.schedule (Cpu.outcome s (Cpu.runStmt s st)) := by
  rw [step_statement s hf ht, hostStatement_eq_runStmt hi hc hst]

/-- A statement that is done gives the state it leaves. -/
theorem step_of_done {s t : State} {st : Stmt} (hf : s.fault = none) (ht : s.turn = .statement) (hi : s.hostIdle = false)
    (hc : s.top.current = some st) (hst : ∀ j ds, st ≠ .call j ds) (h : Cpu.runStmt s st = .done t) : step s = .next t.scheduled := by
  rw [step_eq_runStmt hf ht hi hc hst, h, Cpu.outcome, Cpu.schedule]

/-- A statement that faults leaves the state before it with the record. -/
theorem step_of_fault {s : State} {st : Stmt} {f : FaultRecord} (hf : s.fault = none) (ht : s.turn = .statement)
    (hi : s.hostIdle = false) (hc : s.top.current = some st) (hst : ∀ j ds, st ≠ .call j ds) (h : Cpu.runStmt s st = .fault f) :
    step s = .next (s.raise f).scheduled := by
  rw [step_eq_runStmt hf ht hi hc hst, h, Cpu.outcome, Cpu.schedule]

/-- Past the end of the list the host acts as at HALT (40_bus.md R404). -/
theorem step_at_end {s : State} (hf : s.fault = none) (ht : s.turn = .statement) (hi : s.hostIdle = false)
    (hc : s.top.current = none) : step s = Cpu.schedule (Cpu.outcome s (Cpu.runHalt s)) := by
  simp only [step_statement s hf ht, Cpu.hostStatement, hi, hc, Bool.false_eq_true, if_false]

/-! ### Values of expressions -/

theorem State.evalWord_ok {s : State} {e : Expr} {v : Int} (h : s.eval e = .ok v) : s.evalWord e = .ok (BitVec.ofInt 32 v) := by
  simp only [State.evalWord, h, Word.ofInt]

theorem State.evalWord_error {s : State} {e : Expr} {f : FaultRecord} (h : s.eval e = .error f) : s.evalWord e = .error f := by
  simp only [State.evalWord, h]

/-! ### Moves of the position outside a CALL (40_bus.md R404) -/

theorem Activity.jump_outside_call {a : Activity} (h : a.calls = []) (l : Nat) :
    a.jump l = { a with pc := l, polls := 0, waits := 0 } := by
  simp only [Activity.jump, h, unwind]

theorem Activity.next_outside_call {a : Activity} (h : a.calls = []) :
    a.next = { a with pc := a.pc + 1, polls := 0, waits := 0 } := Activity.jump_outside_call h _

theorem State.advance_outside_call {s : State} (h : s.top.calls = []) :
    s.advance = s.setTop { s.top with pc := s.top.pc + 1, polls := 0, waits := 0 } := by
  rw [State.advance, Activity.next_outside_call h]

/-- `BR` outside a CALL goes to its label or on (40_bus.md R425). -/
theorem runBr_outside_call {s : State} {c : Expr} {v : Int} (l : Nat) (hcalls : s.top.calls = []) (hv : s.eval c = .ok v) :
    Cpu.runBr s c l = .done (s.setTop { s.top with pc := if v ≠ 0 then l else s.top.pc + 1, polls := 0, waits := 0 }) := by
  simp only [Cpu.runBr, hv]
  split
  · rw [Cpu.runJmp, Activity.jump_outside_call hcalls]
  · rw [State.advance_outside_call hcalls]

/-- Settles O10: each statement's step is its rule in `Cpu.runStmt`, and outside a CALL the position is the label or one more. -/
theorem hostStatements : Obligations.HostStatements := by
  unfold Obligations.HostStatements
  intro s hf ht hi hcalls
  refine ⟨fun x e v hc hv => ?_, fun l hc => ?_, fun c l v hc hv => ?_, fun c code info v w hc hv hw => ?_, fun n hc => ?_⟩
  · refine step_of_done hf ht hi hc (by simp) ?_
    simp only [Cpu.runStmt, Cpu.runSet, s.evalWord_ok hv, State.advance, State.top_setTop, State.setTop_setTop]
    rw [Activity.next_outside_call (a := s.top.setLocal x _) hcalls]
    rfl
  · refine step_of_done hf ht hi hc (by simp) ?_
    rw [Cpu.runStmt, Cpu.runJmp, Activity.jump_outside_call hcalls]
  · exact step_of_done hf ht hi hc (by simp) (runBr_outside_call l hcalls hv)
  · split
    · rename_i h0
      exact step_of_fault hf ht hi hc (by simp) (by simp only [Cpu.runStmt, Cpu.runBrFault, hv, if_pos h0, hw])
    · rename_i h0
      refine step_of_done hf ht hi hc (by simp) ?_
      simp only [Cpu.runStmt, Cpu.runBrFault, hv, if_neg h0, State.advance_outside_call hcalls]
  · refine step_of_done hf ht hi hc (by simp) ?_
    rw [Cpu.runStmt, Cpu.runWait, State.advance_outside_call hcalls]
    split <;> rfl

/-! ### HALT and RET -/

theorem State.top_of_background {s : State} (h : s.handlers = []) : s.top = s.bg := by simp only [State.top, h]

theorem State.top_of_handler {s : State} {a : Activity} {rest : List Activity} (h : s.handlers = a :: rest) : s.top = a := by
  simp only [State.top, h]

/-- A host with a handler above its background is not idle. -/
theorem State.hostIdle_of_handler {s : State} {a : Activity} {rest : List Activity} (h : s.handlers = a :: rest) :
    s.hostIdle = false := by
  simp only [State.hostIdle, h, List.isEmpty_cons, Bool.and_false]

theorem State.hostIdle_of_not_halted {s : State} (h : s.halted = false) : s.hostIdle = false := by
  simp only [State.hostIdle, h, Bool.false_and]

/-- HALT and the end of the list are one rule (40_bus.md R404, R426). -/
theorem step_halt_or_end {s : State} (hf : s.fault = none) (ht : s.turn = .statement) (hi : s.hostIdle = false)
    (hc : s.top.current = some .halt ∨ s.top.current = none) :
    step s = Cpu.schedule (Cpu.outcome s (Cpu.runHalt s)) := by
  rcases hc with hc | hc
  · rw [step_eq_runStmt hf ht hi hc (by simp), Cpu.runStmt]
  · exact step_at_end hf ht hi hc

/-- Settles O12: the background's list or a handler's decides each case of `Cpu.runHalt` and `State.leaveHandler`. -/
theorem haltAndReturn : Obligations.HaltAndReturn := by
  unfold Obligations.HaltAndReturn
  intro s hf ht
  refine ⟨fun hs hh hc => ?_, fun hs hh hc => ?_, fun h rest k hs hk hc => ?_, fun h rest k hs hk hc => ?_, fun hi => ?_⟩
  · rw [← s.top_of_background hs] at hc
    rw [step_halt_or_end hf ht (s.hostIdle_of_not_halted hh) hc]
    simp only [Cpu.runHalt, hs, Cpu.outcome, Cpu.schedule]
  · rw [← s.top_of_background hs] at hc
    exact step_of_fault hf ht (s.hostIdle_of_not_halted hh) hc (by simp)
      (by simp only [Cpu.runStmt, Cpu.runRet, State.leaveHandler, hs])
  · rw [← s.top_of_handler hs] at hc
    rw [step_halt_or_end hf ht (s.hostIdle_of_handler hs) hc]
    simp only [Cpu.runHalt, hs, hk, lineInfo, Cpu.outcome, Cpu.schedule]
  · rw [← s.top_of_handler hs] at hc
    have hi := s.hostIdle_of_handler hs
    split
    · rename_i hopen
      exact step_of_fault hf ht hi hc (by simp)
        (by simp only [Cpu.runStmt, Cpu.runRet, State.leaveHandler, hs, hk, hopen, if_true, FaultRecord.ofNat])
    · rename_i hended
      exact step_of_done hf ht hi hc (by simp)
        (by simp only [Cpu.runStmt, Cpu.runRet, State.leaveHandler, hs, hk, hended, if_false])
  · simp only [step_statement s hf ht, Cpu.hostStatement, hi, if_true, Cpu.schedule]

/-! ### POLL -/

/-- The value of a host read comes with a state that differs in units at most. -/
theorem hostRead_host {s t : State} {n : Size} {a v : Word} (h : (s.hostRead n a).2 = .value v t) : SameHost s t := by
  simp only [State.hostRead] at h
  split at h
  · cases h
  · cases h; exact .refl s
  · cases h; exact .refl s
  · exact regRead_host _ _ _ _ h

/-- What a POLL makes of a value (40_bus.md R422): it matches, it is the last failed read allowed, or it is one more. -/
theorem absorb_poll_match {s : State} {a m v r : Word} (h : r &&& m = v) :
    s.absorb (.poll a m v) r = .done { s with busData := r }.advance := by
  simp only [State.absorb, h, if_true]

theorem absorb_poll_limit {s : State} {a m v r : Word} (h : r &&& m ≠ v) (hl : s.params.pollLimit = some (s.top.polls + 1)) :
    s.absorb (.poll a m v) r = .fault ⟨.hwTimeout, .num a.toNat⟩ := by
  simp only [State.absorb, h, if_false, State.pollLimitReached, hl, BEq.rfl, if_true, FaultRecord.ofWord]

theorem absorb_poll_miss {s : State} {a m v r : Word} (h : r &&& m ≠ v) (hl : s.params.pollLimit ≠ some (s.top.polls + 1)) :
    s.absorb (.poll a m v) r = .done ({ s with busData := r }.setTop { s.top with polls := s.top.polls + 1 }) := by
  simp only [State.absorb, h, if_false, State.pollLimitReached, beq_eq_false_iff_ne.mpr hl, Bool.false_eq_true]
  rfl

/-- A POLL's step is its read. -/
theorem step_poll {s : State} {e m v : Expr} {a : Word} (hf : s.fault = none) (ht : s.turn = .statement) (hi : s.hostIdle = false)
    (hc : s.top.current = some (.poll e m v)) (he : s.evalWord e = .ok a) :
    step s = Cpu.schedule (Cpu.runRead s (s.hostRead .b4 a).1 (s.hostRead .b4 a).2) := by
  rw [step_eq_runStmt hf ht hi hc (by simp)]
  simp only [Cpu.runStmt, Cpu.runRd, he, Cpu.transact, Cpu.runRead]

/-- Settles O13: the read's value is compared in a state whose host is that before the step. -/
theorem pollReads : Obligations.PollReads := by
  unfold Obligations.PollReads
  intro s e m v a wm wv hf ht hi hc he hm hv
  have hk := sink_poll hc he hm hv
  rw [step_poll hf ht hi hc he]
  refine ⟨fun r t hr => ?_, fun l f hr => ?_, fun l hr => ?_⟩
  · have hst : SameHost s t := hostRead_host (congrArg Prod.snd hr)
    have hvalue : Cpu.runRead s (s.hostRead .b4 a).1 (s.hostRead .b4 a).2 = Cpu.outcome s (t.absorb (.poll a wm wv) r) := by
      simp only [hr, Cpu.runRead, Cpu.finishRead, hk, Lane.take]
    rw [hvalue, ← hst.params, ← hst.top]
    refine ⟨fun hmatch => ?_, fun hmiss hl => ?_, fun hmiss hl => ?_⟩
    · rw [absorb_poll_match hmatch]; rfl
    · rw [absorb_poll_limit hmiss hl]; rfl
    · rw [absorb_poll_miss hmiss hl]; rfl
  · rw [hr, runRead_fault s l _ f hk]; rfl
  · rw [hr, runRead_hold s l _ hk]; rfl

end Sys2Proof.Machine
end

section
/-! SUPPORT. Locals and the errors of expressions (40_bus.md R402, R424), and the statement at which a call begins: the faults that the
first operand of a driver operation raises come from there (R427). -/
namespace Sys2Proof.Machine

/-! ### Expressions: an operand's error is the expression's -/

section
variable {loc : List (LocalName × Word)} {a b c : Expr} {f : FaultRecord}

theorem Expr.eval_undefined {y : LocalName} (h : findLocal loc y = none) : Expr.eval loc (.loc y) = .error ⟨.hostUndefLocal, .loc y⟩ := by
  simp only [Expr.eval, h]

theorem Expr.eval_un_error (op : UnOp) (h : Expr.eval loc a = .error f) : Expr.eval loc (.un op a) = .error f := by
  simp only [Expr.eval, h]

theorem Expr.eval_bin_error_left (op : BinOp) (h : Expr.eval loc a = .error f) : Expr.eval loc (.bin op a b) = .error f := by
  simp only [Expr.eval, h]

theorem Expr.eval_bin_error_right (op : BinOp) {v : Int} (ha : Expr.eval loc a = .ok v) (h : Expr.eval loc b = .error f) :
    Expr.eval loc (.bin op a b) = .error f := by
  simp only [Expr.eval, ha, h]

theorem Expr.eval_cond_error (h : Expr.eval loc c = .error f) : Expr.eval loc (.cond c a b) = .error f := by
  simp only [Expr.eval, h]

theorem Expr.eval_cond {v : Int} (h : Expr.eval loc c = .ok v) :
    Expr.eval loc (.cond c a b) = if v ≠ 0 then Expr.eval loc a else Expr.eval loc b := by
  simp only [Expr.eval, h]

end

/-- The one error an operator gives is `Q31_DOMAIN` (44_cordic.md R820). -/
theorem evalUn_error {op : UnOp} {v : Int} {f : FaultRecord} (h : evalUn op v = .error f) : f.code = .q31Domain := by
  cases op <;> simp only [evalUn] at h
  case q31OfF32 => split at h <;> cases h; rfl
  all_goals cases h

/-- An undefined local that an expression reports occurs in it (40_bus.md R402). -/
theorem Expr.undefined_of_eval (loc : List (LocalName × Word)) (e : Expr) (info : FaultInfo)
    (h : Expr.eval loc e = .error ⟨.hostUndefLocal, info⟩) : ∃ y ∈ Expr.locals e, findLocal loc y = none ∧ info = .loc y := by
  induction e with
  | num v => cases h
  | loc x =>
    simp only [Expr.eval] at h
    split at h <;> cases h
    rename_i hx
    exact ⟨x, List.mem_singleton_self x, hx, rfl⟩
  | un op a iha =>
    simp only [Expr.eval] at h
    split at h
    · rename_i ha; cases h; exact iha ha
    · cases evalUn_error h
  | bin op a b iha ihb =>
    simp only [Expr.locals, List.mem_append]
    simp only [Expr.eval] at h
    split at h
    · rename_i ha; cases h
      obtain ⟨y, hy, hu⟩ := iha ha
      exact ⟨y, .inl hy, hu⟩
    · split at h <;> cases h
      rename_i hb
      obtain ⟨y, hy, hu⟩ := ihb hb
      exact ⟨y, .inr hy, hu⟩
  | cond c a b ihc iha ihb =>
    simp only [Expr.locals, List.mem_append]
    simp only [Expr.eval] at h
    split at h
    · rename_i hc; cases h
      obtain ⟨y, hy, hu⟩ := ihc hc
      exact ⟨y, .inl (.inl hy), hu⟩
    · split at h
      · obtain ⟨y, hy, hu⟩ := iha h
        exact ⟨y, .inl (.inr hy), hu⟩
      · obtain ⟨y, hy, hu⟩ := ihb h
        exact ⟨y, .inr hy, hu⟩

/-! ### The operand a statement evaluates first -/

/-- The expression a statement evaluates before any other: an address, a condition or an assigned value. -/
def Stmt.operand : Stmt → Option Expr
  | .rd _ _ a => some a
  | .wr _ a _ => some a
  | .poll a _ _ => some a
  | .set _ e => some e
  | .br c _ => some c
  | .brFault c _ _ => some c
  | .wait _ => none
  | .jmp _ => none
  | .call _ _ => none
  | .ret => none
  | .halt => none

/-- The error of the first operand is the statement's fault. -/
theorem runStmt_operand_error {s : State} {st : Stmt} {e : Expr} {f : FaultRecord} (hst : st.operand = some e)
    (h : s.eval e = .error f) : Cpu.runStmt s st = .fault f := by
  have hw := s.evalWord_error h
  cases st <;> cases hst
  case rd => simp only [Cpu.runStmt, Cpu.runRd, hw]
  case wr => simp only [Cpu.runStmt, Cpu.runWr, State.wrTransaction, hw]
  case poll => simp only [Cpu.runStmt, Cpu.runRd, hw]
  case set => simp only [Cpu.runStmt, Cpu.runSet, hw]
  case br => simp only [Cpu.runStmt, Cpu.runBr, h]
  case brFault => simp only [Cpu.runStmt, Cpu.runBrFault, h]

/-- So is the error of the value of a WR, once its address has one. -/
theorem runStmt_wr_error {s : State} {n : Size} {e v : Expr} {a : Int} {f : FaultRecord} (he : s.eval e = .ok a)
    (hv : s.eval v = .error f) : Cpu.runStmt s (.wr n e v) = .fault f := by
  simp only [Cpu.runStmt, Cpu.runWr, State.wrTransaction, s.evalWord_ok he, s.evalWord_error hv]

/-- A read whose destination does not evaluate raises that error before it uses the bus (log entry 14). -/
theorem runStmt_poll_error {s : State} {e m v : Expr} {a : Int} {f : FaultRecord} (he : s.eval e = .ok a)
    (hk : s.sink = .error f) : Cpu.runStmt s (.poll e m v) = .fault f := by
  simp only [Cpu.runStmt, Cpu.runRd, s.evalWord_ok he, Cpu.transact, Cpu.finishRead, hk]

/-- The mask and the value of a POLL, in this order. -/
theorem sink_poll_error {s : State} {e m v : Expr} {a : Int} {f : FaultRecord} (hc : s.top.current = some (.poll e m v))
    (he : s.eval e = .ok a) (h : s.eval m = .error f ∨ (∃ w, s.eval m = .ok w) ∧ s.eval v = .error f) : s.sink = .error f := by
  rcases h with hm | ⟨⟨w, hm⟩, hv⟩
  · simp only [State.sink, hc, s.evalWord_ok he, s.evalWord_error hm]
  · simp only [State.sink, hc, s.evalWord_ok he, s.evalWord_ok hm, s.evalWord_error hv]

/-- The info of a fault branch that is taken. -/
theorem runStmt_brFault_error {s : State} {c e : Expr} {code : FaultCode} {v : Int} {f : FaultRecord} (hc : s.eval c = .ok v)
    (hv : v ≠ 0) (he : s.eval e = .error f) : Cpu.runStmt s (.brFault c code e) = .fault f := by
  simp only [Cpu.runStmt, Cpu.runBrFault, hc, if_pos hv, he]

/-! ### The statement a call begins with (40_bus.md R427; log entry 7) -/

/-- The statement that a call of this expansion performs first: its own first, or that of the call it begins with, to the depth at
which `State.enterCalls` stops. -/
def leading (p : Params) : Nat → Prog → Option Stmt
  | 0, body => body.head?
  | depth + 1, body =>
    match body with
    | .call j ds :: _ => leading p depth (expansion p j ds)
    | _ => body.head?

/-- Entering calls moves the top activity to their leading statement; its locals, level and line stay. -/
theorem enterCalls_setTop (depth : Nat) : ∀ (body : Prog) (s : State), ∃ a : Activity,
    State.enterCalls depth body s = s.setTop a ∧ a.loc = s.top.loc ∧ a.lvl = s.top.lvl ∧ a.line = s.top.line ∧
      a.current = leading s.params depth body := by
  have expanded : ∀ (body : Prog) (s : State), (s.top.expand body).current = body.head? := fun body s => by
    rw [Activity.current, Activity.expand, List.head?_eq_getElem?]
  induction depth with
  | zero => exact fun body s => ⟨s.top.expand body, rfl, rfl, rfl, rfl, expanded body s⟩
  | succ d ih =>
    intro body s
    cases body with
    | nil => exact ⟨s.top.expand [], rfl, rfl, rfl, rfl, expanded [] s⟩
    | cons st rest =>
      cases st with
      | call j ds =>
        obtain ⟨a, ha, hloc, hlvl, hline, hcur⟩ := ih (expansion s.params j ds) (s.setTop (s.top.expand (.call j ds :: rest)))
        rw [State.setTop_setTop] at ha
        rw [State.top_setTop] at hloc hlvl hline
        exact ⟨a, ha, hloc, hlvl, hline, hcur⟩
      | _ => exact ⟨s.top.expand (_ :: rest), rfl, rfl, rfl, rfl, expanded (_ :: rest) s⟩

/-- A driver operation runs its leading statement, in a state whose top activity has the caller's locals, level and line. -/
theorem exec_operation_leading {i : Instr} {s : State} {st : Stmt} (ho : i.isOperation = true)
    (hl : leading s.params 2 (expansion s.params i s.callDests) = some st) :
    ∃ a : Activity, a.loc = s.top.loc ∧ a.lvl = s.top.lvl ∧ a.line = s.top.line ∧ a.current = some st ∧
      exec i s = Cpu.outcome s (Cpu.runStmt (s.setTop a) st) := by
  obtain ⟨a, ha, hloc, hlvl, hline, hcur⟩ := enterCalls_setTop 2 (expansion s.params i s.callDests) s
  rw [hl] at hcur
  refine ⟨a, hloc, hlvl, hline, hcur, ?_⟩
  rw [exec_operation i s ho]
  simp only [Cpu.runCall, ha, State.top_setTop, hcur]

/-- The error of the operand checked first is the call's fault. -/
theorem exec_operand_error {i : Instr} {s : State} {st : Stmt} {c : Expr} {f : FaultRecord} (ho : i.isOperation = true)
    (hl : leading s.params 2 (expansion s.params i s.callDests) = some st) (hst : st.operand = some c)
    (h : Expr.eval s.top.loc c = .error f) : exec i s = .next (s.raise f) := by
  obtain ⟨a, hloc, _, _, _, hexec⟩ := exec_operation_leading ho hl
  have ha : (s.setTop a).eval c = .error f := by rw [State.eval, State.top_setTop, hloc, h]
  rw [hexec, runStmt_operand_error hst ha, Cpu.outcome]

/-- Settles O11: the statement's own error, the operations' through their leading statement, and the laws of `Expr.eval` and of the
list of locals. -/
theorem locals : Obligations.Locals := by
  unfold Obligations.Locals
  refine ⟨fun s f hf ht hi h => ?_, fun s f u e a b c d h i hmem => ?_, fun loc y h => Expr.eval_undefined h,
    fun loc e a b f => ⟨fun op => Expr.eval_un_error op, fun op => Expr.eval_bin_error_left op,
      fun op v => Expr.eval_bin_error_right op, Expr.eval_cond_error, fun v => Expr.eval_cond⟩,
    Expr.undefined_of_eval, fun loc x y v => ?_⟩
  · rcases h with ⟨x, n, e, hc, he⟩ | ⟨n, e, v, hc, he | ⟨⟨a, he⟩, hv⟩⟩ | ⟨e, m, v, hc, he | ⟨⟨a, he⟩, hmv⟩⟩ | ⟨c, l, hc, he⟩ |
      ⟨c, code, e, hc, he | ⟨⟨v, hv, hne⟩, he⟩⟩ | ⟨x, e, hc, he⟩
    all_goals refine step_of_fault hf ht hi hc (by simp) ?_
    · exact runStmt_operand_error rfl he
    · exact runStmt_operand_error rfl he
    · exact runStmt_wr_error he hv
    · exact runStmt_operand_error rfl he
    · exact runStmt_poll_error he (sink_poll_error hc he hmv)
    · exact runStmt_operand_error rfl he
    · exact runStmt_operand_error rfl he
    · exact runStmt_brFault_error hv hne he
    · exact runStmt_operand_error rfl he
  · have he : Expr.eval s.top.loc e = .error f := h
    simp only [List.mem_cons, List.not_mem_nil, or_false] at hmem
    rcases hmem with rfl | rfl | rfl | rfl | rfl | rfl | rfl | rfl | rfl | rfl | rfl | rfl | rfl | rfl | rfl | rfl | rfl | rfl
    all_goals exact exec_operand_error rfl rfl rfl (by simp only [gtE, ltE, or3E, Expr.eval, he])
  · rw [findLocal_writeLocal]
    simp only [eq_comm]

end Sys2Proof.Machine
end

section
/-! SUPPORT. The frame of a driver operation's call (40_bus.md R427). It holds in every layout a machine may be launched with: the first
statement of a call then reaches the register it names. In a layout no launch has, where a unit's window lies in RAM, it does not. -/
namespace Sys2Proof.Machine

/-! ### Frames of the host's own part -/

/-- A change of the position alone. -/
theorem State.ReadFrame.advance (s : State) (k : Except FaultRecord Sink) : s.ReadFrame s.advance k :=
  .setTop s s.busData s.top.next k rfl rfl fun _ _ => rfl

/-- `LET x = E` (40_bus.md R424) writes its local and moves on. -/
theorem State.ReadFrame.assign (s : State) (x : LocalName) (v : Word) :
    s.ReadFrame (s.setTop (s.top.setLocal x v)).advance (.ok (.store x)) := by
  rw [State.advance, State.top_setTop, State.setTop_setTop]
  refine .setTop s s.busData _ _ rfl rfl fun y hy => ?_
  have hxy : x ≠ y := fun e => hy (e ▸ rfl)
  exact (findLocal_writeLocal s.top.loc x y v).trans (if_neg hxy)

/-! ### A statement that names a register, in a well-formed layout -/

theorem State.evalWord_natCast (s : State) (n : Nat) : s.evalWord (.num n) = .ok (BitVec.ofNat 32 n) := by
  rw [s.evalWord_ok (v := n) rfl, BitVec.ofInt_natCast]

theorem State.evalWord_regE (s : State) (p : Params) (r : Reg) : s.evalWord (regE p r) = .ok (r.addr p) :=
  s.evalWord_natCast (r.address p)

/-- A RD of a register that is done read that register. -/
theorem runStmt_rd_reg {s t : State} {x : LocalName} {r : Reg} (hp : s.params.wf = true) (hr : r.present s.params = true)
    (hc : s.top.current = some (.rd x .b4 (regE s.params r))) (h : Cpu.runStmt s (.rd x .b4 (regE s.params r)) = .done t) :
    ∃ v w, s.regRead r = .value v w ∧ w.ReadFrame t (.ok (.store x)) := by
  simp only [Cpu.runStmt, Cpu.runRd, s.evalWord_regE, Cpu.transact, State.hostRead, locate_word s.params hp r hr, Cpu.finishRead,
    sink_rd hc] at h
  split at h
  · cases h
  · cases h
  · rename_i v w hv
    exact ⟨v, w, hv, State.absorb_frame h⟩

/-- A WR of a register that is done wrote that register. -/
theorem runStmt_wr_reg {s t : State} {e : Expr} {r : Reg} (hp : s.params.wf = true) (hr : r.present s.params = true)
    (h : Cpu.runStmt s (.wr .b4 (regE s.params r) e) = .done t) :
    ∃ d w, s.evalWord e = .ok d ∧ s.regWrite r d = .ok w ∧ t = w.advance := by
  cases he : s.evalWord e with
  | error f => simp only [Cpu.runStmt, Cpu.runWr, State.wrTransaction, s.evalWord_regE, he] at h; cases h
  | ok d =>
    simp only [Cpu.runStmt, Cpu.runWr, State.wrTransaction, s.evalWord_regE, he, Cpu.transact, State.hostWrite,
      locate_word s.params hp r hr, Size.trunc] at h
    cases hw : s.regWrite r d with
    | error f => rw [hw] at h; cases h
    | ok w => rw [hw] at h; cases h; exact ⟨d, w, rfl, hw, rfl⟩

/-- The trim halfword is at its address (20_memory.md R201). -/
theorem locate_trimAddr (p : Params) (hp : p.wf = true) : locate p .b2 (BitVec.ofNat 32 p.trimAddr) = .ok (.trim 0) := by
  obtain ⟨halign, hspace⟩ := (p.layout hp).trim
  have haddr : (BitVec.ofNat 32 p.trimAddr).toNat = p.trimAddr := by rw [BitVec.toNat_ofNat, Nat.mod_eq_of_lt (by omega)]
  have hin : insideRegion p.trimAddr 2 (BitVec.ofNat 32 p.trimAddr).toNat Size.b2.bytes = true := by
    rw [insideRegion_iff, haddr, Size.bytes]; omega
  rw [locate_inTrim p hp .b2 _ hin, haddr, Size.bytes, if_pos halign, Nat.sub_self]
  rfl

/-- A RD of the trim halfword reads no register. -/
theorem runStmt_rd_trim {s t : State} {x : LocalName} (hp : s.params.wf = true)
    (hc : s.top.current = some (.rd x .b2 (.num s.params.trimAddr)))
    (h : Cpu.runStmt s (.rd x .b2 (.num s.params.trimAddr)) = .done t) : s.ReadFrame t (.ok (.store x)) := by
  simp only [Cpu.runStmt, Cpu.runRd, s.evalWord_natCast, Cpu.transact, State.hostRead, locate_trimAddr s.params hp, Cpu.finishRead,
    sink_rd hc] at h
  exact State.absorb_frame h

/-! ### Where the call of each operation begins -/

/-- The statement at which the call of an operation begins, its results going to the locals `ds`: a check, an assignment, the read of
a register without a side effect on units or of the trim halfword, and, of four operations, an access that a unit's own rule
answers. -/
inductive CallStart (p : Params) (ds : List LocalName) : Instr → Stmt → Prop
  | check (i : Instr) (c : Expr) (code : FaultCode) (info : Expr) : CallStart p ds i (.brFault c code info)
  | assign (i : Instr) {x : LocalName} (e : Expr) (hx : ∀ n, x = .user n → x ∈ ds) : CallStart p ds i (.set x e)
  | read (i : Instr) {x : LocalName} (r : Reg) (hx : ∀ n, x = .user n → x ∈ ds) (hr : ∀ u, r ≠ .adc u .dr)
      (hc : r = .cordic .rdata → i = .cordicCollect) (hp : r.present p = true) : CallStart p ds i (.rd x .b4 (regE p r))
  | trim (i : Instr) {x : LocalName} (hx : ∀ n, x = .user n → x ∈ ds) : CallStart p ds i (.rd x .b2 (.num p.trimAddr))
  | powerup (u : AdcUnit) : CallStart p ds (.adcPowerupCalibrate u) (.wr .b4 (regE p (.adc u .cr)) (.num 0))
  | clearFlag (u : AdcUnit) (e : Expr) : CallStart p ds (.adcClearInjectedFlag u) (.wr .b4 (regE p (.adc u .isr)) e)
  | cordicMode (e : Expr) : CallStart p ds .cordicInit (.wr .b4 (regE p (.cordic .csr)) e)

/-- A program's own local takes a result only where the call names it. -/
theorem destOr_user (ds : List LocalName) (k : Nat) {own : LocalName} (hown : ∀ n, own ≠ .user n) :
    ∀ n, destOr ds k own = .user n → destOr ds k own ∈ ds := by
  intro n hn
  unfold destOr at *
  cases hk : ds[k]? with
  | none => rw [hk] at hn; exact absurd hn (hown n)
  | some x => exact List.mem_of_getElem? hk

theorem leading_callStart (p : Params) (ds : List LocalName) (i : Instr) (ho : i.isOperation = true) :
    ∃ st, leading p 2 (expansion p i ds) = some st ∧ CallStart p ds i st := by
  cases i
  case pwmConfigure | pwmSetDuty | adcConfigureProduction | adcOneShot | adcGetAverage | adcReadInjectedData | dmamuxMap | dmaBind |
      dmaStart | dmaStop | dmaTc | dmaClearTc | dmaClearAll | xfRun => exact ⟨_, rfl, .check _ _ _ _⟩
  case pwmDeadtimeTicks | adcRawDrAddress | floatToQ31 | q31ToFloat => exact ⟨_, rfl, .assign _ _ (destOr_user ds 0 nofun)⟩
  case cordicCompute | cordicRequest => exact ⟨_, rfl, .assign _ _ nofun⟩
  case pwmEnableOutputs => exact ⟨_, rfl, .read _ (.pwm .bdtr) nofun nofun nofun rfl⟩
  case adcEnable u => exact ⟨_, rfl, .read _ (.adc u .cr) nofun nofun nofun rfl⟩
  case adcStart u => exact ⟨_, rfl, .read _ (.adc u .cr) nofun nofun nofun rfl⟩
  case adcReadInjectedFlag u => exact ⟨_, rfl, .read _ (.adc u .isr) nofun nofun nofun rfl⟩
  case cordicCollect => exact ⟨_, rfl, .read _ (.cordic .rdata) nofun nofun (fun _ => rfl) rfl⟩
  case adcReferenceVoltage | adcVrefCalibrate => exact ⟨_, rfl, .trim _ nofun⟩
  case adcPowerupCalibrate u => exact ⟨_, rfl, .powerup u⟩
  case adcClearInjectedFlag u => exact ⟨_, rfl, .clearFlag u _⟩
  case cordicInit => exact ⟨_, rfl, .cordicMode _⟩
  all_goals cases ho

/-! ### What a call's first statement changes -/

/-- What the first statement of operation i may change of the units from s to w. -/
structure State.CallEffect (s w : State) (i : Instr) : Prop where
  host : SameHost s w
  pwm : w.pwm = s.pwm
  dma : w.dma = s.dma
  dmamux : w.dmamux = s.dmamux
  xform : w.xform = s.xform
  intc : w.intc = s.intc
  adcPaired : w.adcPaired = s.adcPaired
  adc1 : i ≠ .adcPowerupCalibrate .one → i ≠ .adcClearInjectedFlag .one → w.adc1 = s.adc1
  adc2 : i ≠ .adcPowerupCalibrate .two → i ≠ .adcClearInjectedFlag .two → w.adc2 = s.adc2
  cordic : i ≠ .cordicInit → i ≠ .cordicCollect → w.cordic = s.cordic

theorem State.CallEffect.refl (s : State) (i : Instr) : s.CallEffect s i :=
  ⟨.refl s, rfl, rfl, rfl, rfl, rfl, rfl, fun _ _ => rfl, fun _ _ => rfl, fun _ _ => rfl⟩

/-- A unit of the ADC replaced by one of the two operations that write it. -/
theorem State.CallEffect.setAdc (s : State) (u : AdcUnit) (a : Adc) {i : Instr}
    (hi : i = .adcPowerupCalibrate u ∨ i = .adcClearInjectedFlag u) : s.CallEffect (s.setAdc u a) i := by
  refine ⟨⟨rfl, rfl, rfl, rfl, rfl, rfl, rfl, rfl, rfl, rfl, rfl⟩, rfl, rfl, rfl, rfl, rfl, rfl, fun hne hne' => ?_,
    fun hne hne' => ?_, fun _ _ => rfl⟩
  · cases u with
    | one => rcases hi with rfl | rfl <;> contradiction
    | two => rfl
  · cases u with
    | one => rfl
    | two => rcases hi with rfl | rfl <;> contradiction

/-- The read that begins a call has no side effect but that of `CORDIC_COLLECT`. -/
theorem State.CallEffect.of_read {s w : State} {r : Reg} {v : Word} {i : Instr} (h : s.regRead r = .value v w)
    (hr : ∀ u, r ≠ .adc u .dr) (hc : r = .cordic .rdata → i = .cordicCollect) : s.CallEffect w i := by
  obtain ⟨pwm, paired, dma, mux, xform, intc, adc1, adc2, _, _, cordic, _⟩ := regRead_effect h
  exact ⟨regRead_host s w r v h, pwm, dma, mux, xform, intc, paired, fun _ _ => adc1 (hr _), fun _ _ => adc2 (hr _),
    fun _ hne => cordic fun he => hne (hc he)⟩

/-- What a call's first statement, when it is done, changes: units as `CallEffect` says, then the host's own part, where a local of
the program is written only if the call names it. -/
theorem runStmt_callStart {s t : State} {ds : List LocalName} {i : Instr} {st : Stmt} (hp : s.params.wf = true)
    (hst : CallStart s.params ds i st) (hc : s.top.current = some st) (h : Cpu.runStmt s st = .done t) :
    ∃ w k, s.CallEffect w i ∧ w.ReadFrame t (.ok k) ∧ ∀ n, .user n ∉ ds → k ≠ .store (.user n) := by
  have stored {x : LocalName} (hx : ∀ n, x = .user n → x ∈ ds) : ∀ n, .user n ∉ ds → Sink.store x ≠ .store (.user n) :=
    fun n hn e => hn (Sink.store.inj e ▸ hx n (Sink.store.inj e))
  cases hst with
  | check _ c code info =>
    simp only [Cpu.runStmt, Cpu.runBrFault] at h
    split at h
    · cases h
    · split at h
      · split at h <;> cases h
      · cases h; exact ⟨s, .drop, .refl s i, .advance s _, nofun⟩
  | @assign _ x e hx =>
    simp only [Cpu.runStmt, Cpu.runSet] at h
    split at h <;> cases h
    exact ⟨s, .store x, .refl s i, .assign s x _, stored hx⟩
  | @read _ x r hx hr hcol hpr =>
    obtain ⟨v, w, hv, hframe⟩ := runStmt_rd_reg hp hpr hc h
    exact ⟨w, .store x, .of_read hv hr hcol, hframe, stored hx⟩
  | @trim _ x hx => exact ⟨s, .store x, .refl s i, runStmt_rd_trim hp hc h, stored hx⟩
  | powerup u =>
    obtain ⟨d, w, hd, hw, rfl⟩ := runStmt_wr_reg hp rfl h
    obtain rfl : d = 0#32 := by cases hd; rfl
    have hstarts : (s.adc u).crStarts 0#32 = false := by simp [Adc.crStarts, Word.bit]
    simp only [State.regWrite, State.adcWriteCr, hstarts, Bool.not_false, Bool.and_true] at hw
    split at hw <;> cases hw
    exact ⟨_, .drop, .setAdc s u _ (.inl rfl), .advance _ _, nofun⟩
  | clearFlag u e =>
    obtain ⟨d, w, _, hw, rfl⟩ := runStmt_wr_reg hp rfl h
    cases hw
    exact ⟨_, .drop, .setAdc s u _ (.inr rfl), .advance _ _, nofun⟩
  | cordicMode e =>
    obtain ⟨d, w, _, hw, rfl⟩ := runStmt_wr_reg hp rfl h
    simp only [State.regWrite, State.cordicWrite] at hw
    split at hw <;> cases hw
    rename_i k _
    exact ⟨{ s with cordic := k }, .drop, ⟨⟨rfl, rfl, rfl, rfl, rfl, rfl, rfl, rfl, rfl, rfl, rfl⟩, rfl, rfl, rfl, rfl, rfl, rfl, fun _ _ => rfl,
      fun _ _ => rfl, fun hne => absurd rfl hne⟩, .advance _ _, nofun⟩

/-- A call that gives a next state, as three changes: the expansion is entered, then the first statement's effect on the units, then
its effect on the host. A call that holds or faults makes none of the first two. -/
theorem exec_operation_frame {s t : State} {i : Instr} (hp : s.params.wf = true) (ho : i.isOperation = true)
    (h : exec i s = .next t) : ∃ u w k, s.ReadFrame u (.ok .drop) ∧ u.CallEffect w i ∧ w.ReadFrame t (.ok k) ∧
      ∀ n, .user n ∉ s.callDests → k ≠ .store (.user n) := by
  obtain ⟨st, hl, hst⟩ := leading_callStart s.params s.callDests i ho
  obtain ⟨a, hloc, hlvl, hline, hcur, hexec⟩ := exec_operation_leading ho hl
  rw [hexec] at h
  cases hr : Cpu.runStmt (s.setTop a) st with
  | done v =>
    rw [hr] at h
    cases h
    have hentered : s.ReadFrame (s.setTop a) (.ok .drop) := .setTop s s.busData a _ hlvl hline fun y _ => by rw [hloc]
    obtain ⟨w, k, heffect, hframe, hk⟩ :=
      runStmt_callStart (s := s.setTop a) hp hst (by rw [State.top_setTop]; exact hcur) hr
    exact ⟨s.setTop a, w, k, hentered, heffect, hframe, hk⟩
  | hold =>
    rw [hr] at h
    cases h
    exact ⟨s, s, .drop, .refl s _, .refl s i, .refl s _, nofun⟩
  | fault f =>
    rw [hr] at h
    cases h
    exact ⟨s, s, .drop, .refl s _, .refl s i, .raise s f _, nofun⟩

/-- `Obligations.OperationCallFrame` for the layouts a machine may be launched with (`Params.wf`, which every run has, log entry 22). -/
theorem operationCall_frame_of_wf (s t : State) (i : Instr) (hp : s.params.wf = true) (ho : i.isOperation = true)
    (h : exec i s = .next t) :
    t.pwm = s.pwm ∧ t.dma = s.dma ∧ t.dmamux = s.dmamux ∧ t.xform = s.xform ∧ t.intc = s.intc ∧ t.adcPaired = s.adcPaired ∧
    t.trim = s.trim ∧ t.params = s.params ∧ t.vec = s.vec ∧ t.halted = s.halted ∧ (∀ a, t.byteAt a = s.byteAt a) ∧
    (i ≠ .adcPowerupCalibrate .one → i ≠ .adcClearInjectedFlag .one → t.adc1 = s.adc1) ∧
    (i ≠ .adcPowerupCalibrate .two → i ≠ .adcClearInjectedFlag .two → t.adc2 = s.adc2) ∧
    (i ≠ .cordicInit → i ≠ .cordicCollect → t.cordic = s.cordic) ∧
    t.handlers.length = s.handlers.length ∧ t.handlers.tail = s.handlers.tail ∧ (s.handlers ≠ [] → t.bg = s.bg) ∧
    t.top.lvl = s.top.lvl ∧ t.top.line = s.top.line ∧
    ∀ n : Nat, LocalName.user n ∉ s.callDests → findLocal t.top.loc (.user n) = findLocal s.top.loc (.user n) := by
  obtain ⟨u, w, k, F, E, G, hk⟩ := exec_operation_frame hp ho h
  obtain ⟨pwm, adc1, adc2, paired, dma, mux, cordic, xform, intc, ram, trim, vec, params⟩ := F.units
  obtain ⟨pwm', adc1', adc2', paired', dma', mux', cordic', xform', intc', ram', trim', vec', params'⟩ := G.units
  have H := E.host
  have htop : w.top = u.top := H.top
  refine ⟨pwm'.trans (E.pwm.trans pwm), dma'.trans (E.dma.trans dma), mux'.trans (E.dmamux.trans mux),
    xform'.trans (E.xform.trans xform), intc'.trans (E.intc.trans intc), paired'.trans (E.adcPaired.trans paired),
    trim'.trans (H.trim.trans trim), params'.trans (H.params.trans params), vec'.trans (H.vec.trans vec),
    G.halted.trans (H.halted.trans F.halted),
    State.byteAt_congr (ram'.trans (H.ram.trans ram)) (G.stepNo.trans (H.stepNo.trans F.stepNo)),
    fun h1 h2 => adc1'.trans ((E.adc1 h1 h2).trans adc1), fun h1 h2 => adc2'.trans ((E.adc2 h1 h2).trans adc2),
    fun h1 h2 => cordic'.trans ((E.cordic h1 h2).trans cordic),
    G.length.trans ((congrArg _ H.handlers).trans F.length), G.tail.trans ((congrArg _ H.handlers).trans F.tail),
    fun hs => ?_, G.lvl.trans ((congrArg _ htop).trans F.lvl), G.line.trans ((congrArg _ htop).trans F.line), fun n hn => ?_⟩
  · have hu : u.handlers ≠ [] := fun e => hs (List.length_eq_zero_iff.mp (by rw [← F.length, e, List.length_nil]))
    exact (G.bg (H.handlers ▸ hu)).trans (H.bg.trans (F.bg hs))
  · have hstored : Except.ok k ≠ (.ok (.store (.user n)) : Except FaultRecord Sink) := fun e => hk n hn (Except.ok.inj e)
    rw [G.loc _ hstored, htop, F.loc _ nofun]

/-! ### A layout in which it fails -/

/-- Where the bus finds RAM at the address of its `ISR`, `ADC_CLEAR_INJECTED_FLAG(u)` stores its word there. -/
theorem exec_clearInjectedFlag_inRam (s : State) (u : AdcUnit) (off : BitVec 32)
    (hl : locate s.params .b4 (Reg.addr s.params (.adc u .isr)) = .ok (.ram off)) :
    ∃ a : Activity, exec (.adcClearInjectedFlag u) s = .next ((s.setTop a).memWrite .b4 (s.ramAddr off) 0x40#32).advance := by
  obtain ⟨a, _, _, _, _, hexec⟩ := exec_operation_leading (i := .adcClearInjectedFlag u) (s := s) rfl rfl
  refine ⟨a, hexec.trans ?_⟩
  have hwrite : (s.setTop a).hostWrite .b4 (Reg.addr s.params (.adc u .isr)) (Size.trunc .b4 0x40#32) =
      .ok ((s.setTop a).memWrite .b4 (s.ramAddr off) 0x40#32) := by
    simp only [State.hostWrite, State.setTop_params, hl]
    rfl
  rw [runStmt_wr (ha := State.evalWord_regE _ _ _) (he := State.evalWord_ok (v := 0x40) rfl) (hw := hwrite), Cpu.outcome]

/-- Refutes O40: the statement is about every layout, and in one that no launch has (`Params.wf`), with the window of ADC1 at the start
of RAM, the write of `ADC_CLEAR_INJECTED_FLAG(1)` goes to memory: 0x40 replaces the byte there. `operationCall_frame_of_wf` is the
statement for the layouts a launch has. -/
theorem not_operationCallFrame : ¬ Obligations.OperationCallFrame := by
  unfold Obligations.OperationCallFrame
  intro h
  let s : State := { State.reset with
    params := { Params.default with adc1Base := Params.default.ramBase }
    ram := [(Params.default.ramBase, 0)] }
  obtain ⟨a, hexec⟩ := exec_clearInjectedFlag_inRam s .one 0 (by decide)
  obtain ⟨_, _, _, _, _, _, _, _, _, _, hbyte, _⟩ := h s _ _ rfl hexec
  have hbefore : s.byteAt Params.default.ramBase = 0 := s.byteAt_of_find _ _ (by decide)
  have hafter := (s.setTop a).byteAt_memWrite_inside .b4 Params.default.ramBase 0 0x40#32 (by decide)
  exact absurd (hafter.symm.trans ((hbyte Params.default.ramBase).trans hbefore)) (by decide)

end Sys2Proof.Machine
end

section
/-! SUPPORT. What one tick of the PWM unit does, field by field (41_pwm.md R520 to R527, R530, R533): the counter's part, then the compares,
the dead time and the triggers, which read the counter's new state; and what it leaves alone. -/
namespace Sys2Proof.Machine
namespace Pwm

/-! ### The parts of a tick -/

/-- The counter's advance in the mode that is on, and whether it is an update candidate (41_pwm.md R521, R522). -/
def advance (p : Pwm) : Pwm × Bool := if p.cms then p.centreAdvance else p.edgeAdvance

/-- The prescaler's and the counter's part of a tick (41_pwm.md R520). -/
def counted (p : Pwm) : Pwm := if p.prescale.2 then p.prescale.1.count else p.prescale.1

/-- The prescaler lets this tick through to the counter (41_pwm.md R520). -/
def Advances (p : Pwm) : Prop := p.cen = true ∧ p.pscAct ≤ p.pscCnt

/-- The counter is at the end of its direction, where an advance is an update candidate (41_pwm.md R521, R522). -/
def atEnd (p : Pwm) : Prop := if p.cms = true ∧ p.dir = true then p.cnt = 0 else p.arr ≤ p.cnt

theorem tick_eq (p : Pwm) : p.tick = (p.counted.triggers p.prescale.2).outputCompare := rfl

theorem count_eq (p : Pwm) : p.count = if p.advance.2 then p.advance.1.repetition else p.advance.1 := rfl

/-! ### What each part leaves alone -/

/-- The registers a tick reads and never writes are the same. -/
structure SameSetup (p q : Pwm) : Prop where
  cen : q.cen = p.cen
  cms : q.cms = p.cms
  cr2 : q.cr2 = p.cr2
  ccmr : q.ccmr = p.ccmr
  ccer : q.ccer = p.ccer
  psc : q.psc = p.psc
  arr : q.arr = p.arr
  rcr : q.rcr = p.rcr
  ccr : q.ccr = p.ccr
  dtg : q.dtg = p.dtg
  ossi : q.ossi = p.ossi
  moe : q.moe = p.moe

/-- Besides the registers of `SameSetup`, the levels and dead-time counts of the outputs are the same: what the counter's part of a tick
leaves alone. -/
structure SameOutputs (p q : Pwm) : Prop extends SameSetup p q where
  ocref : q.ocref = p.ocref
  dtc : q.dtc = p.dtc

theorem SameSetup.refl (p : Pwm) : p.SameSetup p := ⟨rfl, rfl, rfl, rfl, rfl, rfl, rfl, rfl, rfl, rfl, rfl, rfl⟩

theorem SameOutputs.refl (p : Pwm) : p.SameOutputs p := ⟨.refl p, rfl, rfl⟩

theorem SameSetup.trans {p q r : Pwm} (h : p.SameSetup q) (k : q.SameSetup r) : p.SameSetup r :=
  ⟨k.cen.trans h.cen, k.cms.trans h.cms, k.cr2.trans h.cr2, k.ccmr.trans h.ccmr, k.ccer.trans h.ccer, k.psc.trans h.psc,
    k.arr.trans h.arr, k.rcr.trans h.rcr, k.ccr.trans h.ccr, k.dtg.trans h.dtg, k.ossi.trans h.ossi, k.moe.trans h.moe⟩

theorem SameOutputs.trans {p q r : Pwm} (h : p.SameOutputs q) (k : q.SameOutputs r) : p.SameOutputs r :=
  ⟨h.toSameSetup.trans k.toSameSetup, k.ocref.trans h.ocref, k.dtc.trans h.dtc⟩

theorem prescale_outputs (p : Pwm) : p.SameOutputs p.prescale.1 := by
  unfold prescale
  (repeat' split) <;> exact { SameOutputs.refl p with }

theorem advance_outputs (p : Pwm) : p.SameOutputs p.advance.1 := by
  unfold advance centreAdvance edgeAdvance
  (repeat' split) <;> exact { SameOutputs.refl p with }

theorem repetition_outputs (p : Pwm) : p.SameOutputs p.repetition := by
  unfold repetition
  split <;> exact { SameOutputs.refl p with }

theorem count_outputs (p : Pwm) : p.SameOutputs p.count := by
  rw [count_eq]
  split
  · exact p.advance_outputs.trans (repetition_outputs _)
  · exact p.advance_outputs

theorem counted_outputs (p : Pwm) : p.SameOutputs p.counted := by
  unfold counted
  split
  · exact p.prescale_outputs.trans (count_outputs _)
  · exact p.prescale_outputs

theorem tick_setup (p : Pwm) : p.SameSetup p.tick := { p.counted_outputs with }

/-! ### The prescaler and the counter -/

theorem prescale_frozen {p : Pwm} (h : p.cen = false) : p.prescale = (p, false) := by simp [prescale, h]

theorem prescale_waits {p : Pwm} (h : p.cen = true) (hp : p.pscCnt < p.pscAct) :
    p.prescale = ({ p with pscCnt := p.pscCnt + 1 }, false) := by
  simp [prescale, h, BitVec.not_le.mpr hp]

theorem prescale_advances {p : Pwm} (h : p.Advances) : p.prescale = ({ p with pscCnt := 0 }, true) := by
  simp [prescale, h.1, h.2]

theorem counted_frozen {p : Pwm} (h : p.cen = false) : p.counted = p := by simp [counted, prescale_frozen h]

theorem counted_waits {p : Pwm} (h : p.cen = true) (hp : p.pscCnt < p.pscAct) : p.counted = { p with pscCnt := p.pscCnt + 1 } := by
  simp [counted, prescale_waits h hp]

theorem counted_advances {p : Pwm} (h : p.Advances) : p.counted = { p with pscCnt := 0 }.count := by
  simp [counted, prescale_advances h]

/-- The counter advances on the ticks the prescaler lets through (41_pwm.md R520). -/
theorem prescale_snd (p : Pwm) : p.prescale.2 = true ↔ p.Advances := by
  unfold prescale Advances
  (repeat' split) <;> simp_all

theorem advance_snd (p : Pwm) : p.advance.2 = true ↔ p.atEnd := by
  unfold advance atEnd centreAdvance edgeAdvance
  cases p.cms <;> cases p.dir <;> simp <;> split <;> simp_all [BitVec.not_lt]
  bv_omega

/-- An advance writes no field that repetition and the update event read (41_pwm.md R524, R525). -/
theorem advance_reload (p : Pwm) : p.advance.1.pscCnt = p.pscCnt ∧ p.advance.1.rep = p.rep ∧ p.advance.1.ccrAct = p.ccrAct ∧
    p.advance.1.pscAct = p.pscAct ∧ p.advance.1.uif = p.uif := by
  unfold advance centreAdvance edgeAdvance
  (repeat' split) <;> exact ⟨rfl, rfl, rfl, rfl, rfl⟩

/-- Repetition moves neither the counter nor the prescaler's count (41_pwm.md R525). -/
theorem repetition_position (p : Pwm) : p.repetition.cnt = p.cnt ∧ p.repetition.dir = p.dir ∧ p.repetition.pscCnt = p.pscCnt := by
  unfold repetition
  split <;> exact ⟨rfl, rfl, rfl⟩

theorem count_position (p : Pwm) : p.count.cnt = p.advance.1.cnt ∧ p.count.dir = p.advance.1.dir ∧ p.count.pscCnt = p.pscCnt := by
  rw [count_eq]
  split
  · obtain ⟨hcnt, hdir, hpsc⟩ := repetition_position p.advance.1
    exact ⟨hcnt, hdir, hpsc.trans p.advance_reload.1⟩
  · exact ⟨rfl, rfl, p.advance_reload.1⟩

theorem advance_edge {p : Pwm} (h : p.cms = false) :
    p.advance.1.dir = p.dir ∧ p.advance.1.cnt = if p.cnt < p.arr then p.cnt + 1 else 0 := by
  simp only [advance, h, edgeAdvance, Bool.false_eq_true, if_false]
  split <;> exact ⟨rfl, rfl⟩

theorem advance_up {p : Pwm} (h : p.cms = true) (hdir : p.dir = false) :
    if p.cnt < p.arr then p.advance.1.cnt = p.cnt + 1 ∧ p.advance.1.dir = false
    else p.advance.1.cnt = p.cnt ∧ p.advance.1.dir = true := by
  simp only [advance, h, centreAdvance, hdir, Bool.not_false, if_true]
  split <;> simp

theorem advance_down {p : Pwm} (h : p.cms = true) (hdir : p.dir = true) :
    if 0 < p.cnt then p.advance.1.cnt = p.cnt - 1 ∧ p.advance.1.dir = true
    else p.advance.1.cnt = 0 ∧ p.advance.1.dir = false := by
  simp only [advance, h, centreAdvance, hdir, Bool.not_true, Bool.false_eq_true, if_true, if_false]
  split
  · simp
  · rename_i hzero
    simpa [BitVec.not_lt] using hzero

/-- A candidate with the repetition count at 0 is an update event (41_pwm.md R524, R525). -/
theorem count_updates {p : Pwm} (h : p.atEnd) (hrep : p.rep = 0) :
    p.count.ccrAct = p.ccr ∧ p.count.pscAct = p.psc ∧ p.count.rep = p.rcr ∧ p.count.uif = true := by
  obtain ⟨-, hrep', -⟩ := p.advance_reload
  have same := p.advance_outputs
  rw [count_eq, if_pos (p.advance_snd.mpr h), repetition, if_pos (hrep'.trans hrep)]
  exact ⟨same.ccr, same.psc, same.rcr, rfl⟩

/-- The other candidates count the repetition down (41_pwm.md R525). -/
theorem count_repeats {p : Pwm} (h : p.atEnd) (hrep : p.rep ≠ 0) : p.count.rep = p.rep - 1 := by
  obtain ⟨-, hrep', -⟩ := p.advance_reload
  rw [count_eq, if_pos (p.advance_snd.mpr h), repetition, if_neg (hrep' ▸ hrep), ← hrep']

theorem count_no_candidate {p : Pwm} (h : ¬p.atEnd) : p.count.rep = p.rep := by
  rw [count_eq, if_neg (mt p.advance_snd.mp h)]
  exact p.advance_reload.2.1

/-- Without an update event nothing is copied (41_pwm.md R524). -/
theorem count_keeps {p : Pwm} (h : ¬p.atEnd ∨ p.rep ≠ 0) :
    p.count.ccrAct = p.ccrAct ∧ p.count.pscAct = p.pscAct ∧ p.count.uif = p.uif := by
  obtain ⟨-, hrep, hkept⟩ := p.advance_reload
  rw [count_eq]
  split
  · rename_i hend
    rw [repetition, if_neg (hrep ▸ h.resolve_left (not_not_intro (p.advance_snd.mp hend)))]
    exact hkept
  · exact hkept

/-- `Pwm.updatesOnTick` is an advance at an end with the repetition count at 0. -/
theorem updatesOnTick_iff (p : Pwm) : p.updatesOnTick = true ↔ p.Advances ∧ p.atEnd ∧ p.rep = 0 := by
  have hadvance : (if p.cms then p.centreAdvance.2 else p.edgeAdvance.2) = p.advance.2 := by
    unfold advance; split <;> rfl
  simp only [updatesOnTick, hadvance, Bool.and_eq_true, p.prescale_snd, p.advance_snd, beq_iff_eq, and_assoc]

/-! ### The outputs -/

theorem outputCompare_ocref (p : Pwm) (k : Fin 3) : p.outputCompare.ocref[k] = p.nextOcref k := by
  match k with
  | 0 | 1 | 2 => rfl

theorem outputCompare_dtc (p : Pwm) (k : Fin 3) : p.outputCompare.dtc[k] = p.nextDtc k := by
  match k with
  | 0 | 1 | 2 => rfl

theorem tick_ocref (p : Pwm) (k : Fin 3) : p.tick.ocref[k] = (p.counted.triggers p.prescale.2).nextOcref k := outputCompare_ocref _ k

/-- A change of OCREF starts the dead time; else its count goes down to 0 (41_pwm.md R533). -/
theorem tick_dtc (p : Pwm) (k : Fin 3) :
    p.tick.dtc[k] = if p.tick.ocref[k] = p.ocref[k] then (if 0 < p.dtc[k] then p.dtc[k] - 1 else p.dtc[k]) else p.dtg := by
  have same := p.counted_outputs
  have hocref : (p.counted.triggers p.prescale.2).ocref = p.ocref := same.ocref
  have hdtc : (p.counted.triggers p.prescale.2).dtc = p.dtc := same.dtc
  have hdtg : (p.counted.triggers p.prescale.2).dtg = p.dtg := same.dtg
  rw [tick_ocref, tick_eq, outputCompare_dtc, nextDtc, hocref, hdtc, hdtg]
  split <;> simp_all

theorem tick_dtc_changed {p : Pwm} {k : Fin 3} (h : p.tick.ocref[k] ≠ p.ocref[k]) : p.tick.dtc[k] = p.dtg := by
  rw [tick_dtc, if_neg h]

theorem tick_dtc_stayed {p : Pwm} {k : Fin 3} (h : p.tick.ocref[k] = p.ocref[k]) : p.tick.dtc[k].toNat = p.dtc[k].toNat - 1 := by
  rw [tick_dtc, if_pos h]
  generalize p.dtc[k] = d
  split <;> bv_omega

end Pwm
end Sys2Proof.Machine
end

section
/-! SUPPORT. A step reaches the units through at most one access of the bus by the host, through a beat's read and write, or through one
agent's own rule; from that follows what a step can change of a running resource (41_pwm.md R501, R508; 42_adc.md R603 to R608, R642 to
R648; 43_dma.md R701, R710 to R712, R730, R735). -/
namespace Sys2Proof.Machine

/-! ### What a host's step does to the units -/

/-- What one access of the host's bus makes of a state: nothing, a register read with its side effect, a register write, or a write of
RAM (40_bus.md R410, R411). -/
inductive State.BusEffect (s : State) : State → Prop
  | none : s.BusEffect s
  | read {r : Reg} {v : Word} {w : State} (h : s.regRead r = .value v w) : s.BusEffect w
  | write {r : Reg} {v : Word} {w : State} (h : s.regWrite r v = .ok w) : s.BusEffect w
  | mem (n : Size) (a : Nat) (v : Word) : s.BusEffect (s.memWrite n a v)

/-- A host read that gives a value has the side effect of a register's read, if any. -/
theorem hostRead_value {s t : State} {n : Size} {a v : Word} (h : (s.hostRead n a).2 = .value v t) :
    t = s ∨ ∃ r w, s.regRead r = .value w t := by
  simp only [State.hostRead] at h
  split at h
  · cases h
  · cases h; exact .inl rfl
  · cases h; exact .inl rfl
  · exact .inr ⟨_, _, h⟩

theorem hostRead_busEffect {s t : State} {n : Size} {a v : Word} (h : (s.hostRead n a).2 = .value v t) : s.BusEffect t := by
  rcases hostRead_value h with rfl | ⟨r, w, hr⟩
  · exact .none
  · exact .read hr

theorem hostWrite_busEffect {s t : State} {n : Size} {a v : Word} (h : s.hostWrite n a v = .ok t) : s.BusEffect t := by
  simp only [State.hostWrite] at h
  split at h
  · cases h
  · cases h; exact .mem _ _ _
  · cases h
  · cases n with
    | b4 => exact .write h
    | b2 => cases h
    | b1 => cases h

theorem transact_busEffect {s t : State} {x : Transaction} (h : Cpu.transact s x = .done t) :
    ∃ w, s.BusEffect w ∧ w.SameUnits t := by
  cases x with
  | rd n a =>
    simp only [Cpu.transact, Cpu.finishRead] at h
    split at h
    · cases h
    · split at h
      · cases h
      · cases h
      · exact ⟨_, hostRead_busEffect (by assumption), (State.absorb_frame h).units⟩
  | wr n a d =>
    simp only [Cpu.transact, Cpu.finishWrite] at h
    split at h <;> cases h
    rename_i w hw
    exact ⟨w, hostWrite_busEffect hw, .refl w⟩

/-- A statement that is done reaches the units through one transaction at most. -/
theorem runStmt_busEffect {s t : State} {st : Stmt} (h : Cpu.runStmt s st = .done t) : ∃ w, s.BusEffect w ∧ w.SameUnits t := by
  have hread : ∀ n a, Cpu.runRd s n a = .done t → ∃ w, s.BusEffect w ∧ w.SameUnits t := fun n a h => by
    simp only [Cpu.runRd] at h
    split at h
    · cases h
    · exact transact_busEffect h
  cases st with
  | rd x n a => exact hread n a h
  | poll a m v => exact hread .b4 a h
  | wr n a e =>
    simp only [Cpu.runStmt, Cpu.runWr] at h
    split at h
    · cases h
    · exact transact_busEffect h
  | wait n => simp only [Cpu.runStmt, Cpu.runWait] at h; split at h <;> cases h <;> exact ⟨s, .none, .refl s⟩
  | set x e => simp only [Cpu.runStmt, Cpu.runSet] at h; split at h <;> cases h; exact ⟨s, .none, .refl s⟩
  | br c l =>
    simp only [Cpu.runStmt, Cpu.runBr] at h
    split at h
    · cases h
    · split at h <;> cases h <;> exact ⟨s, .none, .refl s⟩
  | brFault c code info =>
    simp only [Cpu.runStmt, Cpu.runBrFault] at h
    split at h
    · cases h
    · split at h
      · split at h <;> cases h
      · cases h; exact ⟨s, .none, .refl s⟩
  | jmp l => cases h; exact ⟨s, .none, .refl s⟩
  | call i ds => cases h
  | ret =>
    simp only [Cpu.runStmt, Cpu.runRet] at h
    split at h <;> cases h
    obtain ⟨_, _, _, rfl, _⟩ := leaveHandler_ok s _ (by assumption)
    exact ⟨s, .none, .refl s⟩
  | halt => simp only [Cpu.runStmt, Cpu.runHalt] at h; split at h <;> cases h; exact ⟨s, .none, .refl s⟩

theorem outcome_busEffect {s t : State} {a : Activity} {st : Stmt}
    (h : Cpu.outcome s (Cpu.runStmt (s.setTop a) st) = .next t) : ∃ w, (s.setTop a).BusEffect w ∧ w.SameUnits t := by
  cases hr : Cpu.runStmt (s.setTop a) st with
  | done u => rw [hr] at h; cases h; exact runStmt_busEffect hr
  | hold => rw [hr] at h; cases h; exact ⟨_, .none, .refl _⟩
  | fault f => rw [hr] at h; cases h; exact ⟨_, .none, .refl _⟩

/-- The host's step reaches the units through one access of the bus at most, by a statement of its program or of the expansion that a
CALL enters. -/
theorem hostStatement_busEffect {s t : State} (h : Cpu.hostStatement s = .next t) :
    ∃ a w, (s.setTop a).BusEffect w ∧ w.SameUnits t := by
  have statement (st : Stmt) (h : Cpu.outcome s (Cpu.runStmt s st) = .next t) : ∃ a w, (s.setTop a).BusEffect w ∧ w.SameUnits t :=
    ⟨s.top, outcome_busEffect (st := st) (by rwa [State.setTop_top])⟩
  cases hi : s.hostIdle with
  | true => simp only [Cpu.hostStatement, hi, if_true] at h; cases h; exact ⟨s.top, s, by rw [s.setTop_top]; exact .none, .refl s⟩
  | false =>
    cases hc : s.top.current with
    | none => simp only [Cpu.hostStatement, hi, hc] at h; exact statement .halt h
    | some st =>
      by_cases hcall : ∃ i ds, st = .call i ds
      · obtain ⟨i, ds, rfl⟩ := hcall
        simp only [Cpu.hostStatement, hi, hc, Bool.false_eq_true, if_false] at h
        split at h
        · rename_i ho
          obtain ⟨st, hl, _⟩ := leading_callStart s.params s.callDests i ho
          obtain ⟨a, _, _, _, _, hexec⟩ := exec_operation_leading ho hl
          exact ⟨a, outcome_busEffect (hexec ▸ h)⟩
        · cases h; exact ⟨s.top, s, by rw [s.setTop_top]; exact .none, .refl s⟩
      · rw [hostStatement_eq_runStmt hi hc fun j ds e => hcall ⟨j, ds, e⟩] at h
        exact statement st h

/-! ### What a step may change of a running resource -/

/-- The configuration and the sequences of an ADC unit are the same. -/
def Adc.SameConfig (a b : Adc) : Prop :=
  b.dmaen = a.dmaen ∧ b.ovrmod = a.ovrmod ∧ b.cont = a.cont ∧ b.smpr1 = a.smpr1 ∧ b.smpr2 = a.smpr2 ∧
  b.sqLen = a.sqLen ∧ b.sq = a.sq ∧ b.jsqLen = a.jsqLen ∧ b.jextsel = a.jextsel ∧ b.jexten = a.jexten ∧ b.jsq = a.jsq

theorem Adc.SameConfig.refl (a : Adc) : a.SameConfig a := ⟨rfl, rfl, rfl, rfl, rfl, rfl, rfl, rfl, rfl, rfl, rfl⟩

/-- What a step on a move may change of an ADC unit from a to b, as the rules of its handshakes and sequences allow. -/
structure Adc.RunningKept (turn : Move) (u : AdcUnit) (a b : Adc) : Prop where
  aden : a.aden = true → b.aden = true
  adstart : a.adstart = true → b.adstart = false → turn = .regular u ∧ a.en = .ready ∧
    (a.rrank = a.sqLen ∧ a.cont = false ∨ a.isr.eoc = true ∧ a.ovrmod = false)
  jadstart : a.jadstart = true → b.jadstart = false → (turn = .injected u ∨ turn = .pair) ∧ a.jact = true ∧
    a.jrank = a.jsqLen ∧ a.jexten = 0
  setup : a.adstart = true ∨ a.jadstart = true → a.SameConfig b

/-- What a step on a move may change of the running resources from s to t. -/
structure State.RunningKept (turn : Move) (s t : State) : Prop where
  pwm : s.pwm.cen = true → t.pwm.arr = s.pwm.arr ∧ (t.pwm.cen = true → t.pwm.cms = s.pwm.cms)
  adc : ∀ u, (s.adc u).RunningKept turn u (t.adc u)
  dma : ∀ c : Fin 16, s.dma[c].active = true →
    t.dma[c].cfg = s.dma[c].cfg ∧ t.dma[c].cpar = s.dma[c].cpar ∧ t.dma[c].cmar = s.dma[c].cmar ∧ t.dmamux[c] = s.dmamux[c]
  params : t.params = s.params
  trim : t.trim = s.trim
  vec : t.vec = s.vec

/-- A change that clears none of the three bits and keeps the configuration is allowed on every move. -/
theorem Adc.RunningKept.of_kept {turn : Move} {u : AdcUnit} {a b : Adc} (haden : a.aden = true → b.aden = true)
    (hreg : a.adstart = true → b.adstart = true) (hinj : a.jadstart = true → b.jadstart = true)
    (hsetup : a.adstart = true ∨ a.jadstart = true → a.SameConfig b) :
    a.RunningKept turn u b :=
  ⟨haden, fun h h' => by simp [hreg h] at h', fun h h' => by simp [hinj h] at h', hsetup⟩

theorem Adc.RunningKept.refl (turn : Move) (u : AdcUnit) (a : Adc) : a.RunningKept turn u a :=
  .of_kept id id id fun _ => .refl a

theorem State.RunningKept.refl (turn : Move) (s : State) : s.RunningKept turn s :=
  ⟨fun _ => ⟨rfl, fun _ => rfl⟩, fun u => .refl turn u _, fun _ _ => ⟨rfl, rfl, rfl, rfl⟩, rfl, rfl, rfl⟩

/-- The units after are all that is read of the state after. -/
theorem State.RunningKept.of_sameUnits {turn : Move} {s w t : State} (h : s.RunningKept turn w) (hu : w.SameUnits t) :
    s.RunningKept turn t := by
  obtain ⟨pwm, adc1, adc2, -, dma, mux, -, -, -, -, trim, vec, params⟩ := hu
  refine ⟨pwm ▸ h.pwm, fun u => ?_, dma ▸ mux ▸ h.dma, params.trans h.params, trim.trans h.trim, vec.trans h.vec⟩
  cases u with
  | one => rw [State.adc, State.adc, adc1]; exact h.adc .one
  | two => rw [State.adc, State.adc, adc2]; exact h.adc .two

/-- A unit of the ADC replaced as its rules allow. -/
theorem State.RunningKept.setAdc {turn : Move} {s : State} {u : AdcUnit} {a : Adc} (h : (s.adc u).RunningKept turn u a) :
    s.RunningKept turn (s.setAdc u a) := by
  refine ⟨fun _ => ⟨rfl, fun _ => rfl⟩, fun v => ?_, fun _ _ => ⟨rfl, rfl, rfl, rfl⟩, rfl, rfl, rfl⟩
  cases u <;> cases v <;> first | exact h | exact .refl turn _ _

/-- A DMA channel replaced by one of the same configuration and addresses, or, when it is idle, by any. -/
theorem State.RunningKept.setDma {turn : Move} {s : State} {c : Fin 16} {d : DmaChannel}
    (h : s.dma[c].active = true → d.cfg = s.dma[c].cfg ∧ d.cpar = s.dma[c].cpar ∧ d.cmar = s.dma[c].cmar) :
    s.RunningKept turn (s.setDma c d) := by
  refine ⟨fun _ => ⟨rfl, fun _ => rfl⟩, fun u => .refl turn u _, fun e he => ?_, rfl, rfl, rfl⟩
  rw [State.setDma_get]
  split
  · subst e
    obtain ⟨hcfg, hcpar, hcmar⟩ := h he
    exact ⟨hcfg, hcpar, hcmar, rfl⟩
  · exact ⟨rfl, rfl, rfl, rfl⟩

/-! ### Register accesses -/

/-- A counter that stays on keeps `ARR` and its mode through a register write (41_pwm.md R501, R508). -/
theorem Pwm.write_running {p q : Pwm} {r : PwmReg} {v : Word} (h : p.write r v = .ok q) (hp : p.cen = true) :
    q.arr = p.arr ∧ (q.cen = true → q.cms = p.cms) := by
  cases r <;> simp only [Pwm.write] at h
  case cr1 =>
    simp only [Pwm.writeCr1] at h
    split at h <;> cases h
    rename_i hmode
    refine ⟨rfl, fun hon => ?_⟩
    simpa [hp, show Word.bit v 0 = true from hon] using hmode
  case ccmr => simp only [Pwm.writeCcmr] at h; (repeat' split at h) <;> cases h; exact ⟨rfl, fun _ => rfl⟩
  case arr => simp [Pwm.writeArr, hp] at h
  case egr => cases h; simp only [Pwm.writeEgr]; split <;> exact ⟨rfl, fun _ => rfl⟩
  case ccr1 | ccr2 | ccr3 | ccr4 | ccr5 => simp only [Pwm.writeCcr] at h; split at h <;> cases h; exact ⟨rfl, fun _ => rfl⟩
  all_goals (cases h; exact ⟨rfl, fun _ => rfl⟩)

/-- `CR` can set the unit's bits and never clears one of the three; its configuration is elsewhere (42_adc.md R603). -/
theorem Adc.crEffect_running (turn : Move) (u : AdcUnit) (a : Adc) (v : Word) : a.RunningKept turn u (a.crEffect v) :=
  .of_kept (fun h => by simp [Adc.crEffect, h]) (fun h => by simp [Adc.crEffect, h]) (fun h => by simp [Adc.crEffect, h])
    fun _ => .refl a

/-- The configuration registers refuse a write while the unit runs (42_adc.md R604 to R608). -/
theorem Adc.write_running {turn : Move} {a b : Adc} {chMax : Nat} {u : AdcUnit} {r : AdcReg} {v : Word}
    (h : a.write chMax u r v = .ok b) : a.RunningKept turn u b := by
  have idle {b : Adc} (hr : a.running = false) (hb : b.aden = a.aden) : a.RunningKept turn u b := by
    simp only [Adc.running, Bool.or_eq_false_iff] at hr
    exact ⟨fun h => hb.trans h, fun h => by simp [hr.1] at h, fun h => by simp [hr.2] at h, fun h => by simp [hr.1, hr.2] at h⟩
  cases r <;> simp only [Adc.write] at h
  case cfgr => simp only [Adc.writeCfgr] at h; split at h <;> cases h; exact idle (by simpa using ‹¬a.running = true›) rfl
  case smpr1 => simp only [Adc.writeSmpr1] at h; split at h <;> cases h; exact idle (by simpa using ‹¬a.running = true›) rfl
  case smpr2 => simp only [Adc.writeSmpr2] at h; split at h <;> cases h; exact idle (by simpa using ‹¬a.running = true›) rfl
  case sqr1 =>
    simp only [Adc.writeSqr1] at h
    split at h
    · cases h
    · split at h <;> cases h; exact idle (by simpa using ‹¬a.running = true›) rfl
  case jsqr =>
    simp only [Adc.writeJsqr] at h
    split at h
    · cases h
    · split at h
      · cases h
      · split at h <;> cases h; exact idle (by simpa using ‹¬a.running = true›) rfl
  all_goals
    cases h
    exact .of_kept id id id fun _ => .refl a

/-- The registers of an active channel refuse another configuration (43_dma.md R701, R710, R711). -/
theorem DmaChannel.write_active {d e : DmaChannel} {c : Fin 16} {r : DmaReg} {v : Word} (h : d.write c r v = .ok e)
    (hd : d.active = true) : e.cfg = d.cfg ∧ e.cpar = d.cpar ∧ e.cmar = d.cmar := by
  cases r <;> simp only [DmaChannel.write, DmaChannel.writeCcr, DmaChannel.writeCndtr, DmaChannel.writeCpar, DmaChannel.writeCmar,
    hd, if_true] at h
  case ccr => split at h <;> cases h; exact ⟨rfl, rfl, rfl⟩
  all_goals (cases h; try exact ⟨rfl, rfl, rfl⟩)

theorem State.RunningKept.regWrite (turn : Move) {s t : State} {r : Reg} {v : Word} (h : s.regWrite r v = .ok t) :
    s.RunningKept turn t := by
  rcases regWrite_ok s t r v h with ⟨q, p, _, hp, rfl⟩ | ⟨u, _, _, rfl⟩ | ⟨u, q, a, _, _, ha, rfl⟩ | ⟨c, q, d, _, hd, rfl⟩ |
    ⟨c, _, _, hidle, rfl⟩ | ⟨_, _, _, _, rfl⟩ | ⟨_, _, _, _, rfl⟩ | ⟨q, _, hq⟩
  · exact { State.RunningKept.refl turn s with pwm := Pwm.write_running hp }
  · have := State.RunningKept.setAdc ((s.adc u).crEffect_running turn u v)
    exact ⟨this.pwm, fun w => this.adc w, this.dma, rfl, rfl, rfl⟩
  · exact .setAdc (Adc.write_running ha)
  · exact .setDma (DmaChannel.write_active hd)
  · refine { State.RunningKept.refl turn s with dma := fun e he => ⟨rfl, rfl, rfl, ?_⟩ }
    have hne : c ≠ e := fun h => Bool.false_ne_true (hidle.symm.trans (h ▸ he))
    simp [Fin.val_ne_of_ne hne]
  · exact { State.RunningKept.refl turn s with }
  · exact { State.RunningKept.refl turn s with }
  · rcases intcWrite_ok s t q v hq with rfl | ⟨_, rfl⟩ | ⟨_, _, rfl⟩ | ⟨_, _, rfl⟩ <;> exact { State.RunningKept.refl turn _ with }

/-! ### The side effect of a read -/

theorem Adc.RunningKept.of_clearEoc {turn : Move} {u : AdcUnit} {a b : Adc} (h : a.clearEoc.RunningKept turn u b) :
    a.RunningKept turn u b := by
  refine ⟨h.aden, fun hon hoff => ?_, h.jadstart, h.setup⟩
  obtain ⟨hturn, hen, hend | ⟨heoc, _⟩⟩ := h.adstart hon hoff
  · exact ⟨hturn, hen, .inl hend⟩
  · cases heoc

/-- The side effect of a register read is no change of a running resource, whatever follows it in the step (42_adc.md R621,
44_cordic.md R814). -/
theorem State.RunningKept.after_regRead {turn : Move} {s u t : State} {r : Reg} {v : Word} (hr : s.regRead r = .value v u)
    (h : u.RunningKept turn t) : s.RunningKept turn t := by
  rcases regRead_value s u r v hr with rfl | ⟨k, _, rfl⟩ | ⟨_, _, _, rfl⟩
  · exact h
  · refine ⟨h.pwm, fun j => ?_, h.dma, h.params, h.trim, h.vec⟩
    cases k <;> cases j <;> first | exact .of_clearEoc (h.adc _) | exact h.adc _
  · exact ⟨h.pwm, h.adc, h.dma, h.params, h.trim, h.vec⟩

theorem State.RunningKept.busEffect (turn : Move) {s t : State} (h : s.BusEffect t) : s.RunningKept turn t := by
  cases h with
  | none => exact .refl turn s
  | read h => exact .after_regRead h (.refl turn t)
  | write h => exact .regWrite turn h
  | mem n a v => exact { State.RunningKept.refl turn s with }

theorem State.RunningKept.hostStatement (turn : Move) {s t : State} (h : Cpu.hostStatement s = .next t) :
    s.RunningKept turn t := by
  obtain ⟨a, w, hw, ht⟩ := hostStatement_busEffect h
  obtain ⟨pwm, adc, dma, params, trim, vec⟩ := State.RunningKept.busEffect turn hw
  exact .of_sameUnits ⟨pwm, adc, dma, params, trim, vec⟩ ht

/-! ### The beat -/

/-- A change of a channel that keeps its configuration and addresses may follow any other of the step. -/
theorem State.RunningKept.then_setDma {turn : Move} {s w : State} (h : s.RunningKept turn w) {c : Fin 16} {d : DmaChannel}
    (hd : d.cfg = w.dma[c].cfg ∧ d.cpar = w.dma[c].cpar ∧ d.cmar = w.dma[c].cmar) : s.RunningKept turn (w.setDma c d) := by
  obtain ⟨hcfg, hcpar, hcmar⟩ := hd
  refine ⟨h.pwm, h.adc, fun e he => ?_, h.params, h.trim, h.vec⟩
  rw [State.setDma_get]
  split
  · subst e
    rw [hcfg, hcpar, hcmar]
    exact h.dma c he
  · exact h.dma e he

theorem DmaChannel.completeBeat_setup (d : DmaChannel) (n : Nat) (p m : Word) :
    (d.completeBeat n p m).cfg = d.cfg ∧ (d.completeBeat n p m).cpar = d.cpar ∧ (d.completeBeat n p m).cmar = d.cmar := by
  simp only [DmaChannel.completeBeat]
  split
  · split <;> exact ⟨rfl, rfl, rfl⟩
  · exact ⟨rfl, rfl, rfl⟩

theorem dmaBusWrite_busEffect {s t : State} {n : Size} {a v : Word} (h : s.dmaBusWrite n a v = .done t) : s.BusEffect t := by
  simp only [State.dmaBusWrite] at h
  split at h
  · cases h
  · cases h; exact .mem _ _ _
  · cases h
  · cases n with
    | b4 => simp only at h; split at h <;> cases h; exact .write (by assumption)
    | b2 => cases h
    | b1 => cases h

/-- A beat's read, write and bookkeeping (43_dma.md R730, R735). -/
theorem State.RunningKept.moveElement (turn : Move) {s t : State} {c : Fin 16} {n : Size} {src dst p m : Word}
    (h : s.moveElement c n src dst p m = some t) : s.RunningKept turn t := by
  simp only [State.moveElement, State.dmaBusRead] at h
  split at h
  · cases h
  · cases h; exact (State.RunningKept.refl turn s).then_setDma ⟨rfl, rfl, rfl⟩
  · rename_i v u hread
    have after {t' : State} (hkept : u.RunningKept turn t') : s.RunningKept turn t' := by
      split at hread <;> cases hread
      rcases hostRead_value (by assumption) with rfl | ⟨r, w, hr⟩
      · exact hkept
      · exact .after_regRead hr hkept
    split at h
    · cases h; exact after ((State.RunningKept.refl turn u).then_setDma ⟨rfl, rfl, rfl⟩)
    · cases h; exact { State.RunningKept.refl turn s with }
    · rename_i w hwrite
      cases h
      exact (after (.busEffect turn (dmaBusWrite_busEffect hwrite))).then_setDma (DmaChannel.completeBeat_setup _ _ _ _)

theorem State.RunningKept.beatStep (turn : Move) {s t : State} (h : s.beatStep = some t) : s.RunningKept turn t := by
  simp only [State.beatStep] at h
  split at h
  · cases h
  · simp only [State.beatOf] at h
    split at h
    · cases h; exact (State.RunningKept.refl turn s).then_setDma ⟨rfl, rfl, rfl⟩
    · split at h <;> exact .moveElement turn h

/-! ### The agents' own rules -/

/-- A regular conversion clears `ADSTART` at the end of a sequence that does not go on and by an overrun (42_adc.md R642, R644). -/
theorem Adc.convertRegular_running {u : AdcUnit} {a : Adc} (code : BitVec 16) (h : a.regularEnabled = true) :
    a.RunningKept (.regular u) u (a.convertRegular code) := by
  simp only [Adc.regularEnabled, Bool.and_eq_true, beq_iff_eq] at h
  obtain ⟨⟨hen, hon⟩, _⟩ := h
  simp only [Adc.convertRegular]
  split
  · rename_i hover
    simp only [Bool.and_eq_true, Bool.not_eq_true'] at hover
    exact ⟨id, fun _ _ => ⟨rfl, hen, .inr hover⟩, fun h h' => by simp [h] at h', fun _ => .refl a⟩
  · split
    · rename_i hlast
      refine ⟨id, fun _ hoff => ⟨rfl, hen, .inl ⟨hlast, ?_⟩⟩, fun h h' => by simp [h] at h', fun _ => .refl a⟩
      simpa [hon] using hoff
    · exact .of_kept id id id fun _ => .refl a

/-- An injected conversion clears `JADSTART` at the end of a sequence that was started by software (42_adc.md R647, R648). -/
theorem Adc.convertInjected_running {turn : Move} {u : AdcUnit} {a : Adc} (code : BitVec 16) (hturn : turn = .injected u ∨ turn = .pair)
    (h : a.jact = true) : a.RunningKept turn u (a.convertInjected code) := by
  simp only [Adc.convertInjected]
  split
  · rename_i hlast
    refine ⟨id, fun h h' => by simp [h] at h', fun hon hoff => ⟨hturn, h, hlast, ?_⟩, fun _ => .refl a⟩
    simpa [hon] using hoff
  · exact .of_kept id id id fun _ => .refl a

theorem Adc.startInjected_running (turn : Move) (u : AdcUnit) (a : Adc) (starts : Bool) :
    a.RunningKept turn u (if starts then a.startInjected else a) := by
  cases starts <;> exact .of_kept id id id fun _ => .refl a

theorem State.RunningKept.tick (turn : Move) (s : State) : s.RunningKept turn s.tick := by
  refine ⟨fun _ => ⟨s.pwm.tick_setup.arr, fun _ => s.pwm.tick_setup.cms⟩, fun u => ?_, fun _ _ => ⟨rfl, rfl, rfl, rfl⟩, rfl, rfl, rfl⟩
  cases u <;> exact Adc.startInjected_running turn _ _ _

theorem State.RunningKept.agentStep {s t : State} {m : Move} (h : s.agentStep m = some t) : s.RunningKept m t := by
  by_cases hm : m = .beat
  · subst hm; exact .beatStep .beat h
  rcases agentStep_some s t m hm h with ⟨_, k, _, rfl⟩ | ⟨_, rfl⟩ | ⟨u, _, _, rfl⟩ | ⟨u, _, _, rfl⟩ | ⟨u, _, _, rfl⟩ | ⟨u, rfl, hu, rfl⟩ |
    ⟨u, rfl, hact, _, rfl⟩ | ⟨rfl, hlock, rfl⟩ | ⟨c, _, _, rfl⟩ | ⟨_, k, _, rfl⟩
  · exact { State.RunningKept.refl m s with }
  · exact .tick m s
  · exact .setAdc (.of_kept id id id fun _ => .refl _)
  · exact .setAdc (.of_kept id id id fun _ => .refl _)
  · exact .setAdc (.of_kept id id id fun _ => .refl _)
  · exact .setAdc (Adc.convertRegular_running _ hu)
  · exact .setAdc (Adc.convertInjected_running _ (.inl rfl) hact)
  · simp only [State.lockstep, Bool.and_eq_true] at hlock
    obtain ⟨⟨⟨⟨_, hact1⟩, hact2⟩, _⟩, _⟩ := hlock
    refine { State.RunningKept.refl .pair s with adc := fun u => ?_ }
    cases u with
    | one => exact Adc.convertInjected_running _ (.inr rfl) hact1
    | two => exact Adc.convertInjected_running _ (.inr rfl) hact2
  · exact .setDma fun _ => ⟨rfl, rfl, rfl⟩
  · exact { State.RunningKept.refl m s with }

theorem State.RunningKept.step {s t : State} (h : step s = .next t) : s.RunningKept s.turn t := by
  have scheduled {u : State} (h : s.RunningKept s.turn u) : s.RunningKept s.turn u.scheduled := .of_sameUnits h (.refl u)
  simp only [Machine.step] at h
  split at h
  · cases h
  · split at h
    · cases hh : Cpu.hostStatement s with
      | next u => rw [hh] at h; cases h; exact scheduled (.hostStatement _ hh)
      | fault r => rw [hh] at h; cases h
      | refused r => rw [hh] at h; cases h
    · cases h
      refine scheduled ?_
      simp only [State.moveOrStay]
      cases ha : s.agentStep s.turn with
      | none => exact .refl _ s
      | some u => exact .agentStep ha

/-- Settles O52: the one access of the host's bus, the beat's two, or the agent's own rule is all that a step does to the units, and each
leaves a running resource as `State.RunningKept` says. -/
theorem runningResources : Obligations.RunningResources := by
  unfold Obligations.RunningResources
  intro s t h
  obtain ⟨pwm, adc, dma, params, trim, vec⟩ := State.RunningKept.step h
  refine ⟨pwm, fun u => ?_, fun c hc => dma c (by simpa [DmaChannel.active] using hc), params, trim, vec⟩
  obtain ⟨haden, hadstart, hjadstart, hsetup⟩ := adc u
  exact ⟨haden, hadstart, hjadstart, hsetup⟩

end Sys2Proof.Machine
end

section
/-! SUPPORT. The statements about runs of the PWM tick: one tick, the centre-aligned cycle, dead time, glitch-free updates (41_pwm.md R520 to
R535, R555). -/
namespace Sys2Proof.Machine
namespace Pwm

/-! ### Compare values and levels of a tick -/

/-- The preload bits of the five channels stand at bits 3, 7, 11, 12 and 13 of `CCMR` (10_state.md R115). -/
theorem ccmrPreload_eq (c : BitVec 14) (k : Fin 5) : ccmrPreload c k = c.getLsbD (#[3, 7, 11, 12, 13].getD k.val 0) := by
  match k with
  | 0 | 1 | 2 | 3 | 4 => rfl

/-- The compare values that a tick uses are those its update event, if any, has copied (41_pwm.md R526). -/
theorem counted_cmp (p : Pwm) (k : Fin 5) :
    p.counted.cmp k = if p.ccmr.getLsbD (#[3, 7, 11, 12, 13].getD k.val 0) then p.tick.ccrAct[k] else p.ccr[k] := by
  rw [cmp, ccmrPreload_eq, p.counted_outputs.ccmr, p.counted_outputs.ccr]
  rfl

/-- The level each mode gives a channel (41_pwm.md R527, 30_encoding.md R320). -/
theorem nextOcref_frozen {p : Pwm} {k : Fin 3} (h : ccmrMode p.ccmr k = 0#3) : p.nextOcref k = p.ocref[k] := by simp [nextOcref, h]
theorem nextOcref_inactive {p : Pwm} {k : Fin 3} (h : ccmrMode p.ccmr k = 4#3) : p.nextOcref k = false := by simp [nextOcref, h]
theorem nextOcref_active {p : Pwm} {k : Fin 3} (h : ccmrMode p.ccmr k = 5#3) : p.nextOcref k = true := by simp [nextOcref, h]
theorem nextOcref_pwm1 {p : Pwm} {k : Fin 3} (h : ccmrMode p.ccmr k = 6#3) :
    p.nextOcref k = decide (p.cnt < p.cmp (k.castLE (by decide))) := by simp [nextOcref, h]
theorem nextOcref_pwm2 {p : Pwm} {k : Fin 3} (h : ccmrMode p.ccmr k = 7#3) :
    p.nextOcref k = !decide (p.cnt < p.cmp (k.castLE (by decide))) := by simp [nextOcref, h]

/-- A trigger is high on a tick that advances to its compare value in its direction (41_pwm.md R530). -/
theorem triggers_iff (q : Pwm) (adv : Bool) :
    ((q.triggers adv).trga = true ↔ q.cr2.getLsbD 0 = true ∧ adv = true ∧ q.cnt = q.cmp 3 ∧ q.dir = q.cr2.getLsbD 1) ∧
    ((q.triggers adv).trgb = true ↔ q.cr2.getLsbD 2 = true ∧ adv = true ∧ q.cnt = q.cmp 4 ∧ q.dir = q.cr2.getLsbD 3) := by
  simp only [triggers, Bool.and_eq_true, beq_iff_eq, and_assoc, and_self]

/-! ### The counter's part of a tick, by what the prescaler lets through -/

theorem counted_psc_restarts {p : Pwm} (h : p.Advances) : p.counted.pscCnt = 0 := by
  rw [counted_advances h, (count_position _).2.2]

theorem counted_edge {p : Pwm} (h : p.Advances) (hmode : p.cms = false) :
    p.counted.dir = p.dir ∧ p.counted.cnt = if p.cnt < p.arr then p.cnt + 1 else 0 := by
  rw [counted_advances h, (count_position _).1, (count_position _).2.1]
  exact advance_edge hmode

theorem counted_up {p : Pwm} (h : p.Advances) (hmode : p.cms = true) (hdir : p.dir = false) :
    if p.cnt < p.arr then p.counted.cnt = p.cnt + 1 ∧ p.counted.dir = false
    else p.counted.cnt = p.cnt ∧ p.counted.dir = true := by
  rw [counted_advances h, (count_position _).1, (count_position _).2.1]
  exact advance_up (p := { p with pscCnt := 0 }) hmode hdir

theorem counted_down {p : Pwm} (h : p.Advances) (hmode : p.cms = true) (hdir : p.dir = true) :
    if 0 < p.cnt then p.counted.cnt = p.cnt - 1 ∧ p.counted.dir = true
    else p.counted.cnt = 0 ∧ p.counted.dir = false := by
  rw [counted_advances h, (count_position _).1, (count_position _).2.1]
  exact advance_down (p := { p with pscCnt := 0 }) hmode hdir

theorem counted_updates {p : Pwm} (h : p.Advances) (hend : p.atEnd) (hrep : p.rep = 0) :
    p.counted.ccrAct = p.ccr ∧ p.counted.pscAct = p.psc ∧ p.counted.rep = p.rcr ∧ p.counted.uif = true := by
  rw [counted_advances h]
  exact count_updates (p := { p with pscCnt := 0 }) hend hrep

theorem counted_repeats {p : Pwm} (h : p.Advances) (hend : p.atEnd) (hrep : p.rep ≠ 0) : p.counted.rep = p.rep - 1 := by
  rw [counted_advances h]
  exact count_repeats (p := { p with pscCnt := 0 }) hend hrep

/-- A tick that does not advance the counter leaves what repetition and the update event write (41_pwm.md R520). -/
theorem counted_still {p : Pwm} (h : ¬p.Advances) : p.counted.ccrAct = p.ccrAct ∧ p.counted.pscAct = p.pscAct ∧
    p.counted.uif = p.uif ∧ p.counted.rep = p.rep := by
  cases hcen : p.cen with
  | false => rw [counted_frozen hcen]; exact ⟨rfl, rfl, rfl, rfl⟩
  | true => rw [counted_waits hcen (BitVec.not_le.mp fun hp => h ⟨hcen, hp⟩)]; exact ⟨rfl, rfl, rfl, rfl⟩

/-- Without a candidate, or with one that only repeats, the tick copies nothing. -/
theorem counted_keeps {p : Pwm} (h : ¬(p.Advances ∧ p.atEnd) ∨ p.rep ≠ 0) :
    p.counted.ccrAct = p.ccrAct ∧ p.counted.pscAct = p.pscAct ∧ p.counted.uif = p.uif := by
  by_cases hadv : p.Advances
  · rw [counted_advances hadv]
    exact count_keeps (p := { p with pscCnt := 0 }) (h.imp_left fun hn hend => hn ⟨hadv, hend⟩)
  · obtain ⟨hact, hpsc, huif, -⟩ := counted_still hadv
    exact ⟨hact, hpsc, huif⟩

theorem counted_no_candidate {p : Pwm} (h : ¬(p.Advances ∧ p.atEnd)) : p.counted.rep = p.rep := by
  by_cases hadv : p.Advances
  · rw [counted_advances hadv]
    exact count_no_candidate (p := { p with pscCnt := 0 }) fun hend => h ⟨hadv, hend⟩
  · exact (counted_still hadv).2.2.2

/-- Settles O45: the counter's fields from the prescaler's three cases, the outputs and triggers from the counter's new state. -/
theorem pwmTick : Obligations.PwmTick := by
  unfold Obligations.PwmTick
  intro p q adv cand cmp
  have hcmp (k : Fin 5) : p.counted.cmp k = cmp k := p.counted_cmp k
  have hadv : adv ↔ p.prescale.2 = true := p.prescale_snd.symm
  have same := p.counted_outputs
  have setup := p.tick_setup
  refine ⟨fun hcen => ?_, fun hcen hp => ?_, counted_psc_restarts, counted_edge, counted_up, counted_down,
    fun hc => counted_updates hc.1 hc.2, fun hc => counted_repeats hc.1 hc.2, counted_no_candidate, counted_keeps, fun k => ?_, ?_, ?_,
    setup.cen, setup.cms, setup.cr2, setup.ccmr, setup.ccer, setup.psc, setup.arr, setup.rcr, setup.ccr, setup.dtg, setup.ossi,
    setup.moe⟩
  · change p.counted.cnt = _ ∧ p.counted.dir = _ ∧ p.counted.pscCnt = _
    rw [counted_frozen hcen]
    exact ⟨rfl, rfl, rfl⟩
  · change p.counted.cnt = _ ∧ p.counted.dir = _ ∧ p.counted.pscCnt = _
    rw [counted_waits hcen hp]
    exact ⟨rfl, rfl, rfl⟩
  · have level : q.ocref[k] = (p.counted.triggers p.prescale.2).nextOcref k := p.tick_ocref k
    have mode {m : BitVec 3} (h : p.ccmr.extractLsb' (4 * k.val) 3 = m) : ccmrMode (p.counted.triggers p.prescale.2).ccmr k = m :=
      (congrArg (ccmrMode · k) same.ccmr).trans h
    refine ⟨fun h => ?_, fun h => ?_, fun h => ?_, fun h => ?_, fun h => ?_, tick_dtc_changed, tick_dtc_stayed⟩
    · exact level.trans ((nextOcref_frozen (mode h)).trans (congrArg (·[k]) same.ocref))
    · exact level.trans (nextOcref_inactive (mode h))
    · exact level.trans (nextOcref_active (mode h))
    · exact level.trans ((nextOcref_pwm1 (mode h)).trans (congrArg (fun c => decide (q.cnt < c)) (hcmp _)))
    · exact level.trans ((nextOcref_pwm2 (mode h)).trans (congrArg (fun c => !decide (q.cnt < c)) (hcmp _)))
  · rw [← hcmp, hadv, ← same.cr2]
    exact (triggers_iff _ _).1
  · rw [← hcmp, hadv, ← same.cr2]
    exact (triggers_iff _ _).2

end Pwm
end Sys2Proof.Machine
end

section
/-! SUPPORT. What holds along runs of the PWM tick: the centre-aligned cycle, the dead time after an edge, and the write of a preloaded
compare register (41_pwm.md R521 to R526, R533, R535, R555). -/
namespace Sys2Proof.Machine
namespace Pwm

theorem ticks_succ (k : Nat) : ∀ p : Pwm, ticks (k + 1) p = (ticks k p).tick := by
  induction k with
  | zero => intro p; rfl
  | succ k ih => intro p; exact ih p.tick

theorem ticks_setup (k : Nat) (p : Pwm) : p.SameSetup (ticks k p) := by
  induction k with
  | zero => exact .refl p
  | succ k ih => rw [ticks_succ]; exact ih.trans (tick_setup _)

/-! ### The centre-aligned cycle -/

/-- The unit counts centre-aligned to a, without prescaling and with every second candidate an update event; its counter is at c going
up or down, and its repetition count is r. -/
structure CycleAt (a : BitVec 16) (c : Nat) (down : Bool) (r : BitVec 8) (p : Pwm) : Prop where
  cen : p.cen = true
  cms : p.cms = true
  psc : p.psc = 0
  pscAct : p.pscAct = 0
  rcr : p.rcr = 1
  arr : p.arr = a
  cnt : p.cnt.toNat = c
  dir : p.dir = down
  rep : p.rep = r

section
variable {a : BitVec 16} {c : Nat} {down : Bool} {r : BitVec 8} {p : Pwm}

theorem CycleAt.advances (h : p.CycleAt a c down r) : p.Advances :=
  ⟨h.cen, by rw [h.pscAct, BitVec.le_def]; exact Nat.zero_le _⟩

/-- The tick of a unit in its cycle, from the counter's new position and what repetition did. -/
theorem CycleAt.of_counted (h : p.CycleAt a c down r) {c' : Nat} {down' : Bool} {r' : BitVec 8} (hpsc : p.counted.pscAct = 0)
    (hcnt : p.counted.cnt.toNat = c') (hdir : p.counted.dir = down') (hrep : p.counted.rep = r') :
    p.tick.CycleAt a c' down' r' := by
  have setup := p.tick_setup
  exact ⟨setup.cen.trans h.cen, setup.cms.trans h.cms, setup.psc.trans h.psc, hpsc, setup.rcr.trans h.rcr, setup.arr.trans h.arr,
    hcnt, hdir, hrep⟩

/-- The end the counter moves towards: `ARR` going up, 0 going down (41_pwm.md R521). -/
theorem CycleAt.atEnd_iff (h : p.CycleAt a c down r) : p.atEnd ↔ if down then c = 0 else a.toNat ≤ c := by
  have harr := h.arr
  have hcnt := h.cnt
  subst harr hcnt
  cases down <;> simp [atEnd, h.cms, h.dir, BitVec.le_def, BitVec.toNat_eq]

/-- An update event is the candidate with the repetition count at 0. -/
theorem CycleAt.updates_iff (h : p.CycleAt a c down r) :
    p.updatesOnTick = true ↔ (if down then c = 0 else a.toNat ≤ c) ∧ r = 0 := by
  rw [updatesOnTick_iff, h.atEnd_iff, h.rep]
  exact and_iff_right h.advances

theorem CycleAt.not_end_keeps (h : p.CycleAt a c down r) (hend : ¬p.atEnd) : p.counted.pscAct = 0 ∧ p.counted.rep = r := by
  have hn : ¬(p.Advances ∧ p.atEnd) := fun ⟨_, he⟩ => hend he
  exact ⟨(counted_keeps (.inl hn)).2.1.trans h.pscAct, (counted_no_candidate hn).trans h.rep⟩

theorem CycleAt.tick_up (h : p.CycleAt a c false r) (hc : c < a.toNat) : p.tick.CycleAt a (c + 1) false r := by
  have hmove := counted_up h.advances h.cms h.dir
  have hlt : p.cnt < p.arr := by rw [BitVec.lt_def, h.cnt, h.arr]; exact hc
  rw [if_pos hlt] at hmove
  obtain ⟨hpsc, hrep⟩ := h.not_end_keeps (by rw [h.atEnd_iff]; simpa using hc)
  refine h.of_counted hpsc ?_ hmove.2 hrep
  have := h.cnt
  rw [hmove.1]
  bv_omega

theorem CycleAt.tick_top (h : p.CycleAt a a.toNat false 1) : p.tick.CycleAt a a.toNat true 0 := by
  have hmove := counted_up h.advances h.cms h.dir
  have hlt : ¬p.cnt < p.arr := by rw [BitVec.lt_def, h.cnt, h.arr]; exact lt_irrefl _
  rw [if_neg hlt] at hmove
  have hend : p.atEnd := h.atEnd_iff.mpr (by simp)
  have hrep : p.rep ≠ 0 := by rw [h.rep]; decide
  refine h.of_counted ((counted_keeps (.inr hrep)).2.1.trans h.pscAct) ?_ hmove.2 ?_
  · rw [hmove.1, h.cnt]
  · rw [counted_repeats h.advances hend hrep, h.rep]; rfl

theorem CycleAt.tick_down (h : p.CycleAt a (c + 1) true r) : p.tick.CycleAt a c true r := by
  have hmove := counted_down h.advances h.cms h.dir
  have hcnt := h.cnt
  rw [if_pos (show 0 < p.cnt by bv_omega)] at hmove
  obtain ⟨hpsc, hrep⟩ := h.not_end_keeps (by rw [h.atEnd_iff]; simp)
  refine h.of_counted hpsc ?_ hmove.2 hrep
  rw [hmove.1]
  bv_omega

theorem CycleAt.tick_bottom (h : p.CycleAt a 0 true 0) : p.tick.CycleAt a 0 false 1 := by
  have hmove := counted_down h.advances h.cms h.dir
  have hcnt := h.cnt
  rw [if_neg (show ¬0 < p.cnt by bv_omega)] at hmove
  obtain ⟨-, hpsc, hrep, -⟩ := counted_updates h.advances (h.atEnd_iff.mpr (by simp)) h.rep
  refine h.of_counted (hpsc.trans h.psc) ?_ hmove.2 (hrep.trans h.rcr)
  rw [hmove.1]
  rfl

/-- The way up: after k ticks the counter is at k. -/
theorem CycleAt.ticks_up (h : p.CycleAt a 0 false 1) (k : Nat) (hk : k ≤ a.toNat) : (ticks k p).CycleAt a k false 1 := by
  induction k with
  | zero => exact h
  | succ k ih => rw [ticks_succ]; exact (ih (by omega)).tick_up hk

/-- The way down: ARR + 1 + k ticks from the start the counter is k below its end. -/
theorem CycleAt.ticks_down (h : p.CycleAt a 0 false 1) (k : Nat) (hk : k ≤ a.toNat) :
    (ticks (a.toNat + 1 + k) p).CycleAt a (a.toNat - k) true 0 := by
  induction k with
  | zero => rw [Nat.add_zero, ticks_succ]; exact (h.ticks_up _ le_rfl).tick_top
  | succ k ih =>
    rw [← Nat.add_assoc, ticks_succ]
    have hk' := ih (by omega)
    rw [show a.toNat - k = a.toNat - (k + 1) + 1 by omega] at hk'
    exact hk'.tick_down

theorem CycleAt.ticks_cycle (h : p.CycleAt a 0 false 1) : (ticks (2 * (a.toNat + 1)) p).CycleAt a 0 false 1 := by
  have hlast := h.ticks_down a.toNat le_rfl
  rw [Nat.sub_self] at hlast
  rw [show 2 * (a.toNat + 1) = a.toNat + 1 + a.toNat + 1 by omega, ticks_succ]
  exact hlast.tick_bottom

end

/-- Settles O46: the way up, the turn at the top, the way down and the turn at the bottom, where the repetition count is 0. -/
theorem pwmPeriod : Obligations.PwmPeriod := by
  unfold Obligations.PwmPeriod
  intro p hcen hcms hpsc hpscAct hrcr hrep hcnt hdir n
  have h : p.CycleAt p.arr 0 false 1 := ⟨hcen, hcms, hpsc, hpscAct, hrcr, rfl, by rw [hcnt]; rfl, hdir, hrep⟩
  have hend := h.ticks_cycle
  refine ⟨fun k hk => ?_, BitVec.eq_of_toNat_eq hend.cnt, hend.dir, hend.rep, hend.pscAct, hend.arr, fun k hk => ?_⟩
  · have hup := h.ticks_up k (by omega)
    have hdown := h.ticks_down k (by omega)
    exact ⟨hup.cnt, hup.dir, by rw [hdown.cnt]; omega, hdown.dir⟩
  · by_cases hk' : k ≤ p.arr.toNat
    · rw [(h.ticks_up k hk').updates_iff]
      have : k + 1 ≠ 2 * n := by omega
      simp [this]
    · have hdown := h.ticks_down (k - (p.arr.toNat + 1)) (by omega)
      rw [show p.arr.toNat + 1 + (k - (p.arr.toNat + 1)) = k by omega] at hdown
      rw [hdown.updates_iff]
      simp only [if_true, and_true]
      omega

/-! ### Dead time -/

/-- A pin is HIGH only on its own side of OCREF and with no dead time left (41_pwm.md R535). -/
theorem oc_high {p : Pwm} {k : Fin 3} (h : p.oc k = .high) : p.ocref[k] = true ∧ p.dtc[k].toNat = 0 := by
  unfold oc at h
  (repeat' split at h) <;> simp_all

theorem ocn_high {p : Pwm} {k : Fin 3} (h : p.ocn k = .high) : p.ocref[k] = false ∧ p.dtc[k].toNat = 0 := by
  unfold ocn at h
  (repeat' split at h) <;> simp_all

/-- After a tick either OCREF has changed and the dead time begins, or it has stayed and the count went down (41_pwm.md R533). -/
theorem tick_dtc_cases (p : Pwm) (k : Fin 3) :
    p.tick.ocref[k] ≠ p.ocref[k] ∧ p.tick.dtc[k].toNat = p.dtg.toNat ∨
    p.tick.ocref[k] = p.ocref[k] ∧ p.tick.dtc[k].toNat = p.dtc[k].toNat - 1 := by
  by_cases h : p.tick.ocref[k] = p.ocref[k]
  · exact .inr ⟨h, tick_dtc_stayed h⟩
  · exact .inl ⟨h, congrArg BitVec.toNat (tick_dtc_changed h)⟩

/-- Until i ticks after an edge, dead time is left. -/
theorem dtc_after_edge {p : Pwm} {k : Fin 3} (h : p.tick.ocref[k] ≠ p.ocref[k]) (i : Nat) :
    p.dtg.toNat ≤ (ticks (i + 1) p).dtc[k].toNat + i := by
  induction i with
  | zero => exact le_of_eq (congrArg BitVec.toNat (tick_dtc_changed h)).symm
  | succ i ih =>
    rw [ticks_succ]
    have hdtg := congrArg BitVec.toNat (ticks_setup (i + 1) p).dtg
    rcases (ticks (i + 1) p).tick_dtc_cases k with ⟨_, hdtc⟩ | ⟨_, hdtc⟩ <;> rw [hdtc] <;> omega

/-- While OCREF stays after an edge, the dead time runs down (41_pwm.md R533). -/
theorem dtc_runs_down {p : Pwm} {k : Fin 3} (h : p.tick.ocref[k] ≠ p.ocref[k]) (i : Nat)
    (hstay : ∀ j, j ≤ i → (ticks (j + 1) p).ocref[k] = p.tick.ocref[k]) :
    (ticks (i + 1) p).dtc[k].toNat = p.dtg.toNat - i := by
  induction i with
  | zero => exact congrArg BitVec.toNat (tick_dtc_changed h)
  | succ i ih =>
    have hlast : (ticks (i + 1) p).tick.ocref[k] = (ticks (i + 1) p).ocref[k] := by
      rw [← ticks_succ, hstay (i + 1) le_rfl, hstay i (by omega)]
    rw [ticks_succ, tick_dtc_stayed hlast, ih fun j hj => hstay j (by omega)]
    omega

/-- Where OCREF differs from i ticks ago, its last change is less than i ticks ago, so the dead time and these ticks exceed DTG. -/
theorem dtc_since_change {p : Pwm} {k : Fin 3} (i : Nat) (h : (ticks i p).ocref[k] ≠ p.ocref[k]) :
    p.dtg.toNat < (ticks i p).dtc[k].toNat + i := by
  induction i with
  | zero => exact absurd rfl h
  | succ i ih =>
    rw [ticks_succ] at h ⊢
    have hdtg := (ticks_setup i p).dtg
    rcases (ticks i p).tick_dtc_cases k with ⟨_, hdtc⟩ | ⟨hsame, hdtc⟩
    · rw [hdtc, hdtg]; omega
    · have := ih (hsame ▸ h)
      rw [hdtc]; omega

/-- Settles O47: HIGH asks for no dead time left, and the count, which restarts at every change of OCREF, goes down by one at most. -/
theorem deadTime : Obligations.DeadTime := by
  unfold Obligations.DeadTime
  intro p k
  have opposite {i : Nat} {b : Bool} (hp : p.ocref[k] = b) (hi : (ticks i p).ocref[k] = !b) (hdtc : (ticks i p).dtc[k].toNat = 0) :
      p.dtg.toNat < i := by
    have := dtc_since_change (p := p) (k := k) i (by rw [hp, hi]; simp)
    omega
  refine ⟨fun ⟨h, h'⟩ => ?_, fun hedge => ⟨fun i hi => ?_, fun hstay hmoe hhigh hlow => ?_⟩, fun i h h' => ?_, fun i h h' => ?_⟩
  · exact Bool.false_ne_true ((ocn_high h').1.symm.trans (oc_high h).1)
  · have hleft := dtc_after_edge hedge i
    refine ⟨fun h => ?_, fun h => ?_⟩
    · rw [(oc_high h).2] at hleft; omega
    · rw [(ocn_high h).2] at hleft; omega
  · have same := ticks_setup (p.dtg.toNat + 1) p
    have hdtc : (ticks (p.dtg.toNat + 1) p).dtc[k] = 0 :=
      BitVec.eq_of_toNat_eq (by rw [dtc_runs_down hedge _ hstay, Nat.sub_self]; rfl)
    have hocref := hstay p.dtg.toNat le_rfl
    simp only [oc, ocn, highEnabled, lowEnabled, same.moe, same.ccer, hmoe, hhigh, hlow, hdtc, hocref]
    cases p.tick.ocref[k] <;> exact ⟨rfl, rfl⟩
  · exact opposite (oc_high h).1 (ocn_high h').1 (ocn_high h').2
  · exact opposite (ocn_high h).1 (oc_high h').1 (oc_high h').2

/-! ### The write of a preloaded compare register -/

/-- The unit with other compare preload values. -/
def withCcr (p : Pwm) (c : Vector (BitVec 16) 5) : Pwm := { p with ccr := c }

/-- A preloaded channel takes its compare value from the copy, the other channels theirs from registers that the write leaves alone
(41_pwm.md R526). -/
theorem cmp_withCcr {p : Pwm} {k : Fin 5} (h : ccmrPreload p.ccmr k = true) (v : BitVec 16) (j : Fin 5) :
    (p.withCcr (p.ccr.set k v)).cmp j = p.cmp j := by
  by_cases hj : ccmrPreload p.ccmr j = true
  · simp [cmp, withCcr, hj]
  · have hne : k ≠ j := fun e => hj (e ▸ h)
    simp [cmp, withCcr, hj, Fin.val_ne_of_ne hne]

theorem prescale_withCcr (p : Pwm) (c : Vector (BitVec 16) 5) : (p.withCcr c).prescale = (p.prescale.1.withCcr c, p.prescale.2) := by
  unfold prescale withCcr
  (repeat' split) <;> rfl

theorem advance_withCcr (p : Pwm) (c : Vector (BitVec 16) 5) : (p.withCcr c).advance = (p.advance.1.withCcr c, p.advance.2) := by
  unfold advance centreAdvance edgeAdvance withCcr
  (repeat' split) <;> rfl

/-- Repetition reads the compare preload values at an update event only (41_pwm.md R524, R525). -/
theorem repetition_withCcr {p : Pwm} (h : p.rep ≠ 0) (c : Vector (BitVec 16) 5) :
    (p.withCcr c).repetition = p.repetition.withCcr c := by
  rw [repetition, repetition, if_neg (show (p.withCcr c).rep ≠ 0 from h), if_neg h]
  rfl

theorem count_withCcr {p : Pwm} (h : p.atEnd → p.rep ≠ 0) (c : Vector (BitVec 16) 5) : (p.withCcr c).count = p.count.withCcr c := by
  rw [count_eq, count_eq, advance_withCcr]
  split
  · rename_i hend
    exact repetition_withCcr (p.advance_reload.2.1 ▸ h (p.advance_snd.mp hend)) c
  · rfl

theorem counted_withCcr {p : Pwm} (h : p.updatesOnTick = false) (c : Vector (BitVec 16) 5) :
    (p.withCcr c).counted = p.counted.withCcr c := by
  have hrep (hadv : p.Advances) (hend : p.atEnd) : p.rep ≠ 0 := fun hrep =>
    Bool.false_ne_true (h.symm.trans (p.updatesOnTick_iff.mpr ⟨hadv, hend, hrep⟩))
  simp only [counted, prescale_withCcr]
  split
  · rename_i hadv
    have hadv' := p.prescale_snd.mp hadv
    rw [prescale_advances hadv']
    exact count_withCcr (p := { p with pscCnt := 0 }) (hrep hadv') c
  · rfl

theorem triggers_withCcr {q : Pwm} {c : Vector (BitVec 16) 5} (h : ∀ j, (q.withCcr c).cmp j = q.cmp j) (adv : Bool) :
    (q.withCcr c).triggers adv = (q.triggers adv).withCcr c := by
  simp only [triggers, h]
  rfl

theorem outputCompare_withCcr {q : Pwm} {c : Vector (BitVec 16) 5} (h : ∀ j, (q.withCcr c).cmp j = q.cmp j) :
    (q.withCcr c).outputCompare = q.outputCompare.withCcr c := by
  have hocref (k : Fin 3) : (q.withCcr c).nextOcref k = q.nextOcref k := by simp only [nextOcref, h]; rfl
  have hdtc (k : Fin 3) : (q.withCcr c).nextDtc k = q.nextDtc k := by simp only [nextDtc, hocref]; rfl
  simp only [outputCompare, hocref, hdtc]
  rfl

/-- A tick without an update event does not see the write of a preloaded compare register. -/
theorem tick_withCcr {p : Pwm} {k : Fin 5} (hk : ccmrPreload p.ccmr k = true) (h : p.updatesOnTick = false) (v : BitVec 16) :
    (p.withCcr (p.ccr.set k v)).tick = p.tick.withCcr (p.ccr.set k v) := by
  have same := p.counted_outputs
  have hcmp (j : Fin 5) : (p.counted.withCcr (p.ccr.set k v)).cmp j = p.counted.cmp j := by
    rw [← same.ccr]
    exact cmp_withCcr (same.ccmr ▸ hk) v j
  rw [tick_eq, tick_eq, counted_withCcr h, prescale_withCcr, triggers_withCcr hcmp]
  exact outputCompare_withCcr (q := p.counted.triggers p.prescale.2) hcmp

theorem ticks_withCcr {p : Pwm} {k : Fin 5} (hk : ccmrPreload p.ccmr k = true) (v : BitVec 16) (n : Nat)
    (h : ∀ i, i < n → (ticks i p).updatesOnTick = false) :
    ticks n (p.withCcr (p.ccr.set k v)) = (ticks n p).withCcr ((ticks n p).ccr.set k v) := by
  induction n with
  | zero => rfl
  | succ n ih =>
    have setup := ticks_setup n p
    rw [ticks_succ, ticks_succ, ih fun i hi => h i (by omega), tick_withCcr (setup.ccmr ▸ hk) (h n (by omega)), (tick_setup _).ccr]

/-- Settles O48: until an update event the two runs differ in the preload register, which no compare value is taken from. -/
theorem glitchFree : Obligations.GlitchFree := by
  unfold Obligations.GlitchFree
  intro p k v n hk hn q i hi
  have hrun : ticks i q = (ticks i p).withCcr ((ticks i p).ccr.set k v) :=
    ticks_withCcr hk v i fun j hj => hn j (by omega)
  rw [hrun]
  exact ⟨rfl, cmp_withCcr ((ticks_setup i p).ccmr ▸ hk) v, fun _ => ⟨rfl, rfl⟩⟩

end Pwm
end Sys2Proof.Machine
end

section
/-! SUPPORT. Reads and writes of the PWM registers, the frame of every register write, and the tick's trigger edges (41_pwm.md R500 to R512,
R530, R531). -/
namespace Sys2Proof.Machine

/-! ### Reads -/

/-- `CR1` as its bits: DIR at 4, CMS at 1, CEN at 0 (10_state.md R111). -/
theorem Pwm.read_cr1 (p : Pwm) :
    p.read .cr1 = 0#27 ++ BitVec.ofBool p.dir ++ 0#2 ++ BitVec.ofBool p.cms ++ BitVec.ofBool p.cen := by
  simp only [Pwm.read]
  cases p.dir <;> cases p.cms <;> cases p.cen <;> rfl

theorem Pwm.read_sr (p : Pwm) : p.read .sr = 0#31 ++ BitVec.ofBool p.uif := by
  simp only [Pwm.read]
  cases p.uif <;> rfl

/-- `BDTR` as its bits: MOE at 15, OSSI at 10, DTG below (10_state.md R118). -/
theorem Pwm.read_bdtr (p : Pwm) :
    p.read .bdtr = 0#16 ++ BitVec.ofBool p.moe ++ 0#4 ++ BitVec.ofBool p.ossi ++ 0#2 ++ p.dtg := by
  simp only [Pwm.read]
  generalize p.dtg = d
  cases p.moe <;> cases p.ossi <;> revert d <;> decide

/-- Settles O17: each row is `Pwm.read` of its register, into the local. -/
theorem pwmReads : Obligations.PwmReads := by
  unfold Obligations.PwmReads
  intro s x lane hk
  have read (r : PwmReg) {w : Word} (h : s.pwm.read r = w) :
      Cpu.runRead s lane (.value (s.pwm.read r) s) = .next (s.loaded x (Lane.take lane w)) := h ▸ runRead_store s s x lane _ hk
  exact ⟨read .cr1 s.pwm.read_cr1, read .cr2 (setWidth_eq_zero_append 28 _), read .sr s.pwm.read_sr, read .egr rfl,
    read .ccmr (setWidth_eq_zero_append 18 _), read .ccer (setWidth_eq_zero_append 26 _), read .cnt (setWidth_eq_zero_append 16 _),
    read .psc (setWidth_eq_zero_append 16 _), read .arr (setWidth_eq_zero_append 16 _), read .rcr (setWidth_eq_zero_append 24 _),
    read .ccr1 (setWidth_eq_zero_append 16 _), read .ccr2 (setWidth_eq_zero_append 16 _), read .ccr3 (setWidth_eq_zero_append 16 _),
    read .ccr4 (setWidth_eq_zero_append 16 _), read .ccr5 (setWidth_eq_zero_append 16 _), read .bdtr s.pwm.read_bdtr⟩

/-! ### Writes -/

/-- An accepted write of a PWM register, as the host's step. -/
theorem exec_pwm_ok {s : State} {i : Instr} {r : PwmReg} {v : Word} {q : Pwm} (hi : Reg.wrInstr (.pwm r) v = .ok i)
    (h : s.pwm.write r v = .ok q) : exec i s = .next { s with pwm := q }.advance := by
  rw [exec_wrInstr _ _ _ s hi, State.regWrite, State.pwmWrite, h, runWrite_ok]

/-- A refused one. -/
theorem exec_pwm_error {s : State} {i : Instr} {r : PwmReg} {v : Word} {f : FaultRecord} (hi : Reg.wrInstr (.pwm r) v = .ok i)
    (h : s.pwm.write r v = .error f) : exec i s = .next (s.raise f) := by
  rw [exec_wrInstr _ _ _ s hi, State.regWrite, State.pwmWrite, h, runWrite_error]

theorem Pwm.writeCr1_error {p : Pwm} {v : Word} (h : p.cen = true ∧ v.getLsbD 0 = true ∧ v.getLsbD 1 ≠ p.cms) :
    p.writeCr1 v = .error ⟨.pwmCmsRun, .num v.toNat⟩ := by
  obtain ⟨hcen, hon, hmode⟩ := h
  rw [Pwm.writeCr1, if_pos (by simpa [Word.bit, hcen, hon] using hmode)]
  rfl

theorem Pwm.writeCr1_ok {p : Pwm} {v : Word} (h : ¬(p.cen = true ∧ v.getLsbD 0 = true ∧ v.getLsbD 1 ≠ p.cms)) :
    p.writeCr1 v = .ok { p with
      cen := v.getLsbD 0, cms := v.getLsbD 1, dir := if v.getLsbD 1 = p.cms then p.dir else false } := by
  rw [Pwm.writeCr1, if_neg (by simpa [Word.bit, and_assoc] using h)]
  simp only [Word.bit, bne_iff_ne, ne_eq, ite_not]

theorem Pwm.writeArr_error {p : Pwm} {v : Word} (h : p.cen = true) : p.writeArr v = .error ⟨.pwmArrRun, .num v.toNat⟩ := by
  rw [Pwm.writeArr, if_pos h]
  rfl

theorem Pwm.writeArr_ok {p : Pwm} {v : Word} (h : p.cen = false) : p.writeArr v = .ok { p with arr := v.extractLsb' 0 16 } := by
  rw [Pwm.writeArr, if_neg (by simp [h])]
  rfl

/-- The mode codes 1, 2 and 3 are the reserved ones (30_encoding.md R320). -/
theorem ocmReserved_iff (m : BitVec 3) : ocmReserved m = true ↔ 1 ≤ m.toNat ∧ m.toNat ≤ 3 := by
  revert m; decide

/-- The modes of a `CCMR` word stand at bits 0, 4 and 8. -/
theorem ccmrMode_field (v : Word) (k : Fin 3) : ccmrMode (Word.field v 0 14) k = v.extractLsb' (4 * k.val) 3 := by
  apply BitVec.eq_of_getLsbD_eq
  intro i hi
  have hk := k.isLt
  simp only [ccmrMode, Word.field, BitVec.getLsbD_extractLsb', hi, decide_true, Bool.true_and, Nat.zero_add]
  rw [decide_eq_true (by omega), Bool.true_and]

theorem Pwm.writeCcr_error {p : Pwm} {k : Fin 5} {v : Word} (hk : k.val < 3) (h : p.arr.toNat < (v.extractLsb' 0 16).toNat) :
    p.writeCcr k v = .error ⟨.pwmCcrRange, .num (k.val + 1 : Nat)⟩ := by
  rw [Pwm.writeCcr, if_pos (by simp only [hk, decide_true, Bool.true_and]; exact decide_eq_true h)]
  rfl

theorem Pwm.writeCcr_ok {p : Pwm} {k : Fin 5} {v : Word} (h : k.val < 3 → (v.extractLsb' 0 16).toNat ≤ p.arr.toNat) :
    p.writeCcr k v = .ok { p with ccr := p.ccr.set k (v.extractLsb' 0 16) } := by
  rw [Pwm.writeCcr, if_neg]
  · rfl
  · simp only [Bool.and_eq_true, decide_eq_true_eq, not_and, BitVec.lt_def, not_lt]
    exact h

/-- `CCMR` names the lowest channel with a reserved mode (41_pwm.md R504). -/
theorem Pwm.writeCcmr_eq (p : Pwm) (v : Word) :
    let bad := fun k : Nat => 1 ≤ (v.extractLsb' (4 * k) 3).toNat ∧ (v.extractLsb' (4 * k) 3).toNat ≤ 3
    p.writeCcmr v = if bad 0 then .error ⟨.pwmOcmRsv, .num 1⟩ else if bad 1 then .error ⟨.pwmOcmRsv, .num 2⟩
      else if bad 2 then .error ⟨.pwmOcmRsv, .num 3⟩ else .ok { p with ccmr := v.extractLsb' 0 14 } := by
  simp only [Pwm.writeCcmr, ocmReserved_iff, ccmrMode_field]
  rfl

/-- `UG` is an update event and restarts the counter; without it the write does nothing (41_pwm.md R512). -/
theorem Pwm.writeEgr_ug {p : Pwm} {v : Word} (h : v.getLsbD 0 = true) :
    p.writeEgr v = { p with ccrAct := p.ccr, pscAct := p.psc, rep := p.rcr, uif := true, cnt := 0, dir := false, pscCnt := 0 } := by
  rw [Pwm.writeEgr, if_pos (show Word.bit v 0 = true from h)]
  rfl

theorem Pwm.writeEgr_idle {p : Pwm} {v : Word} (h : v.getLsbD 0 = false) : p.writeEgr v = p := by
  rw [Pwm.writeEgr, if_neg (by rw [Word.bit, h]; exact Bool.false_ne_true)]

/-- Settles O25: each row is the write rule of its register, whose checks are the cases. -/
theorem pwmWrites : Obligations.PwmWrites := by
  unfold Obligations.PwmWrites
  refine ⟨fun s v => ⟨rfl, rfl, fun hug => ?_, fun hug => ?_, rfl, rfl, rfl, rfl, ?_, ?_, rfl⟩, fun s v => ?_⟩
  · exact exec_pwm_ok (r := .egr) rfl (congrArg _ (Pwm.writeEgr_idle hug))
  · exact exec_pwm_ok (r := .egr) rfl (congrArg _ (Pwm.writeEgr_ug hug))
  · exact exec_pwm_ok (r := .ccr4) rfl (Pwm.writeCcr_ok (k := 3) fun h => absurd h (by decide))
  · exact exec_pwm_ok (r := .ccr5) rfl (Pwm.writeCcr_ok (k := 4) fun h => absurd h (by decide))
  · intro bad
    have hccmr := s.pwm.writeCcmr_eq v
    refine ⟨fun h => exec_pwm_error (r := .cr1) rfl (Pwm.writeCr1_error h),
      fun h => exec_pwm_ok (r := .cr1) rfl (Pwm.writeCr1_ok h), fun h => ?_,
      fun h => exec_pwm_error (r := .arr) rfl (Pwm.writeArr_error h),
      fun h => exec_pwm_ok (r := .arr) rfl (Pwm.writeArr_ok h), fun h0 => ?_, fun ⟨h0, h1⟩ => ?_, fun ⟨h0, h1, h2⟩ => ?_,
      fun ⟨h0, h1, h2⟩ => ?_, fun h => ⟨?_, ?_, ?_⟩, fun h => ⟨?_, ?_, ?_⟩⟩
    · change s.pwm.counted.cnt = _ ∧ s.pwm.counted.pscCnt = _ ∧ s.pwm.counted.dir = _
      rw [Pwm.counted_frozen h]
      exact ⟨rfl, rfl, rfl⟩
    · exact exec_pwm_error (r := .ccmr) rfl (hccmr.trans (if_pos h0))
    · exact exec_pwm_error (r := .ccmr) rfl (hccmr.trans (by rw [if_neg h0, if_pos h1]))
    · exact exec_pwm_error (r := .ccmr) rfl (hccmr.trans (by rw [if_neg h0, if_neg h1, if_pos h2]))
    · exact exec_pwm_ok (r := .ccmr) rfl (hccmr.trans (by rw [if_neg h0, if_neg h1, if_neg h2]))
    · exact exec_pwm_error (r := .ccr1) rfl (Pwm.writeCcr_error (k := 0) (by decide) h)
    · exact exec_pwm_error (r := .ccr2) rfl (Pwm.writeCcr_error (k := 1) (by decide) h)
    · exact exec_pwm_error (r := .ccr3) rfl (Pwm.writeCcr_error (k := 2) (by decide) h)
    · exact exec_pwm_ok (r := .ccr1) rfl (Pwm.writeCcr_ok (k := 0) fun _ => h)
    · exact exec_pwm_ok (r := .ccr2) rfl (Pwm.writeCcr_ok (k := 1) fun _ => h)
    · exact exec_pwm_ok (r := .ccr3) rfl (Pwm.writeCcr_ok (k := 2) fun _ => h)

/-! ### The frame of a register write -/

/-- What an accepted write of register r leaves of the units: all but the one written. -/
structure State.WriteEffect (s w : State) (r : Reg) : Prop where
  pwm : (∀ q, r ≠ .pwm q) → w.pwm = s.pwm
  adc1 : (∀ q, r ≠ .adc .one q) → w.adc1 = s.adc1
  adc2 : (∀ q, r ≠ .adc .two q) → w.adc2 = s.adc2
  adcPaired : r ≠ .adc .one .cr → r ≠ .adc .two .cr → w.adcPaired = s.adcPaired
  dma : ∀ c : Fin 16, (∀ q, r ≠ .dma c q) → w.dma[c] = s.dma[c]
  dmamux : ∀ c : Fin 16, r ≠ .dmamux c → w.dmamux[c] = s.dmamux[c]
  cordic : (∀ q, r ≠ .cordic q) → w.cordic = s.cordic
  xform : (∀ q, r ≠ .xform q) → w.xform = s.xform
  intc : (∀ q, r ≠ .intc q) → w.intc = s.intc

theorem State.WriteEffect.refl (s : State) (r : Reg) : s.WriteEffect s r :=
  ⟨fun _ => rfl, fun _ => rfl, fun _ => rfl, fun _ _ => rfl, fun _ _ => rfl, fun _ _ => rfl, fun _ => rfl, fun _ => rfl, fun _ => rfl⟩

theorem regWrite_effect {s w : State} {r : Reg} {v : Word} (h : s.regWrite r v = .ok w) : s.WriteEffect w r := by
  have same := State.WriteEffect.refl s r
  rcases regWrite_ok s w r v h with ⟨q, p, rfl, _, rfl⟩ | ⟨u, rfl, _, rfl⟩ | ⟨u, q, a, rfl, _, _, rfl⟩ | ⟨c, q, d, rfl, _, rfl⟩ |
    ⟨c, rfl, _, _, rfl⟩ | ⟨q, k, rfl, _, rfl⟩ | ⟨q, x, rfl, _, rfl⟩ | ⟨q, rfl, hq⟩
  · exact { same with pwm := fun h => absurd rfl (h q) }
  · cases u with
    | one => exact { same with adc1 := fun h => absurd rfl (h .cr), adcPaired := fun h => absurd rfl h }
    | two => exact { same with adc2 := fun h => absurd rfl (h .cr), adcPaired := fun _ h => absurd rfl h }
  · cases u with
    | one => exact { same with adc1 := fun h => absurd rfl (h q) }
    | two => exact { same with adc2 := fun h => absurd rfl (h q) }
  · refine { same with dma := fun e he => ?_ }
    rw [State.setDma_get, if_neg fun hce => he q (by rw [hce])]
  · refine { same with dmamux := fun e he => ?_ }
    have hne : c ≠ e := fun hce => he (by rw [hce])
    simp [Fin.val_ne_of_ne hne]
  · exact { same with cordic := fun h => absurd rfl (h q) }
  · exact { same with xform := fun h => absurd rfl (h q) }
  · rcases intcWrite_ok s w q v hq with rfl | ⟨_, rfl⟩ | ⟨_, _, rfl⟩ | ⟨_, _, rfl⟩ <;>
      exact { same with intc := fun h => absurd rfl (h q) }

/-- Settles O35: an accepted write is the unit's, then the host moves on; a refused one is a record. -/
theorem registerWriteFrame : Obligations.RegisterWriteFrame := by
  unfold Obligations.RegisterWriteFrame
  intro s t r v i hi h
  rw [exec_wrInstr r v i s hi] at h
  rcases runWrite_cases s t _ h with ⟨w, hw, rfl⟩ | ⟨f, _, rfl⟩
  · have E := regWrite_effect hw
    have H := regWrite_host s w r v hw
    have F := State.ReadFrame.advance w (.ok .drop)
    have htop : w.top = s.top := H.top
    refine ⟨E.pwm, E.adc1, E.adc2, E.adcPaired, E.dma, E.dmamux, E.cordic, E.xform, E.intc, H.trim, H.params, H.vec, H.halted, H.busData,
      State.byteAt_congr (s := s) H.ram H.stepNo, ?_, ?_, ?_, ?_, ?_, fun hs => ?_⟩
    · rw [State.advance, State.top_setTop, htop]; rfl
    · rw [F.lvl, htop]
    · rw [F.line, htop]
    · rw [F.length, H.handlers]
    · rw [F.tail, H.handlers]
    · rw [F.bg (H.handlers ▸ hs), H.bg]
  · have E := State.WriteEffect.refl s r
    exact ⟨E.pwm, E.adc1, E.adc2, E.adcPaired, E.dma, E.dmamux, E.cordic, E.xform, E.intc, rfl, rfl, rfl, rfl, rfl, fun _ => rfl, rfl, rfl,
      rfl, rfl, rfl, fun _ => rfl⟩

/-! ### The tick as a step -/

theorem triggerLevel_of_select {sel : BitVec 5} (h : sel.toNat < 2) (t : Bool × Bool) :
    triggerLevel sel t = some (if sel = 0 then t.1 else t.2) := by
  have : sel = 0 ∨ sel = 1 := by bv_omega
  rcases this with rfl | rfl <;> rfl

/-- A unit starts its injected sequence on a tick exactly when it is armed and its selected trigger has a selected edge (41_pwm.md R531,
42_adc.md R646). -/
theorem Adc.startsOn_iff {a : Adc} (h : a.jextsel.toNat < 2) (old new : Bool × Bool) :
    let o := if a.jextsel = 0 then old.1 else old.2
    let n := if a.jextsel = 0 then new.1 else new.2
    a.startsOn old new = true ↔
      (a.jexten = 1 ∧ (o = false ∧ n = true) ∨ a.jexten = 2 ∧ (o = true ∧ n = false) ∨
        a.jexten = 3 ∧ (o = false ∧ n = true ∨ o = true ∧ n = false)) ∧
      a.jadstart = true ∧ a.en = .ready ∧ a.jact = false := by
  intro o n
  simp only [Adc.startsOn, Adc.triggerEvent, Adc.armed, triggerLevel_of_select h]
  change ((a.jexten == 1 && !o && n || a.jexten == 2 && o && !n || a.jexten == 3 && o != n) && _) = true ↔ _
  cases o <;> cases n <;> simp [and_assoc]

theorem step_tick {s : State} (hf : s.fault = none) (ht : s.turn = .tick) : step s = .next s.tick.scheduled := by
  simp only [step, hf, ht, State.moveOrStay, State.agentStep, Option.getD_some]

/-- Settles O49: which units start is `Adc.startsOn_iff`; the pairing follows from the two answers. -/
theorem triggerDelivery : Obligations.TriggerDelivery := by
  unfold Obligations.TriggerDelivery
  intro s hf ht h1 h2 p old new rise fall starts after
  have hstarts (a : Adc) (h : a.jextsel.toNat < 2) :
      a.startsOn (s.pwm.trga, s.pwm.trgb) (p.trga, p.trgb) = true ↔ starts a := Adc.startsOn_iff h _ _
  have hafter (a : Adc) : (if starts a then a.startInjected else a) = after a := by
    by_cases hs : starts a
    · simp only [if_pos hs, after, Adc.startInjected]
    · simp only [if_neg hs, after]
  rw [step_tick hf ht]
  simp only [State.tick, State.deliverTriggers, Bool.and_eq_true, Bool.or_eq_true, hstarts _ h1, hstarts _ h2, hafter, p]

end Sys2Proof.Machine
end

section
/-! SUPPORT. Whole calls of driver operations: the states a call passes through while the host alone steps (and, where a rule waits for it,
the CORDIC engine), one lemma per form of statement, and how a call ends or faults (40_bus.md R404, R420 to R427; log entry 7). -/
namespace Sys2Proof.Machine

/-! ### Where a call stands -/

/-- The top activity of s inside the expansion `body` of the CALL it stands at: at statement k with locals `env`; past the last statement
it is at the statement after the CALL (40_bus.md R427). -/
def State.inCall (s : State) (body : Prog) (env : List (LocalName × Word)) (k : Nat) : Activity :=
  { s.top.expand body with loc := env }.jump k

section
variable {s : State} {body : Prog} {env : List (LocalName × Word)} {k : Nat}

theorem State.inCall_of_lt (h : k < body.length) : s.inCall body env k =
    ⟨body, k, (s.top.prog, s.top.pc) :: s.top.calls, env, s.top.lvl, s.top.line, 0, 0⟩ := by
  simp only [State.inCall, Activity.jump, Activity.expand, unwind, h, if_true]

theorem State.inCall_current {st : Stmt} (h : body[k]? = some st) : (s.inCall body env k).current = some st := by
  rw [State.inCall_of_lt (List.getElem?_eq_some_iff.mp h).1]
  exact h

theorem State.inCall_next (h : k < body.length) : (s.inCall body env k).next = s.inCall body env (k + 1) := by
  rw [State.inCall_of_lt h]
  rfl

theorem State.inCall_setLocal (x : LocalName) (v : Word) :
    (s.inCall body env k).setLocal x v = s.inCall body (writeLocal env x v) k := rfl

@[simp] theorem State.inCall_loc : (s.inCall body env k).loc = env := rfl

/-- The end of the expansion is the statement after the CALL. -/
theorem State.inCall_end : s.inCall body env body.length = { s.top.next with loc := env } := by
  simp only [State.inCall, Activity.jump, Activity.expand, unwind, lt_irrefl, if_false, Activity.next]

end

theorem State.SameUnits.same_params {s t : State} (h : s.SameUnits t) : t.params = s.params := by
  obtain ⟨-, -, -, -, -, -, -, -, -, -, -, -, params⟩ := h
  exact params

/-- The state t, reached from s, has the units and memory of u, no fault, and the top activity a; the host's activities below it are those
of s. -/
structure State.HostAt (s u : State) (a : Activity) (t : State) : Prop where
  units : u.SameUnits t
  fault : t.fault = none
  top : t.top = a
  idle : t.hostIdle = false
  halted : t.halted = s.halted
  length : t.handlers.length = s.handlers.length
  tail : t.handlers.tail = s.handlers.tail
  bg : s.handlers ≠ [] → t.bg = s.bg

theorem State.setTop_hostIdle (s : State) (a : Activity) : (s.setTop a).hostIdle = s.hostIdle := by
  simp only [State.hostIdle, State.setTop]
  cases s.handlers <;> rfl

section
variable {s u u' t w : State} {a b : Activity}

/-- The host moves its top activity, after an access that changes the units. -/
theorem State.HostAt.moved (h : s.HostAt u a t) (hw : SameHost t w) (hu : u'.SameUnits w) (d : Word) (b : Activity) :
    s.HostAt u' b ({ w with busData := d }.setTop b) where
  units := hu
  fault := hw.fault.trans h.fault
  top := State.top_setTop _ b
  idle := by
    rw [State.setTop_hostIdle]
    simpa only [State.hostIdle, hw.halted, hw.handlers] using h.idle
  halted := hw.halted.trans h.halted
  length := by rw [State.setTop_handlers_length]; exact (congrArg _ hw.handlers).trans h.length
  tail := by rw [State.setTop_handlers_tail]; exact (congrArg _ hw.handlers).trans h.tail
  bg hs := by
    have hne : w.handlers ≠ [] := fun e => hs (List.length_eq_zero_iff.mp (by rw [← h.length, ← hw.handlers, e]; rfl))
    exact (State.setTop_bg b hne).trans (hw.bg.trans (h.bg hs))

theorem State.HostAt.setTop (h : s.HostAt u a t) (b : Activity) : s.HostAt u b (t.setTop b) :=
  h.moved (.refl t) h.units t.busData b

theorem State.HostAt.advance (h : s.HostAt u a t) (hw : SameHost t w) (hu : u'.SameUnits w) : s.HostAt u' a.next w.advance := by
  have htop : w.top = a := hw.top.trans h.top
  rw [State.advance, htop]
  exact h.moved hw hu w.busData a.next

theorem State.HostAt.loaded (h : s.HostAt u a t) (hw : SameHost t w) (hu : u'.SameUnits w) (x : LocalName) (v : Word) :
    s.HostAt u' (a.setLocal x v).next (w.loaded x v) := by
  rw [State.loaded, hw.top.trans h.top]
  exact h.moved hw hu v _

/-- The choice of the next move is no part of where the host is. -/
theorem State.HostAt.turn (h : s.HostAt u a t) (m : Move) : s.HostAt u a { t with turn := m } :=
  ⟨h.units, h.fault, h.top, h.idle, h.halted, h.length, h.tail, h.bg⟩

theorem State.HostAt.scheduled (h : s.HostAt u a t) : s.HostAt u a t.scheduled :=
  ⟨h.units, h.fault, h.top, h.idle, h.halted, h.length, h.tail, h.bg⟩

end

/-! ### What one statement of a call does -/

/-- Statement k of the call takes its units from u to u' and its locals from `env` to `env'`, and moves on. -/
def State.Does (s : State) (body : Prog) (k : Nat) (st : Stmt) (u : State) (env : List (LocalName × Word)) (u' : State)
    (env' : List (LocalName × Word)) : Prop :=
  ∀ t, s.HostAt u (s.inCall body env k) t → ∃ t', Cpu.runStmt t st = .done t' ∧ s.HostAt u' (s.inCall body env' (k + 1)) t'

section
variable {s u : State} {body : Prog} {k : Nat} {env : List (LocalName × Word)}

/-- An expression of the call is evaluated over its locals. -/
theorem State.HostAt.eval {t : State} {e : Expr} {v : Int} (h : s.HostAt u (s.inCall body env k) t) (he : Expr.eval env e = .ok v) :
    t.eval e = .ok v := by
  rw [State.eval, h.top]
  exact he

theorem State.HostAt.assigned {t : State} (h : s.HostAt u (s.inCall body env k) t) (hk : k < body.length) (x : LocalName) (v : Word) :
    t.assigned x v = t.setTop (s.inCall body (writeLocal env x v) (k + 1)) := by
  rw [State.assigned, h.top, State.inCall_setLocal, State.inCall_next hk]

/-- A check that passes. -/
theorem State.Does.check (hk : k < body.length) {c : Expr} (code : FaultCode) (info : Expr) (hc : Expr.eval env c = .ok 0) :
    s.Does body k (.brFault c code info) u env u env := by
  intro t h
  refine ⟨t.advance, ?_, State.inCall_next (env := env) hk ▸ h.advance (.refl t) h.units⟩
  simp [Cpu.runStmt, Cpu.runBrFault, h.eval hc]

theorem State.Does.assign (hk : k < body.length) {x : LocalName} {e : Expr} {v : Int} (he : Expr.eval env e = .ok v) :
    s.Does body k (.set x e) u env u (writeLocal env x (BitVec.ofInt 32 v)) := by
  intro t h
  have hdone : Cpu.runStmt t (.set x e) = .done (t.assigned x (BitVec.ofInt 32 v)) := by
    simp only [Cpu.runStmt, Cpu.runSet, t.evalWord_ok (h.eval he), State.advance, State.top_setTop, State.setTop_setTop, State.assigned]
  exact ⟨_, hdone.trans (congrArg _ (h.assigned hk x _)), h.setTop _⟩

/-- A write that its register accepts. -/
theorem State.Does.write {u' : State} (hk : k < body.length) {r : Reg} {e : Expr} {v : Int} (hp : u.params.wf = true)
    (hr : r.present u.params = true) (he : Expr.eval env e = .ok v)
    (hw : ∀ t, u.SameUnits t → ∃ w, t.regWrite r (BitVec.ofInt 32 v) = .ok w ∧ u'.SameUnits w) :
    s.Does body k (.wr .b4 (regE u.params r) e) u env u' env := by
  intro t h
  obtain ⟨w, hw, hu⟩ := hw t h.units
  have hparams : t.params = u.params := h.units.same_params
  refine ⟨w.advance, runStmt_wr t w _ _ _ _ _ (t.evalWord_regE _ _) (t.evalWord_ok (h.eval he)) ?_,
    State.inCall_next (env := env) hk ▸ h.advance (regWrite_host t w r _ hw) hu⟩
  simp only [State.hostWrite, hparams, locate_word u.params hp r hr, Size.trunc, hw]

/-- A read of a register, with its side effect. -/
theorem State.Does.read {u' : State} {x : LocalName} {r : Reg} {v : Word} (hk : body[k]? = some (.rd x .b4 (regE u.params r)))
    (hp : u.params.wf = true) (hr : r.present u.params = true)
    (hv : ∀ t, u.SameUnits t → ∃ w, t.regRead r = .value v w ∧ u'.SameUnits w) :
    s.Does body k (.rd x .b4 (regE u.params r)) u env u' (writeLocal env x v) := by
  intro t h
  obtain ⟨w, hv, hu⟩ := hv t h.units
  have hparams : t.params = u.params := h.units.same_params
  have hlt := (List.getElem?_eq_some_iff.mp hk).1
  refine ⟨w.loaded x v, runStmt_rd t w x _ _ (r.addr u.params) v .word (by rw [h.top]; exact State.inCall_current hk)
    (t.evalWord_regE _ _) ?_, State.inCall_next hlt ▸ h.loaded (regRead_host t w r v hv) hu x v⟩
  simp only [State.hostRead, hparams, locate_word u.params hp r hr, hv]

/-- A write that its register refuses. -/
theorem State.HostAt.wr_faults {t : State} {r : Reg} {e : Expr} {v : Int} {f : FaultRecord} (h : s.HostAt u (s.inCall body env k) t)
    (hp : u.params.wf = true) (hr : r.present u.params = true) (he : Expr.eval env e = .ok v)
    (hw : t.regWrite r (BitVec.ofInt 32 v) = .error f) : Cpu.runStmt t (.wr .b4 (regE u.params r) e) = .fault f := by
  have hparams : t.params = u.params := h.units.same_params
  simp only [Cpu.runStmt, Cpu.runWr, State.wrTransaction, t.evalWord_regE, State.evalWord_ok (h.eval he), Cpu.transact, State.hostWrite,
    hparams, locate_word u.params hp r hr, Size.trunc, hw, Cpu.finishWrite]

/-- A read that its register refuses. -/
theorem State.HostAt.rd_faults {t : State} {x : LocalName} {r : Reg} {f : FaultRecord} (h : s.HostAt u (s.inCall body env k) t)
    (hk : body[k]? = some (.rd x .b4 (regE u.params r))) (hp : u.params.wf = true) (hr : r.present u.params = true)
    (hv : t.regRead r = .fault f) : Cpu.runStmt t (.rd x .b4 (regE u.params r)) = .fault f := by
  have hparams : t.params = u.params := h.units.same_params
  have hc : t.top.current = some (.rd x .b4 (regE u.params r)) := by rw [h.top]; exact State.inCall_current hk
  simp only [Cpu.runStmt, Cpu.runRd, t.evalWord_regE, Cpu.transact, State.hostRead, hparams, locate_word u.params hp r hr, hv,
    Cpu.finishRead, State.sink, hc]

end

/-! ### A CALL as a step -/

section
variable {s t : State} {i j : Instr} {ds : List LocalName} {st : Stmt} {body rest : Prog}

/-- The host's step at a CALL is the call of its expansion. -/
theorem step_call (hf : t.fault = none) (ht : t.turn = .statement) (hi : t.hostIdle = false) (hc : t.top.current = some (.call i ds))
    (ho : i.isOperation = true) : step t = Cpu.schedule (Cpu.outcome t (Cpu.runCall t (expansion t.params i ds))) := by
  have hds : t.callDests = ds := by simp only [State.callDests, hc]
  rw [step_statement t hf ht, hostStatement_call hi hc ho, exec_operation i t ho, hds]

/-- The call of one assignment is that assignment. -/
theorem runCall_assign {x : LocalName} {e : Expr} {v : Int} (h : t.eval e = .ok v) :
    Cpu.runCall t [.set x e] = .done (t.assigned x (BitVec.ofInt 32 v)) := by
  rw [runCall_cons t _ _ (by simp)]
  simp only [Cpu.runStmt, Cpu.runSet, State.evalWord_ok ((eval_expand t _ e).trans h), State.top_setTop, State.setTop_setTop,
    State.advance, State.assigned]
  rfl

/-- A call that begins with a CALL runs the first statement of that one's expansion. -/
theorem runCall_nested (hj : expansion s.params j ds = st :: body) (hst : ∀ i ds, st ≠ .call i ds) :
    Cpu.runCall s (.call j ds :: rest) = Cpu.runCall (s.setTop (s.top.expand (.call j ds :: rest))) (st :: body) := by
  have enter (n : Nat) (t : State) : State.enterCalls (n + 1) (st :: body) t = t.setTop (t.top.expand (st :: body)) := by
    cases st with
    | call i ds => exact absurd rfl (hst i ds)
    | _ => rfl
  have hnested : State.enterCalls 2 (.call j ds :: rest) s =
      State.enterCalls 2 (st :: body) (s.setTop (s.top.expand (.call j ds :: rest))) := by
    rw [enter 1, ← enter 0, ← hj]
    rfl
  simp only [Cpu.runCall, hnested, enter, State.top_setTop]
  rfl

end

/-! ### Runs -/

/-- The moves take s, at a CALL, to statement k of its expansion `body`, with the units of u and the locals `env`. -/
def State.Runs (s : State) (ms : List Move) (body : Prog) (k : Nat) (u : State) (env : List (LocalName × Word)) : Prop :=
  ∃ t, runMoves ms s = .next t ∧ s.HostAt u (s.inCall body env k) t

/-- Moves that end in a state go on with one more step from there. -/
theorem runMoves_snoc {m : Move} {t t' : State} : ∀ {ms : List Move} {s : State}, runMoves ms s = .next t →
    step { t with turn := m } = .next t' → runMoves (ms ++ [m]) s = .next t'
  | [], s, h, hs => by cases h; simp only [List.nil_append, runMoves, hs]
  | m' :: ms, s, h, hs => by
    simp only [runMoves, List.cons_append] at h ⊢
    split at h
    · exact runMoves_snoc h hs
    · cases h
    · cases h

section
variable {s u u' : State} {ms : List Move} {body : Prog} {k : Nat} {env env' : List (LocalName × Word)}

/-- The state in which the expansion of s's CALL is entered. -/
theorem State.AtCall.entered {i : Instr} {ds : List LocalName} (h : s.AtCall i ds) (hlt : 0 < body.length) :
    s.HostAt s (s.inCall body s.top.loc 0)
      (({ s with turn := .statement } : State).setTop (({ s with turn := .statement } : State).top.expand body)) := by
  obtain ⟨_, hf, hi, _⟩ := h
  have here : s.HostAt s s.top s := ⟨.refl s, hf, rfl, hi, rfl, rfl, rfl, fun _ => rfl⟩
  have hbody : s.inCall body s.top.loc 0 = s.top.expand body := by rw [State.inCall_of_lt hlt]; rfl
  rw [hbody]
  exact (here.turn .statement).setTop _

theorem State.AtCall.step {i : Instr} {ds : List LocalName} (h : s.AtCall i ds) (ho : i.isOperation = true) :
    Machine.step { s with turn := .statement } =
      Cpu.schedule (Cpu.outcome { s with turn := .statement } (Cpu.runCall { s with turn := .statement } (expansion s.params i ds))) := by
  obtain ⟨_, hf, hidle, hc⟩ := h
  exact step_call hf rfl hidle hc ho

/-- The first statement of the call, which is one step with the CALL. -/
theorem State.AtCall.begins {i : Instr} {ds : List LocalName} {st : Stmt} {rest : Prog} (h : s.AtCall i ds) (ho : i.isOperation = true)
    (hi : expansion s.params i ds = st :: rest) (hst : ∀ j ds, st ≠ .call j ds)
    (hdo : s.Does (st :: rest) 0 st s s.top.loc u' env') : s.Runs [.statement] (st :: rest) 1 u' env' := by
  obtain ⟨t', hdone, hat⟩ := hdo _ (h.entered (by simp))
  refine ⟨t'.scheduled, runMoves_snoc (ms := []) rfl ?_, hat.scheduled⟩
  rw [h.step ho, hi, runCall_cons _ _ _ hst]
  exact congrArg (fun r => Cpu.schedule (Cpu.outcome _ r)) hdone

/-- A first statement that is a CALL of one assignment. -/
theorem State.AtCall.begins_nested {i j : Instr} {ds ds' : List LocalName} {rest : Prog} {x : LocalName} {e : Expr} {v : Int}
    (h : s.AtCall i ds) (ho : i.isOperation = true) (hi : expansion s.params i ds = .call j ds' :: rest)
    (hj : expansion s.params j ds' = [.set x e]) (he : Expr.eval s.top.loc e = .ok v) :
    s.Runs [.statement] (.call j ds' :: rest) 1 s (writeLocal s.top.loc x (BitVec.ofInt 32 v)) := by
  have hat := h.entered (body := .call j ds' :: rest) (by simp)
  refine ⟨_, runMoves_snoc (ms := []) rfl ?_,
    (hat.setTop (s.inCall (.call j ds' :: rest) (writeLocal s.top.loc x (BitVec.ofInt 32 v)) 1)).scheduled⟩
  rw [h.step ho, hi]
  exact congrArg (fun r => Cpu.schedule (Cpu.outcome _ r)) ((runCall_nested (s := { s with turn := .statement }) hj (by simp)).trans
    ((runCall_assign (hat.eval he)).trans (congrArg _ (hat.assigned (by simp) x _))))

/-- One more statement of the call. -/
theorem State.Runs.stmt {st : Stmt} (h : s.Runs ms body k u env) (hk : body[k]? = some st) (hst : ∀ j ds, st ≠ .call j ds)
    (hdo : s.Does body k st u env u' env') : s.Runs (ms ++ [.statement]) body (k + 1) u' env' := by
  obtain ⟨t, hrun, hat⟩ := h
  have hat' := hat.turn .statement
  obtain ⟨t', hdone, hat''⟩ := hdo _ hat'
  exact ⟨t'.scheduled, runMoves_snoc hrun (step_of_done hat'.fault rfl hat'.idle (by rw [hat'.top]; exact State.inCall_current hk) hst hdone),
    hat''.scheduled⟩

/-- A CALL inside the call that is one assignment. -/
theorem State.Runs.nested {i : Instr} {ds : List LocalName} {x : LocalName} {e : Expr} {v : Int} (h : s.Runs ms body k u env)
    (hk : body[k]? = some (.call i ds)) (ho : i.isOperation = true) (hi : expansion u.params i ds = [.set x e])
    (he : Expr.eval env e = .ok v) : s.Runs (ms ++ [.statement]) body (k + 1) u (writeLocal env x (BitVec.ofInt 32 v)) := by
  obtain ⟨t, hrun, hat⟩ := h
  have hat' := hat.turn .statement
  have hlt := (List.getElem?_eq_some_iff.mp hk).1
  have hparams : t.params = u.params := hat.units.same_params
  refine ⟨_, runMoves_snoc hrun ?_, (hat'.setTop (s.inCall body (writeLocal env x (BitVec.ofInt 32 v)) (k + 1))).scheduled⟩
  rw [step_call hat'.fault rfl hat'.idle (by rw [hat'.top]; exact State.inCall_current hk) ho,
    show expansion t.params i ds = _ from hparams ▸ hi, runCall_assign (hat'.eval he), hat'.assigned hlt]
  rfl

/-- A call whose next statement is refused. -/
theorem State.Runs.faults {st : Stmt} {f : FaultRecord} (h : s.Runs ms body k u env) (hk : body[k]? = some st)
    (hst : ∀ j ds, st ≠ .call j ds) (hf : ∀ t, s.HostAt u (s.inCall body env k) t → Cpu.runStmt t st = .fault f) :
    s.CallFaults (ms ++ [.statement]) u f := by
  obtain ⟨t, hrun, hat⟩ := h
  have hat' := hat.turn .statement
  exact ⟨_, runMoves_snoc hrun (step_of_fault hat'.fault rfl hat'.idle (by rw [hat'.top]; exact State.inCall_current hk) hst (hf _ hat')),
    rfl, hat'.units⟩

/-- The engine completes between two statements (44_cordic.md R812). -/
theorem State.Runs.completes {c : Cordic} (h : s.Runs ms body k u env) (hc : u.cordic.complete = some c) :
    s.Runs (ms ++ [.cordic]) body k { u with cordic := c } env := by
  obtain ⟨t, hrun, hat⟩ := h
  obtain ⟨pwm, adc1, adc2, paired, dma, mux, cordic, xform, intc, ram, trim, vec, params⟩ := hat.units
  have hcordic : t.cordic.complete = some c := cordic ▸ hc
  refine ⟨_, runMoves_snoc hrun (t' := State.scheduled { t with turn := .cordic, cordic := c }) ?_, ?_⟩
  · simp only [step, hat.fault, State.moveOrStay, State.agentStep, State.cordicStep, hcordic, Option.getD_some]
  · exact ⟨⟨pwm, adc1, adc2, paired, dma, mux, rfl, xform, intc, ram, trim, vec, params⟩, hat.fault, hat.top, hat.idle, hat.halted,
      hat.length, hat.tail, hat.bg⟩

/-- The end of a call. -/
theorem State.Runs.ends {results : List (LocalName × Word)} (h : s.Runs ms body body.length u env)
    (hresults : ∀ r ∈ results, findLocal env r.1 = some r.2)
    (hlocals : ∀ n : Nat, (∀ r ∈ results, r.1 ≠ .user n) → findLocal env (.user n) = findLocal s.top.loc (.user n)) :
    s.CallEnds ms u results := by
  obtain ⟨t, hrun, hat⟩ := h
  have htop := hat.top.trans State.inCall_end
  refine ⟨t, hrun, hat.fault, hat.units, ?_, ?_, ?_, ?_, ?_, hat.halted, hat.length, hat.tail, hat.bg, ?_, ?_⟩ <;> rw [htop]
  case refine_6 => exact hresults
  case refine_7 => exact hlocals
  all_goals rfl

end

end Sys2Proof.Machine
end

section
/-! SUPPORT. The PWM operations: what their calls do in one step, and what they leave as a whole (41_pwm.md R550 to R554). -/
namespace Sys2Proof.Machine

/-! ### Values of the operations' expressions -/

section
variable {env : List (LocalName × Word)} {a b c : Expr} {x y z : Int}

theorem Expr.eval_bin (op : BinOp) (ha : Expr.eval env a = .ok x) (hb : Expr.eval env b = .ok y) :
    Expr.eval env (.bin op a b) = .ok (evalBin op x y) := by
  simp only [Expr.eval, ha, hb]

theorem Expr.eval_loc {n : LocalName} {v : Word} (h : findLocal env n = some v) : Expr.eval env (.loc n) = .ok v.toNat := by
  simp only [Expr.eval, h]

theorem Int.ofBool_bne_zero (p : Bool) : (Int.ofBool p != 0) = p := by cases p <;> rfl

theorem Expr.eval_gtE (ha : Expr.eval env a = .ok x) (n : Int) : Expr.eval env (gtE a n) = .ok (Int.ofBool (decide (n < x))) :=
  eval_bin .gt ha rfl

theorem Expr.eval_ltE (ha : Expr.eval env a = .ok x) (n : Int) : Expr.eval env (ltE a n) = .ok (Int.ofBool (decide (x < n))) :=
  eval_bin .lt ha rfl

/-- The check of an argument against its two bounds. -/
theorem Expr.eval_outside (ha : Expr.eval env a = .ok x) (lo hi : Int) :
    Expr.eval env (.bin .boolOr (ltE a lo) (gtE a hi)) = .ok (Int.ofBool (decide (x < lo ∨ hi < x))) := by
  rw [eval_bin .boolOr (eval_ltE ha lo) (eval_gtE ha hi)]
  simp only [evalBin, Int.ofBool_bne_zero, Bool.decide_or]

/-- The check of three arguments against one bound. -/
theorem Expr.eval_anyAbove (ha : Expr.eval env a = .ok x) (hb : Expr.eval env b = .ok y) (hc : Expr.eval env c = .ok z) (n : Int) :
    Expr.eval env (or3E (gtE a n) (gtE b n) (gtE c n)) = .ok (Int.ofBool (decide (n < x ∨ n < y ∨ n < z))) := by
  rw [or3E, eval_bin .boolOr (eval_bin .boolOr (eval_gtE ha n) (eval_gtE hb n)) (eval_gtE hc n)]
  simp only [evalBin, Int.ofBool_bne_zero, Bool.decide_or, Bool.or_assoc]

theorem Expr.eval_max3E (ha : Expr.eval env a = .ok x) (hb : Expr.eval env b = .ok y) (hc : Expr.eval env c = .ok z) :
    Expr.eval env (max3E a b c) = .ok (max (max x y) z) := by
  rw [max3E, eval_bin .max (eval_bin .max ha hb) hc]
  simp only [evalBin, max_def]
  rfl

end

theorem Expr.eval_orE {env : List (LocalName × Word)} {a b : Expr} {m n : Nat} (ha : Expr.eval env a = .ok m)
    (hb : Expr.eval env b = .ok n) : Expr.eval env (orE a b) = .ok (m ||| n : Nat) :=
  eval_bin .bitOr ha hb

theorem findLocal_other (env : List (LocalName × Word)) {x y : LocalName} (v : Word) (h : x ≠ y) :
    findLocal (writeLocal env x v) y = findLocal env y := by
  rw [findLocal_writeLocal, if_neg h]

theorem findLocal_same (env : List (LocalName × Word)) (x : LocalName) (v : Word) : findLocal (writeLocal env x v) x = some v := by
  rw [findLocal_writeLocal, if_pos rfl]

/-- A local's value, when it is a number of a word. -/
theorem Expr.eval_assigned (env : List (LocalName × Word)) (x : LocalName) {n : Nat} (hn : n < 4294967296) :
    Expr.eval (writeLocal env x (BitVec.ofInt 32 n)) (.loc x) = .ok n := by
  rw [Expr.eval_loc (findLocal_same _ _ _), BitVec.ofInt_natCast, BitVec.toNat_ofNat, Nat.mod_eq_of_lt (by omega)]

/-- A call that begins with an argument check, by what the check says. -/
theorem outcome_check {s : State} {c info : Expr} {code : FaultCode} {next : Stmt} {rest : Prog} {bad : Prop} [Decidable bad]
    (h : s.eval c = .ok (Int.ofBool (decide bad))) :
    (¬bad → Cpu.outcome s (Cpu.runCall s (.brFault c code info :: next :: rest)) =
      .next (s.entered (.brFault c code info :: next :: rest) 1)) ∧
    (bad → ∀ {n : Int}, s.eval info = .ok n →
      Cpu.outcome s (Cpu.runCall s (.brFault c code info :: next :: rest)) = .next (s.raise ⟨code, .num n⟩)) := by
  rw [runCall_check s c info code next rest _ h]
  refine ⟨fun hgood => if_pos (by simp [Int.ofBool, hgood]), fun hbad n hn => ?_⟩
  rw [if_neg (by simp [Int.ofBool, hbad]), hn]

/-- The ticks of `DT_NS` at `F_TIM`, rounded up and at most 255 (41_pwm.md R552). -/
def deadtimeTicks (p : Params) : Nat := min 255 ((p.fTim * p.dtNs + 999999999) / 1000000000)

theorem eval_deadtime (p : Params) (env : List (LocalName × Word)) :
    Expr.eval env (.bin .min (.num 255)
      (.bin .div (addE (mulE (.num p.fTim) (.num p.dtNs)) (.num 999999999)) (.num 1000000000))) = .ok (deadtimeTicks p : Int) := by
  have hquotient : Expr.eval env (.bin .div (addE (mulE (.num p.fTim) (.num p.dtNs)) (.num 999999999)) (.num 1000000000)) =
      .ok ((p.fTim * p.dtNs + 999999999) / 1000000000 : Nat) := by
    simp only [Expr.eval, addE, mulE, evalBin, intDiv]
    rw [if_pos ⟨by positivity, by decide⟩]
    rfl
  rw [Expr.eval_bin .min rfl hquotient]
  simp only [evalBin, deadtimeTicks]
  split <;> congr 1 <;> omega

/-- A call that begins with the read of a register without a side effect. -/
theorem runCall_rd {s : State} {x : LocalName} {r : Reg} {v : Word} {rest : Prog} (hp : s.params.wf = true)
    (hr : r.present s.params = true) (hv : ∀ t, s.SameUnits t → t.regRead r = .value v t) :
    Cpu.runCall s (.rd x .b4 (regE s.params r) :: rest) =
      .done ((s.setTop (s.top.expand (.rd x .b4 (regE s.params r) :: rest))).loaded x v) := by
  rw [runCall_cons s _ _ (by simp)]
  refine runStmt_rd _ _ x .b4 _ (r.addr s.params) v .word (current_expand _ _ _) (State.evalWord_regE _ _ _) ?_
  simp only [State.hostRead, State.setTop_params, locate_word s.params hp r hr]
  exact congrArg _ (hv _ (.refl s))

/-- Settles O36: each call's first statement is a check, an assignment or a read of `BDTR`. -/
theorem pwmOperationCalls : Obligations.PwmOperationCalls := by
  unfold Obligations.PwmOperationCalls
  refine ⟨by decide, fun s hp => ⟨fun p v hv hlo hhi => ?_, fun p v hv hbad => ?_, ?_, ?_, fun a b c x y z ha hb hc hx hy hz => ?_,
    fun a b c x y z ha hb hc hbad => ?_⟩⟩
  · exact (outcome_check (Expr.eval_outside hv 2 65536)).1 (by omega)
  · exact (outcome_check (Expr.eval_outside hv 2 65536)).2 hbad hv
  · have hrun := runCall_assign (t := s) (x := destOr s.callDests 0 .pwmDeadtimeTicksDt) (eval_deadtime s.params s.top.loc)
    rw [BitVec.ofInt_natCast] at hrun
    exact congrArg (Cpu.outcome s) hrun
  · exact congrArg (Cpu.outcome s) (runCall_rd (r := .pwm .bdtr) hp rfl fun t h => by rw [State.regRead, h.1])
  · exact (outcome_check (Expr.eval_anyAbove ha hb hc 65535)).1 (by omega)
  · exact (outcome_check (Expr.eval_anyAbove ha hb hc 65535)).2 hbad (Expr.eval_max3E ha hb hc)

end Sys2Proof.Machine
end

section
/-! SUPPORT. `PWM_CONFIGURE` and `PWM_SET_DUTY` as whole calls: a run of register writes is the run of the unit's write rules, which their
rules' postconditions compute (41_pwm.md R550, R551, R554). -/
namespace Sys2Proof.Machine

/-! ### Runs of writes to the unit -/

/-- The unit after writes of words to its registers, one after another. -/
def Pwm.writeAll (p : Pwm) : List (PwmReg × Word) → Except FaultRecord Pwm
  | [] => .ok p
  | (r, v) :: ws =>
    match p.write r v with
    | .error f => .error f
    | .ok q => Pwm.writeAll q ws

/-- The words of a run of writes. -/
def writeWords (ws : List ((PwmReg × Expr) × Int)) : List (PwmReg × Word) := ws.map fun w => (w.1.1, BitVec.ofInt 32 w.2)

/-- The statement that writes an expression to a register of the unit. -/
def pwmWr (p : Params) (w : PwmReg × Expr) : Stmt := .wr .b4 (regE p (.pwm w.1)) w.2

section
variable {s u : State} {ms : List Move} {body : Prog} {k : Nat} {env : List (LocalName × Word)}

theorem State.Does.pwmWrite {q : Pwm} {r : PwmReg} {e : Expr} {v : Int} (hk : k < body.length) (hp : u.params.wf = true)
    (he : Expr.eval env e = .ok v) (hw : u.pwm.write r (BitVec.ofInt 32 v) = .ok q) :
    s.Does body k (pwmWr u.params (r, e)) u env { u with pwm := q } env := by
  refine .write hk hp rfl he fun t ht => ?_
  obtain ⟨pwm, adc1, adc2, paired, dma, mux, cordic, xform, intc, ram, trim, vec, params⟩ := ht
  exact ⟨{ t with pwm := q }, by rw [State.regWrite, State.pwmWrite, pwm, hw],
    rfl, adc1, adc2, paired, dma, mux, cordic, xform, intc, ram, trim, vec, params⟩

/-- A run of writes in the call, each of an expression with its value. -/
theorem State.Runs.pwmWrites {p : Params} (hp : p.wf = true) {post : Prog} {q : Pwm} :
    ∀ {ws : List ((PwmReg × Expr) × Int)} {ms : List Move} {k : Nat} {u : State}, s.Runs ms body k u env → u.params = p →
      body.drop k = ws.map (fun w => pwmWr p w.1) ++ post → (∀ w ∈ ws, Expr.eval env w.1.2 = .ok w.2) →
      u.pwm.writeAll (writeWords ws) = .ok q →
      s.Runs (ms ++ List.replicate ws.length .statement) body (k + ws.length) { u with pwm := q } env
  | [], ms, k, u, h, _, _, _, hq => by
    cases hq
    simpa using h
  | ((r, e), v) :: ws, ms, k, u, h, hu, hdrop, heval, hq => by
    subst hu
    have hk : body[k]? = some (pwmWr u.params (r, e)) := by
      rw [← Nat.add_zero k, ← List.getElem?_drop, hdrop]
      rfl
    have hrest : body.drop (k + 1) = ws.map (fun w => pwmWr u.params w.1) ++ post := by
      rw [← List.drop_drop, hdrop]
      rfl
    simp only [writeWords, List.map_cons, Pwm.writeAll] at hq
    split at hq
    · cases hq
    · rename_i p' hw
      have hstep := h.stmt hk nofun
        (.pwmWrite (List.getElem?_eq_some_iff.mp hk).1 hp (heval _ (List.mem_cons_self ..)) hw)
      have hruns := State.Runs.pwmWrites hp hstep rfl hrest (fun w hw => heval w (List.mem_cons_of_mem _ hw)) hq
      rw [List.append_assoc, show [Move.statement] ++ List.replicate ws.length .statement = List.replicate (ws.length + 1) .statement
        from rfl, Nat.add_assoc, Nat.add_comm 1] at hruns
      exact hruns

end

/-! ### `PWM_CONFIGURE` -/

/-- 0x3EEE sets mode 6 of the three outputs and every preload bit. -/
theorem Pwm.writeCcmr_pwm1 (p : Pwm) : p.writeCcmr 0x3EEE#32 = .ok { p with ccmr := 0x3EEE } := rfl

/-- The preload values after all five are written. -/
theorem ccr_set_all (c : Vector (BitVec 16) 5) (x0 x1 x2 x3 x4 : BitVec 16) :
    ((((c.set 0 x0).set 1 x1).set 2 x2).set 3 x3).set 4 x4 = #v[x0, x1, x2, x3, x4] := by
  refine Vector.ext fun i hi => ?_
  interval_cases i <;> simp

/-- The writes of R550 before the dead time is known, with their values: the counter stopped, its mode, period and outputs set. -/
def configureSetup (p : Nat) : List ((PwmReg × Expr) × Int) :=
  [((.cr1, .num 0x0), 0), ((.cr2, .num 0x0), 0), ((.cr1, .num 0x2), 2), ((.arr, subE (.num p) (.num 1)), p - 1), ((.psc, .num 0x0), 0),
    ((.rcr, .num 0x1), 1), ((.ccmr, .num 0x3EEE), 0x3EEE), ((.ccer, .num 0x3F), 0x3F)]

/-- The writes after it, with dead time n: dead time, compare values, triggers, then the update event and the start (R550, R551). -/
def configureStart (p n : Nat) : List ((PwmReg × Expr) × Int) :=
  [((.bdtr, orE (.loc .pwmConfigureDt) (.num 0x400)), (n ||| 0x400 : Nat)), ((.ccr1, .num 0x0), 0), ((.ccr2, .num 0x0), 0),
    ((.ccr3, .num 0x0), 0), ((.ccr4, subE (.num p) (.num 2)), p - 2), ((.ccr5, .num 0x1), 1), ((.cr2, .num 0xF), 0xF),
    ((.egr, .num 0x1), 1), ((.sr, .num 0x1), 1), ((.cr1, .num 0x3), 3)]

theorem eval_configureSetup (env : List (LocalName × Word)) (p : Nat) : ∀ w ∈ configureSetup p, Expr.eval env w.1.2 = .ok w.2 := by
  simp [configureSetup, Expr.eval, subE, evalBin]

theorem eval_configureStart {env : List (LocalName × Word)} {n : Nat} (hn : Expr.eval env (.loc .pwmConfigureDt) = .ok n) (p : Nat) :
    ∀ w ∈ configureStart p n, Expr.eval env w.1.2 = .ok w.2 :=
  List.forall_mem_cons.mpr ⟨Expr.eval_orE hn (Expr.eval.eq_1 env 0x400), by simp [Expr.eval, subE, evalBin]⟩

/-- A register field of 16 bits takes a number modulo 2^16. -/
theorem field16_ofInt {v : Int} {n : Nat} (h : v = n) : Word.field (BitVec.ofInt 32 v) 0 16 = BitVec.ofNat 16 n := by
  subst h
  apply BitVec.eq_of_toNat_eq
  simp [Word.field, BitVec.ofInt_natCast]

/-- The word of `BDTR` that R550 writes: the dead time, OSSI set, MOE clear. -/
theorem deadtime_word {n : Nat} (hn : n ≤ 255) {w : Word} (h : w = BitVec.ofInt 32 (n ||| 0x400 : Nat)) :
    Word.field w 0 8 = BitVec.ofNat 8 n ∧ Word.bit w 10 = true ∧ Word.bit w 15 = false := by
  have hall : ∀ d : BitVec 8, Word.field (BitVec.ofInt 32 (d.toNat ||| 0x400 : Nat)) 0 8 = d ∧
      Word.bit (BitVec.ofInt 32 (d.toNat ||| 0x400 : Nat)) 10 = true ∧
      Word.bit (BitVec.ofInt 32 (d.toNat ||| 0x400 : Nat)) 15 = false := by decide
  have hd := hall (BitVec.ofNat 8 n)
  rwa [BitVec.toNat_ofNat, Nat.mod_eq_of_lt (by omega), ← h] at hd

theorem deadtimeTicks_le (p : Params) : deadtimeTicks p ≤ 255 := Nat.min_le_left _ _

theorem Pwm.configure_setup (p : Pwm) {n : Nat} (hn : 2 ≤ n) : p.writeAll (writeWords (configureSetup n)) = .ok { p with
    cen := false, cms := true, dir := false, cr2 := 0, arr := BitVec.ofNat 16 (n - 1), psc := 0, rcr := 1, ccmr := 0x3EEE
    ccer := 0x3F } := by
  rw [← field16_ofInt (v := n - 1) (n := n - 1) (by omega)]
  simp [writeWords, configureSetup, Pwm.writeAll, Pwm.write, Pwm.writeCr1, Pwm.writeCr2, Pwm.writeArr, Pwm.writePsc, Pwm.writeRcr,
    Pwm.writeCcmr_pwm1, Pwm.writeCcer, Word.bit, Word.field]

theorem Pwm.configure_start {p : Pwm} (hcen : p.cen = false) (hcms : p.cms = true) {n d : Nat} (hn : 2 ≤ n) (hd : d ≤ 255) :
    p.writeAll (writeWords (configureStart n d)) = .ok { p with
      dtg := BitVec.ofNat 8 d, ossi := true, moe := false, cr2 := 0xF, ccr := #v[0, 0, 0, BitVec.ofNat 16 (n - 2), 1]
      ccrAct := #v[0, 0, 0, BitVec.ofNat 16 (n - 2), 1], pscAct := p.psc, rep := p.rcr
      uif := false, cnt := 0, dir := false, pscCnt := 0, cen := true } := by
  obtain ⟨hdtg, hossi, hmoe⟩ := deadtime_word hd rfl
  rw [← field16_ofInt (v := n - 2) (n := n - 2) (by omega)]
  simp only [writeWords, configureStart, List.map_cons, List.map_nil]
  generalize BitVec.ofInt 32 (d ||| 0x400 : Nat) = w at hdtg hossi hmoe ⊢
  simpa [Pwm.writeAll, Pwm.write, Pwm.writeBdtr, Pwm.writeCcr, Pwm.writeCr2, Pwm.writeEgr, Pwm.updateEvent, Pwm.writeSr, Pwm.writeCr1,
    hcen, hcms, Word.bit, Word.field, ccr_set_all] using And.intro hdtg (And.intro hossi hmoe)

/-- Settles O41: the check passes, and the two runs of writes around the dead time's assignment leave the postcondition. -/
theorem pwmConfigureRun : Obligations.PwmConfigureRun := by
  unfold Obligations.PwmConfigureRun
  intro s p ds h hlo hhi
  refine ⟨?_, fun k => ⟨rfl, rfl⟩⟩
  have hp := h.1
  have hdead := eval_deadtime s.params s.top.loc
  have hticks := deadtimeTicks_le s.params
  have hcheck : Expr.eval s.top.loc (.bin .boolOr (ltE (.num p) 2) (gtE (.num p) 65536)) = .ok 0 :=
    (Expr.eval_outside rfl 2 65536).trans (by rw [decide_eq_false (by omega)]; rfl)
  have hchecked := h.begins rfl rfl nofun (.check (Nat.succ_pos _) .pwmBadArg (.num p) hcheck)
  have hsetup := hchecked.pwmWrites hp rfl rfl (eval_configureSetup _ p) (s.pwm.configure_setup hlo)
  have hassigned := hsetup.nested (x := .pwmConfigureDt) rfl rfl rfl hdead
  have hloc := Expr.eval_assigned s.top.loc .pwmConfigureDt (n := deadtimeTicks s.params) (by omega)
  have hstart := hassigned.pwmWrites hp rfl rfl (eval_configureStart hloc p) (Pwm.configure_start rfl rfl hlo hticks)
  exact hstart.ends (List.forall_mem_nil _) fun _ _ => findLocal_other _ _ (by simp)

/-! ### `PWM_SET_DUTY` -/

/-- A duty's share of the period of `arr` + 1 ticks (41_pwm.md R554). -/
def scaledDuty (arr : BitVec 16) (d : Nat) : Nat := d * (arr.toNat + 1) / 65536

theorem scaledDuty_le {d : Nat} (hd : d ≤ 65535) (arr : BitVec 16) : scaledDuty arr d ≤ arr.toNat := by
  have hmul : d * (arr.toNat + 1) ≤ 65535 * (arr.toNat + 1) := Nat.mul_le_mul_right _ hd
  unfold scaledDuty
  omega

/-- A scaled duty fits its register. -/
theorem toNat_ofNat_scaledDuty {d : Nat} (hd : d ≤ 65535) (arr : BitVec 16) :
    (BitVec.ofNat 16 (scaledDuty arr d)).toNat = scaledDuty arr d := by
  have hle := scaledDuty_le hd arr
  rw [BitVec.toNat_ofNat, Nat.mod_eq_of_lt (by omega)]

theorem eval_dutyE {env : List (LocalName × Word)} {arr : BitVec 16} (h : Expr.eval env (.loc .pwmSetDutyN) = .ok (arr.toNat + 1 : Nat))
    (d : Nat) : Expr.eval env (dutyE (.num d)) = .ok (scaledDuty arr d : Int) := by
  rw [dutyE, shrE, mulE, Expr.eval_bin .shr (Expr.eval_bin .mul rfl h) (Expr.eval.eq_1 env 16)]
  simp [evalBin, intShr, scaledDuty]

/-- The writes of R554, with their values. -/
def dutyWrites (arr : BitVec 16) (a b c : Nat) : List ((PwmReg × Expr) × Int) :=
  [((.ccr1, dutyE (.num a)), scaledDuty arr a), ((.ccr2, dutyE (.num b)), scaledDuty arr b), ((.ccr3, dutyE (.num c)), scaledDuty arr c)]

theorem eval_dutyWrites {env : List (LocalName × Word)} {arr : BitVec 16}
    (h : Expr.eval env (.loc .pwmSetDutyN) = .ok (arr.toNat + 1 : Nat)) (a b c : Nat) :
    ∀ w ∈ dutyWrites arr a b c, Expr.eval env w.1.2 = .ok w.2 := by
  simp [dutyWrites, eval_dutyE h]

/-- The preload values after the first three are written. -/
theorem ccr_set_duties (ccr : Vector (BitVec 16) 5) (x0 x1 x2 : BitVec 16) :
    ((ccr.set 0 x0).set 1 x1).set 2 x2 = #v[x0, x1, x2, ccr[3], ccr[4]] := by
  refine Vector.ext fun i hi => ?_
  interval_cases i <;> simp

/-- A compare preload register takes a scaled duty: the range check of R510 passes. -/
theorem Pwm.writeCcr_scaledDuty (p : Pwm) (k : Fin 5) {d : Nat} (hd : d ≤ 65535) :
    p.writeCcr k (BitVec.ofInt 32 (scaledDuty p.arr d)) = .ok { p with ccr := p.ccr.set k (BitVec.ofNat 16 (scaledDuty p.arr d)) } := by
  have hfield := field16_ofInt (n := scaledDuty p.arr d) rfl
  rw [Pwm.writeCcr_ok fun _ => ?_, ← Word.field, hfield]
  exact (congrArg BitVec.toNat hfield).trans_le ((toNat_ofNat_scaledDuty hd _).trans_le (scaledDuty_le hd _))

theorem Pwm.set_duties (p : Pwm) {a b c : Nat} (ha : a ≤ 65535) (hb : b ≤ 65535) (hc : c ≤ 65535) :
    p.writeAll (writeWords (dutyWrites p.arr a b c)) = .ok { p with
      ccr := #v[BitVec.ofNat 16 (scaledDuty p.arr a), BitVec.ofNat 16 (scaledDuty p.arr b), BitVec.ofNat 16 (scaledDuty p.arr c),
        p.ccr[3], p.ccr[4]] } := by
  rw [← ccr_set_duties]
  simp only [writeWords, dutyWrites, List.map_cons, List.map_nil, Pwm.writeAll, Pwm.write, Pwm.writeCcr_scaledDuty _ _ ha]
  rw [Pwm.writeCcr_scaledDuty { p with ccr := _ } 1 hb]
  dsimp only
  rw [Pwm.writeCcr_scaledDuty { p with ccr := _ } 2 hc]
  rfl

/-- Settles O42: the check passes, `R` and `n` become ARR and ARR + 1, and the three writes are accepted. -/
theorem pwmSetDutyRun : Obligations.PwmSetDutyRun := by
  unfold Obligations.PwmSetDutyRun
  intro s a b c ds h ha hb hc
  refine ⟨fun d hd => ?_, ?_⟩
  · have hd : d ≤ 65535 := by
      simp only [List.mem_cons, List.not_mem_nil, or_false] at hd
      omega
    exact ⟨toNat_ofNat_scaledDuty hd s.pwm.arr, (toNat_ofNat_scaledDuty hd s.pwm.arr).trans_le (scaledDuty_le hd _)⟩
  have hp := h.1
  have hcheck : Expr.eval s.top.loc (or3E (gtE (.num a) 65535) (gtE (.num b) 65535) (gtE (.num c) 65535)) = .ok 0 :=
    (Expr.eval_anyAbove rfl rfl rfl 65535).trans (by rw [decide_eq_false (by omega)]; rfl)
  have hchecked := h.begins rfl rfl nofun (.check (Nat.succ_pos _) .pwmBadArg (max3E (.num a) (.num b) (.num c)) hcheck)
  have hread := hchecked.stmt rfl nofun
    (.read (r := .pwm .arr) (v := s.pwm.arr.setWidth 32) rfl hp rfl fun t ht => ⟨t, by rw [State.regRead, ht.1]; rfl, ht⟩)
  have hr : Expr.eval (writeLocal s.top.loc .pwmSetDutyR (s.pwm.arr.setWidth 32)) (.loc .pwmSetDutyR) = .ok s.pwm.arr.toNat := by
    rw [Expr.eval_loc (findLocal_same _ _ _), BitVec.toNat_setWidth, Nat.mod_eq_of_lt (by omega)]
  have hassigned := hread.stmt rfl nofun (.assign (x := .pwmSetDutyN) (by simp) (Expr.eval_bin .add hr (Expr.eval.eq_1 _ 1)))
  have hn := Expr.eval_assigned (writeLocal s.top.loc .pwmSetDutyR (s.pwm.arr.setWidth 32)) .pwmSetDutyN (n := s.pwm.arr.toNat + 1)
    (by omega)
  have hwritten := hassigned.pwmWrites hp rfl rfl (eval_dutyWrites hn a b c) (s.pwm.set_duties ha hb hc)
  exact hwritten.ends (List.forall_mem_nil _) fun _ _ =>
    (findLocal_other _ _ (by simp)).trans (findLocal_other _ _ (by simp))

end Sys2Proof.Machine
end

section
/-! SUPPORT. `PWM_ENABLE_OUTPUTS`, `CORDIC_INIT`, `CORDIC_REQUEST` and `CORDIC_COLLECT` as whole calls (41_pwm.md R553, 44_cordic.md R830 to
R833). -/
namespace Sys2Proof.Machine

/-! ### Accesses of the CORDIC unit in a call -/

section
variable {s u : State} {body : Prog} {k : Nat} {env : List (LocalName × Word)}

theorem State.Does.cordicWrite {c : Cordic} {r : CordicReg} {e : Expr} {v : Int} (hk : k < body.length) (hp : u.params.wf = true)
    (he : Expr.eval env e = .ok v) (hw : u.cordic.write r (BitVec.ofInt 32 v) = .ok c) :
    s.Does body k (.wr .b4 (regE u.params (.cordic r)) e) u env { u with cordic := c } env := by
  refine .write hk hp rfl he fun t ht => ?_
  obtain ⟨pwm, adc1, adc2, paired, dma, mux, cordic, xform, intc, ram, trim, vec, params⟩ := ht
  exact ⟨{ t with cordic := c }, by rw [State.regWrite, State.cordicWrite, cordic, hw],
    pwm, adc1, adc2, paired, dma, mux, rfl, xform, intc, ram, trim, vec, params⟩

/-- A read of `RDATA` with a result pending takes it (44_cordic.md R814). -/
theorem State.Does.cordicResult {x : LocalName} (hk : body[k]? = some (.rd x .b4 (regE u.params (.cordic .rdata))))
    (hp : u.params.wf = true) (hbusy : u.cordic.busy = false) (hleft : u.cordic.left ≠ 0) :
    s.Does body k (.rd x .b4 (regE u.params (.cordic .rdata))) u env { u with cordic := u.cordic.pop }
      (writeLocal env x u.cordic.nextResult) := by
  refine .read hk hp rfl fun t ht => ?_
  obtain ⟨pwm, adc1, adc2, paired, dma, mux, cordic, xform, intc, ram, trim, vec, params⟩ := ht
  exact ⟨{ t with cordic := u.cordic.pop }, by rw [State.regRead, State.readRdata, cordic, hbusy, if_neg nofun, if_neg hleft],
    pwm, adc1, adc2, paired, dma, mux, rfl, xform, intc, ram, trim, vec, params⟩

/-- The state with engine c. -/
def State.setCordic (s : State) (c : Cordic) : State := { s with cordic := c }

variable {ms : List Move} {c c' : Cordic}

/-- A write that the engine accepts, in a call that has changed the engine only. -/
theorem State.Runs.cordicWrite {r : CordicReg} {e : Expr} {v : Int} (h : s.Runs ms body k (s.setCordic c) env)
    (hk : body[k]? = some (.wr .b4 (regE s.params (.cordic r)) e)) (hp : s.params.wf = true) (he : Expr.eval env e = .ok v)
    (hw : c.write r (BitVec.ofInt 32 v) = .ok c') : s.Runs (ms ++ [.statement]) body (k + 1) (s.setCordic c') env :=
  h.stmt hk nofun (.cordicWrite (u := s.setCordic c) (List.getElem?_eq_some_iff.mp hk).1 hp he hw)

theorem State.Runs.cordicResult {x : LocalName} (h : s.Runs ms body k (s.setCordic c) env)
    (hk : body[k]? = some (.rd x .b4 (regE s.params (.cordic .rdata)))) (hp : s.params.wf = true) (hbusy : c.busy = false)
    (hleft : c.left ≠ 0) : s.Runs (ms ++ [.statement]) body (k + 1) (s.setCordic c.pop) (writeLocal env x c.nextResult) :=
  h.stmt hk nofun (.cordicResult (u := s.setCordic c) hk hp hbusy hleft)

end

theorem ofInt_toNat (w : Word) : BitVec.ofInt 32 w.toNat = w := by
  rw [BitVec.ofInt_natCast, BitVec.ofNat_toNat, BitVec.setWidth_eq]

/-- A local's value is its word's. -/
theorem Expr.eval_written (env : List (LocalName × Word)) (x : LocalName) (w : Word) :
    Expr.eval (writeLocal env x w) (.loc x) = .ok w.toNat :=
  eval_loc (findLocal_same _ _ _)

/-! ### `PWM_ENABLE_OUTPUTS` -/

/-- `BDTR` written back with MOE set. -/
theorem Pwm.writeBdtr_read (p : Pwm) :
    p.writeBdtr (BitVec.ofInt 32 ((p.read .bdtr).toNat ||| 0x8000 : Nat)) = { p with moe := true } := by
  have hword : BitVec.ofInt 32 ((p.read .bdtr).toNat ||| 0x8000 : Nat) = p.read .bdtr ||| 0x8000#32 := by
    rw [← ofInt_toNat (p.read .bdtr ||| 0x8000#32), BitVec.toNat_or]
    rfl
  have hfields : ∀ (d : BitVec 8) (o m : Bool), let w := (0#16 ++ BitVec.ofBool m ++ 0#4 ++ BitVec.ofBool o ++ 0#2 ++ d) ||| 0x8000#32
      Word.field w 0 8 = d ∧ Word.bit w 10 = o ∧ Word.bit w 15 = true := by decide
  obtain ⟨hdtg, hossi, hmoe⟩ := hfields p.dtg p.ossi p.moe
  rw [hword, p.read_bdtr, Pwm.writeBdtr, hdtg, hossi, hmoe]

theorem pwmEnableOutputs_ends {s : State} {ds : List LocalName} (h : s.AtCall .pwmEnableOutputs ds) :
    s.CallEnds (List.replicate 2 .statement) { s with pwm := { s.pwm with moe := true } } [] := by
  have hp := h.1
  have hread := h.begins rfl rfl nofun
    (.read (r := .pwm .bdtr) (v := s.pwm.read .bdtr) rfl hp rfl fun t ht => ⟨t, by rw [State.regRead, ht.1], ht⟩)
  have hmoe := Expr.eval_orE (Expr.eval_written s.top.loc .pwmEnableOutputsB (s.pwm.read .bdtr)) (Expr.eval.eq_1 _ 0x8000)
  have hwritten := hread.stmt rfl nofun (.pwmWrite (r := .bdtr) (by simp) hp hmoe (congrArg Except.ok s.pwm.writeBdtr_read))
  exact hwritten.ends (List.forall_mem_nil _) fun _ _ => findLocal_other _ _ (by simp)

/-! ### `CORDIC_INIT` -/

/-- The mode word of R830 without the argument count: sine, the precision, two results. -/
def cordicMode (precision : Nat) : Nat := 0x1 ||| precision * 2 ^ 4 ||| 1 * 2 ^ 19

theorem eval_shlE (env : List (LocalName × Word)) (m n : Nat) :
    Expr.eval env (shlE (.num m) (.num n)) = .ok (m * 2 ^ n : Nat) := by
  simp [shlE, Expr.eval, evalBin, intShl]

theorem eval_cordicModeE (env : List (LocalName × Word)) (p : Params) :
    Expr.eval env (cordicModeE p) = .ok (cordicMode p.cordicPrecision : Int) :=
  Expr.eval_orE (Expr.eval_orE (Expr.eval.eq_1 env 1) (eval_shlE env _ 4)) (eval_shlE env 1 19)

/-- A write of the mode word, also with the argument count's bit, to an engine with nothing outstanding. -/
theorem Cordic.writeCsr_mode {k : Cordic} (hbusy : k.busy = false) (hleft : k.left = 0) (hlatched : k.latched = false) {n : Nat}
    (hlo : 1 ≤ n) (hhi : n ≤ 15) {v : Int} (two : Bool) (hv : v = (cordicMode n ||| bif two then 1 * 2 ^ 20 else 0 : Nat)) :
    k.writeCsr (BitVec.ofInt 32 v) = .ok { k with func := 1, precision := BitVec.ofNat 4 n, nres := true, nargs := two } := by
  have hfields : ∀ d : BitVec 4, ∀ b : Bool, let w := BitVec.ofInt 32 (cordicMode d.toNat ||| bif b then 1 * 2 ^ 20 else 0 : Nat)
      Word.field w 0 4 = 1 ∧ Word.field w 4 4 = d ∧ Word.bit w 19 = true ∧ Word.bit w 20 = b := by decide
  have hn : (BitVec.ofNat 4 n).toNat = n := by rw [BitVec.toNat_ofNat, Nat.mod_eq_of_lt (by omega)]
  have hne : (BitVec.ofNat 4 n == 0) = false := by
    refine beq_eq_false_iff_ne.mpr fun h => ?_
    rw [h] at hn
    simp at hn
    omega
  obtain ⟨hfunc, hprec, hnres, hnargs⟩ := hfields (BitVec.ofNat 4 n) two
  rw [hn, ← hv] at hfunc hprec hnres hnargs
  rw [Cordic.writeCsr, hbusy, hleft, hlatched, hfunc, hprec, hnres, hnargs, hne]
  rfl

section
variable {k : Cordic} (v : Word)

theorem Cordic.writeWdata_overrun (h : k.busy = true ∨ k.left ≠ 0) : k.writeWdata v = .error (FaultRecord.ofWord .cordicOverrun v) :=
  if_pos (by simpa using h)

theorem Cordic.writeWdata_single (hbusy : k.busy = false) (hleft : k.left = 0) (hargs : k.nargs = false) :
    k.writeWdata v = .ok { k with x := v, m := 0x7FFFFFFF#32, busy := true } := by
  simp [Cordic.writeWdata, hbusy, hleft, hargs]

theorem Cordic.writeWdata_first (hbusy : k.busy = false) (hleft : k.left = 0) (hargs : k.nargs = true) (hlatched : k.latched = false) :
    k.writeWdata v = .ok { k with arg1 := v, latched := true } := by
  simp [Cordic.writeWdata, hbusy, hleft, hargs, hlatched]

theorem Cordic.writeWdata_second (hbusy : k.busy = false) (hleft : k.left = 0) (hargs : k.nargs = true) (hlatched : k.latched = true) :
    k.writeWdata v = .ok { k with x := k.arg1, m := v, latched := false, busy := true } := by
  simp [Cordic.writeWdata, hbusy, hleft, hargs, hlatched]

end

theorem Cordic.complete_sine {k : Cordic} (hbusy : k.busy = true) (hfunc : k.func = 1) (hnres : k.nres = true) :
    k.complete = some { k with
      res1 := Config.cordicSin k.x k.m k.precision, res2 := Config.cordicCos k.x k.m k.precision, left := 2, next := 1, busy := false } := by
  simp [Cordic.complete, hbusy, hfunc, hnres]

/-- The state after both results have been read. -/
theorem Cordic.pop_pop {k : Cordic} (hleft : k.left = 2) (hnext : k.next = 1) : k.pop.pop = { k with left := 0, next := 3 } := by
  simp [Cordic.pop, hleft, hnext]

theorem cordicInit_ends {s : State} {ds : List LocalName} (h : s.AtCall .cordicInit ds) (hbusy : s.cordic.busy = false)
    (hleft : s.cordic.left = 0) (hlatched : s.cordic.latched = false) :
    let p := BitVec.ofNat 4 s.params.cordicPrecision
    s.CallEnds (List.replicate 3 .statement ++ [.cordic] ++ List.replicate 3 .statement) { s with cordic := { s.cordic with
      func := 1, precision := p, nres := true, nargs := false, arg1 := 0, x := 0, m := 0x7FFFFFFF#32
      res1 := Config.cordicSin 0 0x7FFFFFFF#32 p, res2 := Config.cordicCos 0 0x7FFFFFFF#32 p, left := 0, next := 3 } } [] := by
  intro p
  have hp := h.1
  obtain ⟨-, -, -, -, -, -, -, -, -, -, -, -, -, hlo, hhi, -⟩ := s.params.wf_iff.mp hp
  have hmode (env) := eval_cordicModeE env s.params
  have hcsr : s.Runs _ _ _ (s.setCordic { s.cordic with func := 1, precision := p, nres := true, nargs := true }) s.top.loc :=
    h.begins rfl rfl nofun (.cordicWrite (r := .csr) (by simp) hp (Expr.eval_orE (hmode _) (eval_shlE _ 1 20))
      (Cordic.writeCsr_mode hbusy hleft hlatched hlo hhi true rfl))
  have hfirst := hcsr.cordicWrite rfl hp (Expr.eval.eq_1 _ 0) (Cordic.writeWdata_first 0 hbusy hleft rfl hlatched)
  have hsecond := hfirst.cordicWrite rfl hp (Expr.eval.eq_1 _ 0x7FFFFFFF) (Cordic.writeWdata_second 0x7FFFFFFF#32 hbusy hleft rfl rfl)
  have hdone : s.Runs _ _ _ (s.setCordic { s.cordic with
      func := 1, precision := p, nres := true, nargs := true, arg1 := 0, latched := false, x := 0, m := 0x7FFFFFFF#32
      res1 := Config.cordicSin 0 0x7FFFFFFF#32 p, res2 := Config.cordicCos 0 0x7FFFFFFF#32 p, left := 2, next := 1, busy := false }) _ :=
    hsecond.completes (Cordic.complete_sine rfl rfl rfl)
  have hread := (hdone.cordicResult rfl hp rfl (by simp)).cordicResult rfl hp rfl (by simp [Cordic.pop])
  rw [Cordic.pop_pop rfl rfl] at hread
  have hmode' := hread.cordicWrite rfl hp (hmode _) (Cordic.writeCsr_mode rfl rfl rfl hlo hhi false (by simp))
  have hends := hmode'.ends (List.forall_mem_nil _) fun _ _ =>
    (findLocal_other _ _ (by simp)).trans (findLocal_other _ _ (by simp))
  simpa [State.setCordic, hbusy, hlatched] using hends

/-! ### `CORDIC_REQUEST` -/

theorem eval_q31OfF32 {env : List (LocalName × Word)} {e : Expr} {n : Nat} {q : Word} (h : Expr.eval env e = .ok n)
    (hq : F32.toQ31 (BitVec.ofNat 32 n) = some q) : Expr.eval env (.un .q31OfF32 e) = .ok q.toNat := by
  simp only [Expr.eval, h, evalUn, Word.ofInt, BitVec.ofInt_natCast, hq]

section
variable {s : State} {ds : List LocalName} {v : Nat} {q : Word}

/-- The angle's conversion, which is one step with the call. -/
theorem cordicRequest_begins (h : s.AtCall (.cordicRequest (.num v)) ds) (hq : F32.toQ31 (BitVec.ofNat 32 v) = some q) :
    s.Runs [.statement] (bodyCordicRequest s.params (.num v)) 1 (s.setCordic s.cordic) (writeLocal s.top.loc .cordicRequestQ q) := by
  have hruns := h.begins_nested rfl rfl rfl (eval_q31OfF32 (Expr.eval.eq_1 _ _) hq)
  rwa [ofInt_toNat] at hruns

theorem cordicRequest_ends {c : Cordic} (h : s.AtCall (.cordicRequest (.num v)) ds) (hq : F32.toQ31 (BitVec.ofNat 32 v) = some q)
    (hw : s.cordic.writeWdata q = .ok c) : s.CallEnds (List.replicate 2 .statement) { s with cordic := c } [] := by
  have hwritten := (cordicRequest_begins h hq).cordicWrite (r := .wdata) rfl h.1 (Expr.eval_written _ _ q)
    ((congrArg _ (ofInt_toNat q)).trans hw)
  exact hwritten.ends (List.forall_mem_nil _) fun _ _ => findLocal_other _ _ (by simp)

theorem cordicRequest_overrun (h : s.AtCall (.cordicRequest (.num v)) ds) (hq : F32.toQ31 (BitVec.ofNat 32 v) = some q)
    (hunread : s.cordic.busy = true ∨ s.cordic.left ≠ 0) :
    s.CallFaults (List.replicate 2 .statement) s ⟨.cordicOverrun, .num q.toNat⟩ := by
  refine (cordicRequest_begins h hq).faults rfl nofun fun t ht =>
    ht.wr_faults (r := .cordic .wdata) h.1 rfl (Expr.eval_written _ _ q) ?_
  obtain ⟨-, -, -, -, -, -, cordic, -⟩ := ht.units
  rw [ofInt_toNat, State.regWrite, State.cordicWrite, cordic,
    show (s.setCordic s.cordic).cordic.write .wdata q = _ from Cordic.writeWdata_overrun q hunread]
  rfl

end

/-! ### `CORDIC_COLLECT` -/

theorem eval_f32OfQ31 {env : List (LocalName × Word)} {e : Expr} {w : Word} (h : Expr.eval env e = .ok w.toNat) :
    Expr.eval env (.un .f32OfQ31 e) = .ok (F32.ofQ31 w).toNat := by
  simp only [Expr.eval, h, evalUn, Word.ofInt, ofInt_toNat]

section
variable {s : State} {x y : Nat}

/-- The first result, read into `R1`. -/
theorem cordicCollect_begins (h : s.AtCall .cordicCollect [.user x, .user y]) (hbusy : s.cordic.busy = false)
    (hleft : s.cordic.left ≠ 0) (hnext : s.cordic.next = 1) :
    s.Runs [.statement] (bodyCordicCollect s.params (.user x) (.user y)) 1 (s.setCordic s.cordic.pop)
      (writeLocal s.top.loc .cordicCollectR1 s.cordic.res1) := by
  have hfirst : s.cordic.nextResult = s.cordic.res1 := if_pos hnext
  exact hfirst ▸ h.begins rfl rfl nofun (.cordicResult rfl h.1 hbusy hleft)

theorem cordicCollect_noResult (h : s.AtCall .cordicCollect [.user x, .user y]) (hbusy : s.cordic.busy = false)
    (hleft : s.cordic.left = 1) (hnext : s.cordic.next = 1) :
    s.CallFaults (List.replicate 2 .statement) { s with cordic := { s.cordic with left := 0, next := 2 } } ⟨.cordicNoResult, .num 0⟩ := by
  have hpop : s.cordic.pop = { s.cordic with left := 0, next := 2 } := by simp [Cordic.pop, hleft, hnext]
  have hread := cordicCollect_begins h hbusy (by simp [hleft]) hnext
  rw [hpop] at hread
  refine hread.faults rfl nofun fun t ht => ht.rd_faults (r := .cordic .rdata) rfl h.1 rfl ?_
  obtain ⟨-, -, -, -, -, -, cordic, -⟩ := ht.units
  rw [State.regRead, State.readRdata, cordic]
  exact (if_neg (by simp [State.setCordic, hbusy])).trans (if_pos rfl)

theorem cordicCollect_ends (h : s.AtCall .cordicCollect [.user x, .user y]) (hxy : x ≠ y) (hbusy : s.cordic.busy = false)
    (hleft : s.cordic.left = 2) (hnext : s.cordic.next = 1) :
    s.CallEnds (List.replicate 4 .statement) { s with cordic := { s.cordic with left := 0, next := 3 } }
      [(.user x, F32.ofQ31 s.cordic.res1), (.user y, F32.ofQ31 s.cordic.res2)] := by
  have hsecond : s.cordic.pop.nextResult = s.cordic.res2 := if_neg (by simp [Cordic.pop, hnext])
  have hread := (cordicCollect_begins h hbusy (by simp [hleft]) hnext).cordicResult rfl h.1 hbusy (by simp [Cordic.pop, hleft])
  rw [hsecond, Cordic.pop_pop hleft hnext] at hread
  have hr1 : Expr.eval _ (.loc .cordicCollectR1) = .ok s.cordic.res1.toNat := Expr.eval_loc ((findLocal_other
    (writeLocal s.top.loc .cordicCollectR1 s.cordic.res1) (x := .cordicCollectR2) s.cordic.res2 (by simp)).trans (findLocal_same _ _ _))
  have hx := hread.nested (x := .user x) rfl rfl rfl (eval_f32OfQ31 hr1)
  have hr2 : Expr.eval _ (.loc .cordicCollectR2) = .ok s.cordic.res2.toNat := Expr.eval_loc ((findLocal_other
    _ (x := .user x) (F32.ofQ31 s.cordic.res1) (by simp)).trans (findLocal_same (writeLocal s.top.loc .cordicCollectR1 s.cordic.res1) _ _))
  rw [ofInt_toNat] at hx
  have hy := hx.nested (x := .user y) rfl rfl rfl (eval_f32OfQ31 hr2)
  rw [ofInt_toNat] at hy
  refine hy.ends (List.forall_mem_cons.mpr ⟨?_, List.forall_mem_singleton.mpr (findLocal_same _ _ _)⟩) fun n hn => ?_
  · exact (findLocal_other _ _ fun he => hxy (LocalName.user.inj he).symm).trans (findLocal_same _ _ _)
  · obtain ⟨hnx, hny⟩ : LocalName.user x ≠ .user n ∧ LocalName.user y ≠ .user n := by simpa using hn
    calc findLocal _ (.user n) = _ := findLocal_other _ _ hny
      _ = _ := findLocal_other _ _ hnx
      _ = _ := findLocal_other _ _ (by simp)
      _ = _ := findLocal_other _ _ (by simp)

end

/-- Settles O26: the four calls. -/
theorem pwmCordicOperationRuns : Obligations.PwmCordicOperationRuns := by
  unfold Obligations.PwmCordicOperationRuns
  refine fun s ds => ⟨pwmEnableOutputs_ends, cordicInit_ends, fun v q h hq => ⟨cordicRequest_overrun h hq, fun hbusy hleft hargs => ?_,
    fun hbusy hleft hargs hlatched => ?_, fun hbusy hleft hargs hlatched => ?_⟩, fun x y hxy h hbusy hnext =>
    ⟨fun hleft => cordicCollect_noResult h hbusy hleft hnext, fun hleft => cordicCollect_ends h hxy hbusy hleft hnext⟩⟩
  · exact cordicRequest_ends h hq (Cordic.writeWdata_single q hbusy hleft hargs)
  · exact cordicRequest_ends h hq (Cordic.writeWdata_first q hbusy hleft hargs hlatched)
  · exact cordicRequest_ends h hq (Cordic.writeWdata_second q hbusy hleft hargs hlatched)

end Sys2Proof.Machine
end

section
/-! SUPPORT. The power, calibration and enable order of the ADC units: what an accepted write of `CR` says of the state before, and why
each operation of a step keeps the order and the ranks (42_adc.md R603, R630 to R632, R642 to R648). -/
namespace Sys2Proof.Machine

/-! ### The checks of a `CR` write -/

/-- An accepted write of `CR` has passed each of the six checks. -/
structure Adc.CrAccepts (a : Adc) (v : Word) : Prop where
  locked : a.aden = true ∨ a.adcal = true →
    Word.bit v 28 = a.advregen ∧ Word.bit v 29 = a.deeppwd ∧ Word.bit v 30 = a.adcaldif
  power : Word.bit v 28 = true → Word.bit v 29 = false
  calibrate : Word.bit v 31 = true → a.adcal = false → a.aden = false ∧ a.vreg = .ready ∧ Word.bit v 28 = true
  enable : Word.bit v 0 = true → a.aden = false → a.adcal = false ∧ Word.bit v 31 = false ∧ a.vreg = .ready
  start : Word.bit v 2 = true → a.adstart = false → a.en = .ready
  inject : Word.bit v 3 = true → a.jadstart = false → a.en = .ready

/-- The six checks of R603 are those of `CrAccepts`, in the order of its fields. -/
theorem Adc.crRefused_eq_false {a : Adc} {v : Word} : a.crRefused v = false ↔ a.CrAccepts v := by
  simp only [Adc.crRefused, Bool.or_eq_false_iff, Bool.and_eq_false_iff, Bool.not_eq_false', bne_eq_false_iff_eq, and_assoc]
  refine ⟨fun ⟨h1, h2, h3, h4, h5, h6⟩ => ⟨?_, ?_, ?_, ?_, ?_, ?_⟩, fun ⟨h1, h2, h3, h4, h5, h6⟩ => ⟨?_, ?_, ?_, ?_, ?_, ?_⟩⟩
  all_goals grind

/-! ### One unit -/

theorem Adc.running_eq_true {a : Adc} : a.running = true ↔ a.adstart = true ∨ a.jadstart = true := by
  simp only [Adc.running, Bool.or_eq_true]

/-- The invariant of one unit. -/
structure Adc.Ok (a : Adc) : Prop where
  handshake : a.HandshakeOk
  sequence : a.SequenceOk

/-- Each accepted start of a handshake has the conditions the invariant asks for. -/
theorem Adc.Ok.crEffect {a : Adc} {v : Word} (h : a.Ok) (hv : a.CrAccepts v) : (a.crEffect v).Ok := by
  obtain ⟨⟨haden, hrun, hcal, hreg, _, hcalOrder⟩, hjact, hrank, hjrank⟩ := h
  obtain ⟨hlocked, hpower, hcalibrate, henable, hstart, hinject⟩ := hv
  rw [Adc.running_eq_true] at hrun
  refine ⟨⟨?enabled, ?runs, ?calibrates, ?regulator, ?power, ?order⟩, ?injected, ?rank, ?jrank⟩
  case power => simpa [Adc.crEffect] using hpower
  case enabled => simp only [Adc.crEffect]; grind
  case runs => rw [Adc.running_eq_true]; simp only [Adc.crEffect]; grind
  case calibrates => simp only [Adc.crEffect]; grind
  case regulator => simp only [Adc.crEffect]; grind
  case order => simp only [Adc.crEffect]; grind
  case injected => simp only [Adc.crEffect, Adc.crStarts]; grind
  case rank => simp only [Adc.crEffect]; grind
  case jrank => simp only [Adc.crEffect, Adc.crStarts]; grind

/-- The sequences of a unit that is not Running may change: no rank is in use (42_adc.md R606 to R608). -/
theorem Adc.Ok.sequence_of_idle {a b : Adc} (h : a.Ok) (hidle : a.running = false) (hrun : b.adstart = a.adstart)
    (hjact : b.jact = a.jact) : b.SequenceOk := by
  obtain ⟨_, hja, _, _⟩ := h
  simp only [Adc.running, Bool.or_eq_false_iff] at hidle
  obtain ⟨hoff, hjoff⟩ := hidle
  have hnone : a.jact = false := by
    cases hact : a.jact with
    | false => rfl
    | true => exact absurd (hja hact) (by simp [hjoff])
  exact ⟨by simp [hjact, hnone], by simp [hrun, hoff], by simp [hjact, hnone]⟩

/-- No register but `CR` takes part in the handshakes, and the sequences are refused to a Running unit. -/
theorem Adc.Ok.write {a b : Adc} {chMax : Nat} {u : AdcUnit} {r : AdcReg} {v : Word} (h : a.Ok) (hw : a.write chMax u r v = .ok b) :
    b.Ok := by
  cases r <;> simp only [Adc.write] at hw
  case cfgr => simp only [Adc.writeCfgr] at hw; split at hw <;> cases hw; exact ⟨h.handshake, h.sequence⟩
  case smpr1 => simp only [Adc.writeSmpr1] at hw; split at hw <;> cases hw; exact ⟨h.handshake, h.sequence⟩
  case smpr2 => simp only [Adc.writeSmpr2] at hw; split at hw <;> cases hw; exact ⟨h.handshake, h.sequence⟩
  case sqr1 =>
    simp only [Adc.writeSqr1] at hw
    split at hw
    · cases hw
    · rename_i hidle
      split at hw <;> cases hw
      exact ⟨h.handshake, h.sequence_of_idle (by simpa using hidle) rfl rfl⟩
  case jsqr =>
    simp only [Adc.writeJsqr] at hw
    split at hw
    · cases hw
    · rename_i hidle
      split at hw
      · cases hw
      · split at hw <;> cases hw
        exact ⟨h.handshake, h.sequence_of_idle (by simpa using hidle) rfl rfl⟩
  all_goals (cases hw; exact ⟨h.handshake, h.sequence⟩)

theorem Adc.Ok.regulatorReady {a : Adc} (h : a.Ok) (hv : a.vreg = .starting) : Adc.Ok { a with vreg := .ready } := by
  obtain ⟨⟨haden, hrun, hcal, hreg, hdeep, horder⟩, hseq⟩ := h
  exact ⟨⟨haden, hrun, hcal, by simpa [hv] using hreg, hdeep, fun hc => ⟨rfl, (horder hc).2⟩⟩, hseq⟩

theorem Adc.Ok.calibrationDone {a : Adc} (h : a.Ok) (draw : Nat) :
    Adc.Ok { a with calfact := draw, cal := .idle, adcal := false } := by
  obtain ⟨⟨haden, hrun, _, hreg, hdeep, _⟩, hseq⟩ := h
  exact ⟨⟨haden, hrun, by simp, hreg, hdeep, nofun⟩, hseq⟩

theorem Adc.Ok.enableDone {a : Adc} (h : a.Ok) (he : a.en = .enabling) :
    Adc.Ok { a with en := .ready, isr := { a.isr with adrdy := true } } := by
  obtain ⟨⟨haden, _, hcal, hreg, hdeep, horder⟩, hseq⟩ := h
  exact ⟨⟨by simpa [he] using haden, fun _ => rfl, hcal, hreg, hdeep, horder⟩, hseq⟩

/-- The next rank after one that is not the last stays inside the sequence. -/
theorem rank_succ_le {r len : BitVec 2} (h : r ≤ len) (hne : r ≠ len) : r + 1 ≤ len := by
  revert r len; decide

/-- A regular conversion goes to the next rank, to the first, or stops (42_adc.md R642, R644). -/
theorem Adc.Ok.convertRegular {a : Adc} (h : a.Ok) (code : BitVec 16) : (a.convertRegular code).Ok := by
  obtain ⟨⟨haden, hrun, hrest⟩, hjact, hrank, hjrank⟩ := h
  rw [Adc.running_eq_true] at hrun
  simp only [Adc.convertRegular]
  split
  · refine ⟨⟨haden, fun hr => hrun ?_, hrest⟩, hjact, nofun, hjrank⟩
    exact .inr (by simpa [Adc.running] using hr)
  · split
    · refine ⟨⟨haden, fun hr => hrun ?_, hrest⟩, hjact, fun _ => (BitVec.le_def.mpr (Nat.zero_le _)), hjrank⟩
      rw [Adc.running_eq_true] at hr
      exact hr.imp_left fun hon => (Bool.and_eq_true _ _ ▸ hon).1
    · rename_i hlast
      exact ⟨⟨haden, fun hr => hrun (Adc.running_eq_true.mp hr), hrest⟩, hjact, fun hon => rank_succ_le (hrank hon) hlast, hjrank⟩

/-- So does an injected one of an active sequence (42_adc.md R647). -/
theorem Adc.Ok.convertInjected {a : Adc} (h : a.Ok) (hact : a.jact = true) (code : BitVec 16) : (a.convertInjected code).Ok := by
  obtain ⟨⟨haden, hrun, hrest⟩, hjact, hrank, hjrank⟩ := h
  rw [Adc.running_eq_true] at hrun
  simp only [Adc.convertInjected]
  split
  · refine ⟨⟨haden, fun _ => hrun (.inr (hjact hact)), hrest⟩, nofun, hrank, nofun⟩
  · rename_i hlast
    exact ⟨⟨haden, fun hr => hrun (Adc.running_eq_true.mp hr), hrest⟩, hjact, hrank, fun _ => rank_succ_le (hjrank hact) hlast⟩

/-- A trigger starts a sequence of an armed unit only (42_adc.md R646). -/
theorem Adc.Ok.trigger {a : Adc} (h : a.Ok) (old new : Bool × Bool) :
    (if a.startsOn old new then a.startInjected else a).Ok := by
  split
  · rename_i hstart
    simp only [Adc.startsOn, Adc.armed, Bool.and_eq_true] at hstart
    exact ⟨h.handshake, fun _ => hstart.2.1.1, h.sequence.2.1, fun _ => (BitVec.le_def.mpr (Nat.zero_le _))⟩
  · exact h

/-! ### Both units -/

theorem State.adcOk_iff {s : State} : s.AdcOk ↔ ∀ u, (s.adc u).Ok := by
  refine ⟨fun ⟨h1, q1, h2, q2⟩ u => ?_, fun h => ⟨(h .one).1, (h .one).2, (h .two).1, (h .two).2⟩⟩
  cases u with
  | one => exact ⟨h1, q1⟩
  | two => exact ⟨h2, q2⟩

namespace State.AdcOk

/-- The invariant reads nothing of a state but the two units. -/
theorem of_same {s t : State} (h : s.AdcOk) (h1 : t.adc1 = s.adc1) (h2 : t.adc2 = s.adc2) : t.AdcOk := by
  simpa only [State.AdcOk, h1, h2] using h

theorem setAdc {s : State} (h : s.AdcOk) {u : AdcUnit} {a : Adc} (ha : a.Ok) : (s.setAdc u a).AdcOk := by
  rw [State.adcOk_iff] at h ⊢
  intro v
  cases u with
  | one => cases v with
    | one => exact ha
    | two => exact h .two
  | two => cases v with
    | one => exact h .one
    | two => exact ha

theorem regRead {s t : State} {r : Reg} {v : Word} (h : s.AdcOk) (ht : s.regRead r = .value v t) : t.AdcOk := by
  have hu := State.adcOk_iff.mp h
  rcases regRead_value s t r v ht with rfl | ⟨u, _, rfl⟩ | ⟨_, _, _, rfl⟩
  · exact h
  · exact h.setAdc ⟨(hu u).handshake, (hu u).sequence⟩
  · exact h

theorem regWrite {s t : State} {r : Reg} {v : Word} (h : s.AdcOk) (ht : s.regWrite r v = .ok t) : t.AdcOk := by
  have hu := State.adcOk_iff.mp h
  rcases regWrite_ok s t r v ht with ⟨_, _, _, _, rfl⟩ | ⟨u, _, hcr, rfl⟩ | ⟨u, _, a, _, _, ha, rfl⟩ | ⟨_, _, _, _, _, rfl⟩ |
    ⟨_, _, _, _, rfl⟩ | ⟨_, _, _, _, rfl⟩ | ⟨_, _, _, _, rfl⟩ | ⟨q, _, hq⟩
  case inr.inl => exact (h.setAdc ((hu u).crEffect (Adc.crRefused_eq_false.mp hcr))).of_same rfl rfl
  case inr.inr.inl => exact h.setAdc ((hu u).write ha)
  case inr.inr.inr.inr.inr.inr.inr =>
    rcases intcWrite_ok s t q v hq with rfl | ⟨_, rfl⟩ | ⟨_, _, rfl⟩ | ⟨_, _, rfl⟩ <;> exact h
  all_goals exact h

/-- The agents' steps: the handshakes of R630 to R632, the conversions, and the triggers of a tick. -/
theorem agentStep {s t : State} {m : Move} (h : s.AdcOk) (hm : m ≠ .beat) (ht : s.agentStep m = some t) : t.AdcOk := by
  have hu := State.adcOk_iff.mp h
  rcases agentStep_some s t m hm ht with ⟨_, _, _, rfl⟩ | ⟨_, rfl⟩ | ⟨u, _, hv, rfl⟩ | ⟨u, _, _, rfl⟩ | ⟨u, _, he, rfl⟩ |
    ⟨u, _, _, rfl⟩ | ⟨u, _, hact, _, rfl⟩ | ⟨_, hlock, rfl⟩ | ⟨_, _, _, rfl⟩ | ⟨_, _, _, rfl⟩
  · exact h
  · rw [State.adcOk_iff]
    intro u
    cases u with
    | one => exact (hu .one).trigger _ _
    | two => exact (hu .two).trigger _ _
  · exact h.setAdc ((hu u).regulatorReady hv)
  · exact h.setAdc ((hu u).calibrationDone _)
  · exact h.setAdc ((hu u).enableDone he)
  · exact h.setAdc ((hu u).convertRegular _)
  · exact h.setAdc ((hu u).convertInjected hact _)
  · simp only [State.lockstep, Bool.and_eq_true] at hlock
    obtain ⟨⟨⟨⟨_, hact1⟩, hact2⟩, _⟩, _⟩ := hlock
    rw [State.adcOk_iff]
    intro u
    cases u with
    | one => exact (hu .one).convertInjected hact1 _
    | two => exact (hu .two).convertInjected hact2 _
  · exact h
  · exact h

end State.AdcOk

/-- Every operation a step is made of keeps the handshakes and the ranks of both units. -/
theorem adcOk_stepKeeps : StepKeeps State.AdcOk where
  top _ _ _ _ h := h
  ret s t ht h := by
    obtain ⟨_, _, _, rfl, _⟩ := leaveHandler_ok s t ht
    exact h
  data _ _ h := h
  halt _ _ h := h
  raise _ _ h := h
  sched _ h := h
  read _ _ _ _ ht h := h.regRead ht
  write _ _ _ _ ht h := h.regWrite ht
  mem _ _ _ _ _ _ h := h
  agent _ _ _ hm ht h := h.agentStep hm ht
  error _ _ h := h
  beat _ _ _ h := h

/-- Settles O56: an accepted `CR` write, each handshake and each conversion keep the order of their unit; nothing else touches it. -/
theorem adcInvariant : Obligations.AdcInvariant := adcOk_stepKeeps.step

end Sys2Proof.Machine
end

section
/-! SUPPORT. Reads and writes of the ADC registers, the interrupt lines they raise, and the steps of the units, of the pair, of a stopping
DMA channel and of the CORDIC (42_adc.md R600 to R608, R621, R630 to R650; 43_dma.md R712, R745; 44_cordic.md R812). -/
namespace Sys2Proof.Machine

/-! ### Interrupt lines -/

/-- Settles O16: line 0 is the units', line c + 1 channel c's, each by the definition of its request. -/
theorem lineAssertion : Obligations.LineAssertion := by
  unfold Obligations.LineAssertion
  intro s c irq
  refine ⟨by simp only [State.asserted, Adc.irq, irq]; rfl, ?_⟩
  simp only [State.asserted, Nat.add_eq_zero_iff, one_ne_zero, and_false, dif_neg, not_false_eq_true, Nat.add_sub_cancel]
  rfl

/-! ### Register values -/

/-- The flags as their bits (10_state.md R121, R122), with one more flag at bit 12. -/
theorem AdcFlags.toWord_with_ldordy (f : AdcFlags) (ldordy : Bool) :
    f.toWord ||| Word.ofBit 12 ldordy = 0#19 ++ BitVec.ofBool ldordy ++ 0#5 ++ BitVec.ofBool f.jeos ++ BitVec.ofBool f.jeoc ++
      BitVec.ofBool f.ovr ++ BitVec.ofBool f.eos ++ BitVec.ofBool f.eoc ++ 0#1 ++ BitVec.ofBool f.adrdy := by
  obtain ⟨adrdy, eoc, eos, ovr, jeoc, jeos⟩ := f
  revert ldordy adrdy eoc eos ovr jeoc jeos
  decide

theorem Adc.read_isr (a : Adc) : a.read .isr = 0#19 ++ BitVec.ofBool (a.vreg == .ready) ++ 0#5 ++ BitVec.ofBool a.isr.jeos ++
    BitVec.ofBool a.isr.jeoc ++ BitVec.ofBool a.isr.ovr ++ BitVec.ofBool a.isr.eos ++ BitVec.ofBool a.isr.eoc ++ 0#1 ++
    BitVec.ofBool a.isr.adrdy := a.isr.toWord_with_ldordy _

theorem Adc.read_ier (a : Adc) : a.read .ier = 0#25 ++ BitVec.ofBool a.ier.jeos ++ BitVec.ofBool a.ier.jeoc ++
    BitVec.ofBool a.ier.ovr ++ BitVec.ofBool a.ier.eos ++ BitVec.ofBool a.ier.eoc ++ 0#1 ++ BitVec.ofBool a.ier.adrdy := by
  have h := a.ier.toWord_with_ldordy false
  rwa [show Word.ofBit 12 false = 0#32 from rfl, BitVec.or_zero] at h

theorem Adc.read_cr (a : Adc) : a.read .cr = BitVec.ofBool a.adcal ++ BitVec.ofBool a.adcaldif ++ BitVec.ofBool a.deeppwd ++
    BitVec.ofBool a.advregen ++ 0#24 ++ BitVec.ofBool a.jadstart ++ BitVec.ofBool a.adstart ++ 0#1 ++ BitVec.ofBool a.aden := by
  simp only [Adc.read, Adc.readCr]
  generalize a.adcal = b31, a.adcaldif = b30, a.deeppwd = b29, a.advregen = b28, a.jadstart = b3, a.adstart = b2, a.aden = b0
  revert b31 b30 b29 b28 b3 b2 b0
  decide

theorem Adc.read_cfgr (a : Adc) : a.read .cfgr = 0#18 ++ BitVec.ofBool a.cont ++ BitVec.ofBool a.ovrmod ++ 0#11 ++
    BitVec.ofBool a.dmaen := by
  simp only [Adc.read]
  generalize a.cont = b13, a.ovrmod = b12, a.dmaen = b0
  revert b13 b12 b0
  decide

/-- Appended fields at bit `lo` are the lower field there and the higher one above it. -/
theorem Word.ofField_append {w n : Nat} (lo : Nat) (x : BitVec w) (y : BitVec n) :
    Word.ofField lo (x ++ y) = Word.ofField lo y ||| Word.ofField (lo + n) x := by
  apply BitVec.eq_of_getLsbD_eq
  intro i hi
  simp only [Word.ofField, BitVec.getLsbD_or, BitVec.getLsbD_shiftLeft, BitVec.getLsbD_setWidth, BitVec.getLsbD_append]
  grind

theorem Word.ofField_zero (lo w : Nat) : Word.ofField lo (0#w) = 0 := by
  simp [Word.ofField]

/-- At bit 0 a field is the word of its value. -/
theorem Word.ofField_of_toNat {w : Nat} {x : BitVec w} {v : Word} (h : x.toNat = v.toNat) : Word.ofField 0 x = v := by
  apply BitVec.eq_of_toNat_eq
  rw [Word.ofField, BitVec.shiftLeft_zero, BitVec.toNat_setWidth, h, Nat.mod_eq_of_lt v.isLt]

theorem Adc.read_sqr1 (a : Adc) : a.read .sqr1 = 0#3 ++ a.sq[3] ++ 0#1 ++ a.sq[2] ++ 0#1 ++ a.sq[1] ++ 0#1 ++ a.sq[0] ++ 0#4 ++
    a.sqLen := by
  refine .trans ?_ (Word.ofField_of_toNat (w := 3 + 5 + 1 + 5 + 1 + 5 + 1 + 5 + 4 + 2) rfl)
  simp only [Word.ofField_append, Word.ofField_zero]
  simp [Adc.read, Adc.readSqr1, BitVec.or_assoc]

theorem Adc.read_jsqr (a : Adc) : a.read .jsqr = a.jsq[3] ++ 0#1 ++ a.jsq[2] ++ 0#1 ++ a.jsq[1] ++ 0#1 ++ a.jsq[0] ++ a.jexten ++
    a.jextsel ++ a.jsqLen := by
  refine .trans ?_ (Word.ofField_of_toNat (w := 5 + 1 + 5 + 1 + 5 + 1 + 5 + 2 + 5 + 2) rfl)
  simp only [Word.ofField_append, Word.ofField_zero]
  simp [Adc.read, Adc.readJsqr, BitVec.or_assoc]

/-- Settles O18: each row is `Adc.read` of its register, into the local; that of `DR` is from the state with `EOC` cleared. -/
theorem adcReads : Obligations.AdcReads := by
  unfold Obligations.AdcReads
  have row {s : State} {x : LocalName} (hk : s.sink = .ok (.store x)) (lane : Lane) (u : AdcUnit) (r : AdcReg) {w : Word}
      (h : (s.adc u).read r = w) : Cpu.runRead s lane (s.adcRead u r) = .next (s.loaded x (Lane.take lane w)) :=
    h ▸ runRead_store s s x lane _ hk
  have data {s : State} {x : LocalName} (hk : s.sink = .ok (.store x)) (lane : Lane) (u : AdcUnit) :
      Cpu.runRead s lane (s.adcReadDr u) =
        .next ((s.setAdc u (s.adc u).clearEoc).loaded x (Lane.take lane (0#16 ++ (s.adc u).dr))) :=
    setWidth_eq_zero_append 16 (s.adc u).dr ▸ runRead_store s _ x lane _ hk
  refine ⟨fun s x lane hk => ?_, fun s x lane hk => ?_⟩
  · exact ⟨row hk lane .one .isr (Adc.read_isr _), row hk lane .one .ier (Adc.read_ier _), row hk lane .one .cr (Adc.read_cr _),
      row hk lane .one .cfgr (Adc.read_cfgr _), row hk lane .one .smpr1 (setWidth_eq_zero_append 2 _),
      row hk lane .one .smpr2 (setWidth_eq_zero_append 5 _), row hk lane .one .sqr1 (Adc.read_sqr1 _),
      row hk lane .one .jsqr (Adc.read_jsqr _), row hk lane .one .jdr1 (setWidth_eq_zero_append 16 _),
      row hk lane .one .jdr2 (setWidth_eq_zero_append 16 _), row hk lane .one .jdr3 (setWidth_eq_zero_append 16 _),
      row hk lane .one .jdr4 (setWidth_eq_zero_append 16 _), data hk lane .one⟩
  · exact ⟨row hk lane .two .isr (Adc.read_isr _), row hk lane .two .ier (Adc.read_ier _), row hk lane .two .cr (Adc.read_cr _),
      row hk lane .two .cfgr (Adc.read_cfgr _), row hk lane .two .smpr1 (setWidth_eq_zero_append 2 _),
      row hk lane .two .smpr2 (setWidth_eq_zero_append 5 _), row hk lane .two .sqr1 (Adc.read_sqr1 _),
      row hk lane .two .jsqr (Adc.read_jsqr _), row hk lane .two .jdr1 (setWidth_eq_zero_append 16 _),
      row hk lane .two .jdr2 (setWidth_eq_zero_append 16 _), row hk lane .two .jdr3 (setWidth_eq_zero_append 16 _),
      row hk lane .two .jdr4 (setWidth_eq_zero_append 16 _), data hk lane .two⟩

/-! ### Register writes -/

/-- Settles O27: the rules of these registers have no check, and each row is its rule. -/
theorem adcPlainWrites : Obligations.AdcPlainWrites := by
  unfold Obligations.AdcPlainWrites
  intro s v flags enables
  exact ⟨rfl, rfl, rfl, rfl, rfl, rfl, rfl, rfl, rfl, rfl, rfl, rfl, rfl, rfl⟩

/-- The number of a unit as an info. -/
theorem unitFault_eq (code : FaultCode) (u : AdcUnit) : unitFault code u = ⟨code, .num (if u = .one then 1 else 2)⟩ := by
  cases u <;> rfl

/-- A write of `CR` is refused where a check fails on the state before (42_adc.md R603). -/
theorem regWrite_cr_error {s : State} {u : AdcUnit} {v : Word} (h : ¬(s.adc u).CrAccepts v) :
    s.regWrite (.adc u .cr) v = .error ⟨.adcSeq, .num (if u = .one then 1 else 2)⟩ := by
  rw [← unitFault_eq, State.regWrite, State.adcWriteCr, if_pos]
  rwa [← Bool.not_eq_false, Adc.crRefused_eq_false]

/-- An accepted one has its effects on the unit, and a software start of the injected sequence unpairs the units. -/
theorem regWrite_cr_ok {s : State} {u : AdcUnit} {v : Word} (h : (s.adc u).CrAccepts v) :
    s.regWrite (.adc u .cr) v = .ok { s.setAdc u ((s.adc u).crEffect v) with
      adcPaired := s.adcPaired && !(s.adc u).crStarts v } := by
  rw [State.regWrite, State.adcWriteCr, if_neg]
  rw [Adc.crRefused_eq_false.mpr h]
  exact Bool.false_ne_true

/-- A software start of the injected sequence (42_adc.md R603). -/
theorem Adc.crStarts_iff {a : Adc} {v : Word} : a.crStarts v = true ↔
    Word.bit v 3 = true ∧ a.jadstart = false ∧ a.jexten = 0 ∧ a.jact = false := by
  simp [Adc.crStarts, and_assoc]

/-- Settles O28: the checks are `Adc.CrAccepts`, the effects `Adc.crEffect`. -/
theorem adcControlWrite : Obligations.AdcControlWrite := by
  unfold Obligations.AdcControlWrite
  intro s v refused soft after
  have hrefused (a : Adc) : refused a ↔ ¬a.CrAccepts v := by
    rw [← Adc.crRefused_eq_false, Bool.not_eq_false]
    simp [Adc.crRefused, refused, Word.bit, or_assoc, and_assoc]
  have hsoft (a : Adc) : a.crStarts v = true ↔ soft a := Adc.crStarts_iff
  have hafter (a : Adc) : a.crEffect v = after a := by
    by_cases hs : soft a
    · simp [Adc.crEffect, after, (hsoft a).mpr hs, hs, Word.bit]
    · simp [Adc.crEffect, after, Bool.eq_false_iff.mpr (mt (hsoft a).mp hs), hs, Word.bit]
  have hpaired (a : Adc) : (s.adcPaired && !a.crStarts v) = if soft a then false else s.adcPaired := by
    by_cases hs : soft a
    · simp [(hsoft a).mpr hs, hs]
    · simp [Bool.eq_false_iff.mpr (mt (hsoft a).mp hs), hs]
  have fails (u : AdcUnit) (h : refused (s.adc u)) : Cpu.runWrite s (s.regWrite (.adc u .cr) v) =
      .next (s.raise ⟨.adcSeq, .num (if u = .one then 1 else 2)⟩) := by
    rw [regWrite_cr_error ((hrefused _).mp h), runWrite_error]
  have holds (u : AdcUnit) (h : ¬refused (s.adc u)) : Cpu.runWrite s (s.regWrite (.adc u .cr) v) =
      .next { s.setAdc u (after (s.adc u)) with adcPaired := if soft (s.adc u) then false else s.adcPaired }.advance := by
    rw [regWrite_cr_ok (not_not.mp (mt (hrefused _).mpr h)), hafter, hpaired, runWrite_ok]
  exact ⟨fails .one, fails .two, holds .one, holds .two⟩

/-- A rank in use names a channel above `CH_MAX` (30_encoding.md R322). -/
abbrev rankHigh (chMax : Nat) (len : BitVec 2) (ch : Vector (BitVec 5) 4) (r : Fin 4) : Prop :=
  r.val ≤ len.toNat ∧ chMax < ch[r].toNat

/-- The sequence check goes through the ranks in order. -/
theorem badChannel_eq (chMax : Nat) (len : BitVec 2) (ch : Vector (BitVec 5) 4) : badChannel chMax len ch =
    if rankHigh chMax len ch 0 then some ch[0].toNat else if rankHigh chMax len ch 1 then some ch[1].toNat
    else if rankHigh chMax len ch 2 then some ch[2].toNat else if rankHigh chMax len ch 3 then some ch[3].toNat else none := by
  have hfirst : rankHigh chMax len ch 0 ↔ chMax < ch[0].toNat := and_iff_right (Nat.zero_le _)
  simp only [badChannel, hfirst]
  rfl

/-- It names the first rank in use with a channel above `CH_MAX`. -/
theorem badChannel_first {chMax : Nat} {len : BitVec 2} {ch : Vector (BitVec 5) 4} (r : Fin 4) (h : rankHigh chMax len ch r)
    (hfirst : ∀ q < r, ¬rankHigh chMax len ch q) : badChannel chMax len ch = some ch[r].toNat := by
  rw [badChannel_eq]
  match r with
  | 0 => rw [if_pos h]; rfl
  | 1 => rw [if_neg (hfirst 0 (by decide)), if_pos h]; rfl
  | 2 => rw [if_neg (hfirst 0 (by decide)), if_neg (hfirst 1 (by decide)), if_pos h]; rfl
  | 3 => rw [if_neg (hfirst 0 (by decide)), if_neg (hfirst 1 (by decide)), if_neg (hfirst 2 (by decide)), if_pos h]; rfl

theorem badChannel_none {chMax : Nat} {len : BitVec 2} {ch : Vector (BitVec 5) 4} (h : ∀ r, ¬rankHigh chMax len ch r) :
    badChannel chMax len ch = none := by
  rw [badChannel_eq, if_neg (h 0), if_neg (h 1), if_neg (h 2), if_neg (h 3)]

/-- The configuration registers of a Running unit refuse every write (42_adc.md R604 to R608). -/
theorem Adc.write_running_error {a : Adc} (h : a.running = true) (chMax : Nat) (u : AdcUnit) (v : Word) {r : AdcReg}
    (hr : r ∈ [AdcReg.cfgr, .smpr1, .smpr2, .sqr1, .jsqr]) : a.write chMax u r v = .error (unitFault .adcRun u) := by
  simp only [List.mem_cons, List.not_mem_nil, or_false] at hr
  rcases hr with rfl | rfl | rfl | rfl | rfl <;>
    simp only [Adc.write, Adc.writeCfgr, Adc.writeSmpr1, Adc.writeSmpr2, Adc.writeSqr1, Adc.writeJsqr, h, if_true]

section
variable {a : Adc} (h : a.running = false) (chMax : Nat) (u : AdcUnit) (v : Word)
include h

theorem Adc.writeCfgr_ok : a.writeCfgr u v =
    .ok { a with dmaen := v.getLsbD 0, ovrmod := v.getLsbD 12, cont := v.getLsbD 13 } := by
  rw [Adc.writeCfgr, if_neg (by simp [h])]; rfl

theorem Adc.writeSmpr1_ok : a.writeSmpr1 u v = .ok { a with smpr1 := v.extractLsb' 0 30 } := by
  rw [Adc.writeSmpr1, if_neg (by simp [h])]; rfl

theorem Adc.writeSmpr2_ok : a.writeSmpr2 u v = .ok { a with smpr2 := v.extractLsb' 0 27 } := by
  rw [Adc.writeSmpr2, if_neg (by simp [h])]; rfl

theorem Adc.writeSqr1_ok (hch : badChannel chMax (v.extractLsb' 0 2) (rankFields v 6 12 18 24) = none) :
    a.writeSqr1 chMax u v = .ok { a with sqLen := v.extractLsb' 0 2, sq := rankFields v 6 12 18 24 } := by
  simp only [Adc.writeSqr1, h, Word.field, hch]; rfl

theorem Adc.writeSqr1_error {n : Nat} (hch : badChannel chMax (v.extractLsb' 0 2) (rankFields v 6 12 18 24) = some n) :
    a.writeSqr1 chMax u v = .error ⟨.adcBadChannel, .num n⟩ := by
  simp only [Adc.writeSqr1, h, Word.field, hch]; rfl

theorem Adc.writeJsqr_ok (hsel : (v.extractLsb' 2 5).toNat < 2)
    (hch : badChannel chMax (v.extractLsb' 0 2) (rankFields v 9 15 21 27) = none) :
    a.writeJsqr chMax u v = .ok { a with
      jsqLen := v.extractLsb' 0 2, jextsel := v.extractLsb' 2 5, jexten := v.extractLsb' 7 2, jsq := rankFields v 9 15 21 27 } := by
  simp only [Adc.writeJsqr, h, Word.field, Nat.not_le.mpr hsel, hch]; rfl

theorem Adc.writeJsqr_trigger (hsel : 2 ≤ (v.extractLsb' 2 5).toNat) :
    a.writeJsqr chMax u v = .error ⟨.adcBadTrigger, .num (v.extractLsb' 2 5).toNat⟩ := by
  simp only [Adc.writeJsqr, h, Word.field, hsel]; rfl

theorem Adc.writeJsqr_channel {n : Nat} (hsel : (v.extractLsb' 2 5).toNat < 2)
    (hch : badChannel chMax (v.extractLsb' 0 2) (rankFields v 9 15 21 27) = some n) :
    a.writeJsqr chMax u v = .error ⟨.adcBadChannel, .num n⟩ := by
  simp only [Adc.writeJsqr, h, Word.field, Nat.not_le.mpr hsel, hch]; rfl

end

/-- A register but `CR` takes what its unit's rule gives. -/
theorem regWrite_adc_ok {s : State} {u : AdcUnit} {r : AdcReg} {v : Word} {b : Adc} (hr : r ≠ .cr)
    (h : (s.adc u).write s.params.chMax u r v = .ok b) : s.regWrite (.adc u r) v = .ok (s.setAdc u b) := by
  cases r <;> first | exact absurd rfl hr | simp only [State.regWrite, State.adcWrite, h]

theorem regWrite_adc_error {s : State} {u : AdcUnit} {r : AdcReg} {v : Word} {f : FaultRecord} (hr : r ≠ .cr)
    (h : (s.adc u).write s.params.chMax u r v = .error f) : s.regWrite (.adc u r) v = .error f := by
  cases r <;> first | exact absurd rfl hr | simp only [State.regWrite, State.adcWrite, h]

/-- The channel of rank k stands 6 bits above that of the rank before (10_state.md R126, R128). -/
theorem rankFields_get (v : Word) (lo : Nat) (k : Fin 4) :
    (rankFields v lo (lo + 6) (lo + 12) (lo + 18))[k] = v.extractLsb' (lo + 6 * k.val) 5 := by
  match k with
  | 0 => rfl
  | 1 => rfl
  | 2 => rfl
  | 3 => rfl

/-- Settles O29: each register's rule, whose checks are the cases. -/
theorem adcConfigWrites : Obligations.AdcConfigWrites := by
  unfold Obligations.AdcConfigWrites
  intro s v run high first ch good cfg seq inj
  have hidle (a : Adc) (h : ¬run a) : a.running = false := Bool.eq_false_iff.mpr (mt Adc.running_eq_true.mp h)
  have hhigh (lo : Nat) (k : Fin 4) :
      rankHigh s.params.chMax (v.extractLsb' 0 2) (rankFields v lo (lo + 6) (lo + 12) (lo + 18)) k ↔ high (v.extractLsb' 0 2) lo k := by
    rw [rankHigh, rankFields_get]
  have hbad (lo k : Nat) (hk : k < 4) (h : first lo k) :
      badChannel s.params.chMax (v.extractLsb' 0 2) (rankFields v lo (lo + 6) (lo + 12) (lo + 18)) = some (ch lo k).toNat := by
    rw [badChannel_first ⟨k, hk⟩ ((hhigh lo _).mpr h.1) fun q hq => mt (hhigh lo q).mp (h.2 q hq), rankFields_get]
  have hgood (lo : Nat) (h : good lo) :
      badChannel s.params.chMax (v.extractLsb' 0 2) (rankFields v lo (lo + 6) (lo + 12) (lo + 18)) = none :=
    badChannel_none fun k => mt (hhigh lo k).mp (h k k.isLt)
  have refuses (u : AdcUnit) (h : run (s.adc u)) {r : AdcReg} (hr : r ∈ [AdcReg.cfgr, .smpr1, .smpr2, .sqr1, .jsqr]) :
      Cpu.runWrite s (s.regWrite (.adc u r) v) = .next (s.raise ⟨.adcRun, .num (if u = .one then 1 else 2)⟩) := by
    rw [regWrite_adc_error (fun e => by simp [e] at hr) (Adc.write_running_error (Adc.running_eq_true.mpr h) _ u v hr), runWrite_error,
      unitFault_eq]
  have takes (u : AdcUnit) (h : ¬run (s.adc u)) :
      let row := fun r => Cpu.runWrite s (s.regWrite (.adc u r) v)
      row .cfgr = .next (s.setAdc u (cfg (s.adc u))).advance ∧
      row .smpr1 = .next (s.setAdc u { s.adc u with smpr1 := v.extractLsb' 0 30 }).advance ∧
      row .smpr2 = .next (s.setAdc u { s.adc u with smpr2 := v.extractLsb' 0 27 }).advance ∧
      (∀ k, k < 4 → first 6 k → row .sqr1 = .next (s.raise ⟨.adcBadChannel, .num (ch 6 k).toNat⟩)) ∧
      (good 6 → row .sqr1 = .next (s.setAdc u (seq (s.adc u))).advance) ∧
      (2 ≤ (v.extractLsb' 2 5).toNat → row .jsqr = .next (s.raise ⟨.adcBadTrigger, .num (v.extractLsb' 2 5).toNat⟩)) ∧
      ((v.extractLsb' 2 5).toNat < 2 → ∀ k, k < 4 → first 9 k →
        row .jsqr = .next (s.raise ⟨.adcBadChannel, .num (ch 9 k).toNat⟩)) ∧
      ((v.extractLsb' 2 5).toNat < 2 → good 9 → row .jsqr = .next (s.setAdc u (inj (s.adc u))).advance) := by
    have ok {r : AdcReg} {b : Adc} (hr : r ≠ .cr) (hb : (s.adc u).write s.params.chMax u r v = .ok b) :
        Cpu.runWrite s (s.regWrite (.adc u r) v) = .next (s.setAdc u b).advance := by rw [regWrite_adc_ok hr hb, runWrite_ok]
    have fails {r : AdcReg} {f : FaultRecord} (hr : r ≠ .cr) (hf : (s.adc u).write s.params.chMax u r v = .error f) :
        Cpu.runWrite s (s.regWrite (.adc u r) v) = .next (s.raise f) := by rw [regWrite_adc_error hr hf, runWrite_error]
    have h := hidle _ h
    exact ⟨ok nofun (Adc.writeCfgr_ok h u v), ok nofun (Adc.writeSmpr1_ok h u v), ok nofun (Adc.writeSmpr2_ok h u v),
      fun k hk hf => fails nofun (Adc.writeSqr1_error h _ u v (hbad 6 k hk hf)),
      fun hg => ok nofun (Adc.writeSqr1_ok h _ u v (hgood 6 hg)), fun hsel => fails nofun (Adc.writeJsqr_trigger h _ u v hsel),
      fun hsel k hk hf => fails nofun (Adc.writeJsqr_channel h _ u v hsel (hbad 9 k hk hf)),
      fun hsel hg => ok nofun (Adc.writeJsqr_ok h _ u v hsel (hgood 9 hg))⟩
  refine ⟨fun h => ?_, fun h => ?_, takes .one, takes .two⟩
  · simp only [List.forall_mem_cons]
    exact ⟨refuses .one h (r := .cfgr) (by simp), refuses .one h (r := .smpr1) (by simp), refuses .one h (r := .smpr2) (by simp),
      refuses .one h (r := .sqr1) (by simp), refuses .one h (r := .jsqr) (by simp), nofun⟩
  · simp only [List.forall_mem_cons]
    exact ⟨refuses .two h (r := .cfgr) (by simp), refuses .two h (r := .smpr1) (by simp), refuses .two h (r := .smpr2) (by simp),
      refuses .two h (r := .sqr1) (by simp), refuses .two h (r := .jsqr) (by simp), nofun⟩

/-! ### Steps of the agents -/

/-- The step of an agent other than the host: its rule's effect, or a stutter where its guard does not hold (10_state.md R101). -/
theorem step_guarded {s t : State} {m : Move} {P : Prop} [Decidable P] (hf : s.fault = none) (ht : s.turn = m) (hm : m ≠ .statement)
    (hstep : s.agentStep m = if P then some t else none) : step s = if P then .next t.scheduled else .next s.scheduled := by
  have hmove : step s = .next (s.moveOrStay m).scheduled := by
    subst ht
    simp only [step, hf]
  rw [hmove, State.moveOrStay, hstep]
  split <;> rfl

/-- A unit's guarded rule, on the state. -/
theorem State.adcStep_guarded (s : State) (u : AdcUnit) (a : Adc) (P : Prop) [Decidable P] :
    s.adcStep u (if P then some a else none) = if P then some (s.setAdc u a) else none := by
  split <;> rfl

/-- A regular conversion: an overrun without overwrite stops the sequence, any other stores the code (42_adc.md R642, R644). -/
theorem Adc.convertRegular_eq {a : Adc} (hrun : a.adstart = true) (code : BitVec 16) : a.convertRegular code =
    if a.isr.eoc = true ∧ a.ovrmod = false then { a with isr := { a.isr with ovr := true }, adstart := false }
    else { a with
      dr := code
      isr := { a.isr with ovr := a.isr.ovr || a.isr.eoc, eoc := true, eos := a.isr.eos || a.rrank = a.sqLen }
      rrank := if a.rrank = a.sqLen then 0 else a.rrank + 1
      adstart := ¬(a.rrank = a.sqLen ∧ a.cont = false) } := by
  by_cases hover : a.isr.eoc = true ∧ a.ovrmod = false
  · simp [Adc.convertRegular, hover]
  · have hover' : (a.isr.eoc && !a.ovrmod) = false := by simpa using hover
    by_cases hlast : a.rrank = a.sqLen
    · simp [Adc.convertRegular, hover, hover', hlast, hrun]
    · simp [Adc.convertRegular, hover, hover', hlast, hrun]

/-- An injected conversion stores its code in the data register of its rank; the last ends the sequence (42_adc.md R647). -/
theorem Adc.convertInjected_eq {a : Adc} (hact : a.jact = true) (code : BitVec 16) : a.convertInjected code = { a with
    jdr := a.jdr.set a.jrank.toNat code
    isr := { a.isr with jeoc := true, jeos := a.isr.jeos || a.jrank = a.jsqLen }
    jact := a.jrank ≠ a.jsqLen
    jrank := if a.jrank = a.jsqLen then 0 else a.jrank + 1
    jadstart := if a.jrank = a.jsqLen ∧ a.jexten = 0 then false else a.jadstart } := by
  by_cases hlast : a.jrank = a.jsqLen
  · by_cases hsoft : a.jexten = 0#2
    · simp [Adc.convertInjected, hlast, hsoft, rankIndex]
    · simp [Adc.convertInjected, hlast, hsoft, rankIndex]
  · simp [Adc.convertInjected, hlast, hact, rankIndex]

/-- Settles O50: each agent's rule is a guard and an effect, and `Adc.convertRegular_eq` and `Adc.convertInjected_eq` are those of the
conversions. -/
theorem agentSteps : Obligations.AgentSteps := by
  unfold Obligations.AgentSteps
  intro s u c hf a become same code inject paired
  have hlock : s.lockstep = true ↔ paired := by simp [State.lockstep, paired, and_assoc]
  refine ⟨fun ht => ?_, fun ht => ?_, fun ht => ?_, fun ht => ?_, fun ht => ?_, fun ht => ?_, fun ht => ?_, fun ht => ?_⟩
  · exact step_guarded hf ht nofun (s.adcStep_guarded u _ _)
  · exact step_guarded hf ht nofun (s.adcStep_guarded u _ _)
  · exact step_guarded hf ht nofun (s.adcStep_guarded u _ _)
  · have hguard : a.regularEnabled = true ↔ a.en = .ready ∧ a.adstart = true ∧ a.jact = false := by
      simp [Adc.regularEnabled, and_assoc]
    refine (step_guarded (t := s.setAdc u (a.convertRegular (code u))) hf ht nofun (if_congr hguard rfl rfl)).trans
      (ite_congr rfl (fun hg => ?_) fun _ => rfl)
    rw [Adc.convertRegular_eq hg.2.1]
    split <;> rfl
  · have hguard : (a.jact && !s.lockstep) = true ↔ a.jact = true ∧ ¬paired := by
      rw [Bool.and_eq_true, Bool.not_eq_true', ← Bool.not_eq_true, hlock]
    refine (step_guarded (t := s.setAdc u (a.convertInjected (code u))) hf ht nofun (if_congr hguard rfl rfl)).trans
      (ite_congr rfl (fun hg => ?_) fun _ => rfl)
    rw [Adc.convertInjected_eq hg.1]
  · refine (step_guarded hf ht nofun (if_congr hlock rfl rfl)).trans (ite_congr rfl (fun hp => ?_) fun _ => rfl)
    obtain ⟨_, hact1, hact2, _⟩ := hp
    rw [Adc.convertInjected_eq hact1, Adc.convertInjected_eq hact2]
    rfl
  · refine step_guarded hf ht nofun ?_
    by_cases hstop : s.dma[c].stopping = true
    · simp only [State.agentStep, State.stopAckStep, DmaChannel.stopAck, if_pos hstop]; rfl
    · simp only [State.agentStep, State.stopAckStep, DmaChannel.stopAck, if_neg hstop]
  · refine step_guarded hf ht nofun ?_
    by_cases hbusy : s.cordic.busy = true
    · simp only [State.agentStep, State.cordicStep, Cordic.complete, if_pos hbusy]
    · simp only [State.agentStep, State.cordicStep, Cordic.complete, if_neg hbusy]

end Sys2Proof.Machine
end

section
/-! SUPPORT. The calls of the ADC operations as one step: each begins with a check, a read or a write whose rule is known (42_adc.md R603,
R660 to R671; 40_bus.md R427; log entry 7). -/
namespace Sys2Proof.Machine

/-! ### First statements of calls -/

section
variable {s : State} {rest : Prog}

/-- A first statement that checks an argument, whichever state the fault is raised in. -/
theorem runCall_checked {c info : Expr} {code : FaultCode} {next : Stmt} {bad : Prop} [Decidable bad]
    (h : s.eval c = .ok (Int.ofBool (decide bad))) :
    (¬bad → Cpu.runCall s (.brFault c code info :: next :: rest) = .done (s.entered (.brFault c code info :: next :: rest) 1)) ∧
    (bad → ∀ {n : Int}, s.eval info = .ok n → Cpu.runCall s (.brFault c code info :: next :: rest) = .fault ⟨code, .num n⟩) := by
  rw [runCall_cons s _ _ (by simp)]
  refine ⟨fun hgood => ?_, fun hbad n hn => ?_⟩
  · simp [Cpu.runStmt, Cpu.runBrFault, eval_expand, h, advance_expand, Int.ofBool, hgood]
  · simp [Cpu.runStmt, Cpu.runBrFault, eval_expand, h, hn, Int.ofBool, hbad]

/-- A call of one statement, done without another effect, is at its end (40_bus.md R427). -/
theorem advance_only (s : State) (st : Stmt) : (s.setTop (s.top.expand [st])).advance = s.advance := by
  simp only [State.advance, State.top_setTop, State.setTop_setTop]
  rfl

/-- One that writes a register. -/
theorem runCall_wr {r : Reg} {e : Expr} {v : Int} (hp : s.params.wf = true) (hr : r.present s.params = true) (he : s.eval e = .ok v) :
    Cpu.runCall s (.wr .b4 (regE s.params r) e :: rest) =
      Cpu.finishWrite ((s.setTop (s.top.expand (.wr .b4 (regE s.params r) e :: rest))).regWrite r (BitVec.ofInt 32 v)) := by
  rw [runCall_cons s _ _ (by simp)]
  simp only [Cpu.runStmt, Cpu.runWr, State.wrTransaction, State.evalWord_regE, State.evalWord_ok ((eval_expand s _ e).trans he),
    Cpu.transact, State.hostWrite, State.setTop_params, locate_word s.params hp r hr, Size.trunc]

/-- One that reads the trim halfword. -/
theorem runCall_rd_trim {x : LocalName} (hp : s.params.wf = true) :
    Cpu.runCall s (.rd x .b2 (.num s.params.trimAddr) :: rest) =
      .done ((s.setTop (s.top.expand (.rd x .b2 (.num s.params.trimAddr) :: rest))).loaded x (0#16 ++ s.trim)) := by
  rw [runCall_cons s _ _ (by simp)]
  refine runStmt_rd _ _ x .b2 _ (BitVec.ofNat 32 s.params.trimAddr) (0#16 ++ s.trim) .word (current_expand _ _ _)
    (State.evalWord_natCast _ _) ?_
  simp only [State.hostRead, State.setTop_params, locate_trimAddr s.params hp, State.trimRead_b2, State.setTop_trim]

end

/-- The call of an operation, by what its first statement gives. -/
theorem exec_of_done {s t : State} {i : Instr} (ho : i.isOperation = true)
    (h : Cpu.runCall s (expansion s.params i s.callDests) = .done t) : exec i s = .next t := by
  rw [exec_operation i s ho, h, Cpu.outcome]

theorem exec_of_fault {s : State} {i : Instr} {f : FaultRecord} (ho : i.isOperation = true)
    (h : Cpu.runCall s (expansion s.params i s.callDests) = .fault f) : exec i s = .next (s.raise f) := by
  rw [exec_operation i s ho, h, Cpu.outcome]

theorem State.SameUnits.adc {s t : State} (h : s.SameUnits t) (u : AdcUnit) : t.adc u = s.adc u := by
  obtain ⟨-, h1, h2, -⟩ := h
  cases u with
  | one => exact h1
  | two => exact h2

/-- A register of the ADC other than `DR` reads without a side effect. -/
theorem regRead_adc (s : State) (u : AdcUnit) {r : AdcReg} (hr : r ≠ .dr) :
    s.regRead (.adc u r) = .value ((s.adc u).read r) s := by
  cases r <;> first | exact absurd rfl hr | rfl

/-! ### The writes that begin a call -/

/-- 0x40 clears `JEOS` (42_adc.md R601). -/
theorem Adc.writeIsr_jeos (a : Adc) : a.writeIsr (BitVec.ofInt 32 0x40) = { a with isr := { a.isr with jeos := false } } := by
  simp [Adc.writeIsr, Word.bit]

/-- The zero word switches the unit off (42_adc.md R603). -/
theorem Adc.crEffect_zero (a : Adc) : a.crEffect 0#32 = { a with
    vreg := if a.advregen then .off else a.vreg, advregen := false, deeppwd := false, adcaldif := false } := by
  cases h : a.advregen <;> simp [Adc.crEffect, Adc.crStarts, Word.bit, h]

theorem Adc.crStarts_of_bit {a : Adc} {v : Word} (h : Word.bit v 3 = false) : a.crStarts v = false := by
  simp [Adc.crStarts, h]

/-- An accepted write of `CR` without a software start changes the unit alone. -/
theorem regWrite_cr_unit {s : State} {u : AdcUnit} {v : Word} (h : (s.adc u).CrAccepts v) (hv : Word.bit v 3 = false) :
    s.regWrite (.adc u .cr) v = .ok (s.setAdc u ((s.adc u).crEffect v)) := by
  rw [regWrite_cr_ok h, Adc.crStarts_of_bit hv, Bool.not_false, Bool.and_true]
  rfl

@[simp] theorem State.setTop_adc (s : State) (a : Activity) (u : AdcUnit) : (s.setTop a).adc u = s.adc u := by
  cases u <;> rfl

/-- Only the first check concerns it. -/
theorem Adc.crAccepts_zero {a : Adc} : a.CrAccepts 0#32 ↔
    ¬((a.aden = true ∨ a.adcal = true) ∧ (a.advregen = true ∨ a.deeppwd = true ∨ a.adcaldif = true)) := by
  have hbit (i : Nat) : Word.bit 0#32 i = false := by simp [Word.bit]
  refine ⟨fun h ⟨hon, hany⟩ => ?_, fun h => ⟨fun hon => ?_, ?_, ?_, ?_, ?_, ?_⟩⟩
  · obtain ⟨h28, h29, h30⟩ := h.locked hon
    simp [← h28, ← h29, ← h30, hbit] at hany
  · have hnone := not_and.mp h hon
    simp only [not_or, Bool.not_eq_true] at hnone
    simp [hbit, hnone]
  all_goals simp [hbit]

/-- Settles O37: the first statement of each call is a check, an assignment, a read or a write; two calls begin with one. -/
theorem adcOperationCalls : Obligations.AdcOperationCalls := by
  unfold Obligations.AdcOperationCalls
  intro s u hp a refused
  have reads (v : AdcUnit) {r : AdcReg} (hr : r ≠ .dr) (t : State) (ht : s.SameUnits t) :
      t.regRead (.adc v r) = .value ((s.adc v).read r) t := by rw [regRead_adc t v hr, ht.adc]
  have above {e : Expr} {v : Int} (t : State) (he : t.eval e = .ok v) :
      t.eval (gtE e s.params.chMax) = .ok (Int.ofBool (decide ((s.params.chMax : Int) < v))) := Expr.eval_gtE he _
  refine ⟨fun h => ?_, fun h => ?_, exec_of_done rfl (runCall_rd (r := .adc u .cr) hp rfl (reads u nofun)),
    exec_of_done rfl (runCall_rd (r := .adc u .cr) hp rfl (reads u nofun)), fun r j k x y z hr hj hk hx hy hz => ?_,
    fun r j k x y z hr hj hk hbad => ?_, fun ch n smp v hv hle => ?_, fun ch n smp v hv hgt => ?_, fun ch v hv hle => ?_,
    fun ch v hv hgt => ?_, exec_of_done rfl (runCall_rd_trim hp), ?_, ?_,
    exec_of_done rfl (runCall_rd (r := .adc u .isr) hp rfl (reads u nofun)), fun k v hk hlo hhi => ?_, fun k v hk hbad => ?_, ?_⟩
  · refine exec_of_done rfl ((runCall_wr (r := .adc u .cr) hp rfl rfl).trans ?_)
    rw [regWrite_cr_unit (by rw [State.setTop_adc]; exact Adc.crAccepts_zero.mpr h) (by decide), State.setTop_adc]
    refine congrArg StmtResult.done ((advance_expand (s.setAdc u _) _ _ _).trans ?_)
    rw [show BitVec.ofInt 32 0x00000000 = 0#32 from rfl, Adc.crEffect_zero]
    rfl
  · refine exec_of_fault rfl ((runCall_wr (r := .adc u .cr) hp rfl rfl).trans ?_)
    rw [regWrite_cr_error (by rw [State.setTop_adc]; exact mt Adc.crAccepts_zero.mp (not_not.mpr h))]
    rfl
  · exact exec_of_done rfl ((runCall_checked (Expr.eval_anyAbove hr hj hk _)).1 (by omega))
  · exact exec_of_fault rfl ((runCall_checked (Expr.eval_anyAbove hr hj hk _)).2 hbad (Expr.eval_max3E hr hj hk))
  · exact exec_of_done rfl ((runCall_checked (above s hv)).1 (by omega))
  · exact exec_of_fault rfl ((runCall_checked (above s hv)).2 hgt hv)
  · have hv := (eval_expand s (bodyAdcGetAverage s.params u ch (destOr s.callDests 0 .adcGetAverageAvg)) ch).trans hv
    exact exec_of_done rfl ((runCall_nested rfl (by simp)).trans ((runCall_checked (above _ hv)).1 (by omega)))
  · have hv := (eval_expand s (bodyAdcGetAverage s.params u ch (destOr s.callDests 0 .adcGetAverageAvg)) ch).trans hv
    exact exec_of_fault rfl ((runCall_nested rfl (by simp)).trans ((runCall_checked (above _ hv)).2 hgt hv))
  · refine exec_of_done rfl ((runCall_nested rfl (by simp)).trans ((runCall_rd_trim (s := s.setTop _) hp).trans ?_))
    rw [State.top_setTop]
    rfl
  · refine exec_of_done rfl ((runCall_wr (r := .adc u .isr) hp rfl rfl).trans ?_)
    rw [regWrite_adc_ok (r := .isr) nofun rfl, State.setTop_adc, Adc.writeIsr_jeos]
    exact congrArg StmtResult.done (advance_only (s.setAdc u _) _)
  · exact exec_of_done rfl ((runCall_checked (Expr.eval_outside hk 1 2)).1 (by omega))
  · exact exec_of_fault rfl ((runCall_checked (Expr.eval_outside hk 1 2)).2 hbad hk)
  · have hbase : ((Window.adc u).base s.params : Int) + 0x40 =
        ((if u = .one then s.params.adc1Base else s.params.adc2Base) + 0x40 : Nat) := by cases u <;> rfl
    rw [← BitVec.ofInt_natCast, ← hbase]
    exact exec_of_done rfl (runCall_assign rfl)

end Sys2Proof.Machine
end

section
/-! SUPPORT. More of whole calls: how many steps have been taken, jumps, polls and waits of a call, the steps of other agents in it, and
calls inside a call (40_bus.md R404, R422, R423, R425, R427; log entries 2, 7 and 17). -/
namespace Sys2Proof.Machine

/-! ### The step counter -/

theorem State.BusEffect.stepNo {s t : State} (h : s.BusEffect t) : t.stepNo = s.stepNo := by
  cases h with
  | none => rfl
  | read h => exact (regRead_host _ _ _ _ h).stepNo
  | write h => exact (regWrite_host _ _ _ _ h).stepNo
  | mem => rfl

theorem transact_stepNo {s t : State} {x : Transaction} (h : Cpu.transact s x = .done t) : t.stepNo = s.stepNo := by
  cases x with
  | rd n a =>
    simp only [Cpu.transact, Cpu.finishRead] at h
    split at h
    · cases h
    · split at h
      · cases h
      · cases h
      · rename_i hread
        exact (State.absorb_frame h).stepNo.trans (hostRead_busEffect hread).stepNo
  | wr n a d =>
    simp only [Cpu.transact, Cpu.finishWrite] at h
    split at h <;> cases h
    rename_i hwrite
    exact (hostWrite_busEffect hwrite).stepNo

/-- A statement counts no step. -/
theorem runStmt_stepNo {s t : State} {st : Stmt} (h : Cpu.runStmt s st = .done t) : t.stepNo = s.stepNo := by
  have hread (n : Size) (a : Expr) (h : Cpu.runRd s n a = .done t) : t.stepNo = s.stepNo := by
    simp only [Cpu.runRd] at h
    split at h
    · cases h
    · exact transact_stepNo h
  cases st with
  | rd x n a => exact hread n a h
  | poll a m v => exact hread .b4 a h
  | wr n a e =>
    simp only [Cpu.runStmt, Cpu.runWr] at h
    split at h
    · cases h
    · exact transact_stepNo h
  | wait n => simp only [Cpu.runStmt, Cpu.runWait] at h; split at h <;> cases h <;> rfl
  | set x e => simp only [Cpu.runStmt, Cpu.runSet] at h; split at h <;> cases h; rfl
  | br c l =>
    simp only [Cpu.runStmt, Cpu.runBr] at h
    split at h
    · cases h
    · split at h <;> cases h <;> rfl
  | brFault c code info =>
    simp only [Cpu.runStmt, Cpu.runBrFault] at h
    split at h
    · cases h
    · split at h
      · split at h <;> cases h
      · cases h; rfl
  | jmp l => cases h; rfl
  | call i ds => cases h
  | ret =>
    simp only [Cpu.runStmt, Cpu.runRet] at h
    split at h <;> cases h
    obtain ⟨_, _, _, rfl, _⟩ := leaveHandler_ok s _ (by assumption)
    rfl
  | halt => simp only [Cpu.runStmt, Cpu.runHalt] at h; split at h <;> cases h; rfl

theorem outcome_stepNo {s u t : State} {st : Stmt} (hu : u.stepNo = s.stepNo) (h : Cpu.outcome s (Cpu.runStmt u st) = .next t) :
    t.stepNo = s.stepNo := by
  cases hr : Cpu.runStmt u st with
  | done w => rw [hr] at h; cases h; exact (runStmt_stepNo hr).trans hu
  | hold => rw [hr] at h; cases h; rfl
  | fault f => rw [hr] at h; cases h; rfl

theorem hostStatement_stepNo {s t : State} (h : Cpu.hostStatement s = .next t) : t.stepNo = s.stepNo := by
  cases hi : s.hostIdle with
  | true => simp only [Cpu.hostStatement, hi, if_true] at h; cases h; rfl
  | false =>
    cases hc : s.top.current with
    | none => simp only [Cpu.hostStatement, hi, hc] at h; exact outcome_stepNo (st := .halt) rfl h
    | some st =>
      by_cases hcall : ∃ i ds, st = .call i ds
      · obtain ⟨i, ds, rfl⟩ := hcall
        simp only [Cpu.hostStatement, hi, hc, Bool.false_eq_true, if_false] at h
        split at h
        · rename_i ho
          obtain ⟨st, hl, _⟩ := leading_callStart s.params s.callDests i ho
          obtain ⟨a, _, _, _, _, hexec⟩ := exec_operation_leading ho hl
          exact outcome_stepNo (u := s.setTop a) rfl (hexec ▸ h)
        · cases h; rfl
      · rw [hostStatement_eq_runStmt hi hc fun j ds e => hcall ⟨j, ds, e⟩] at h
        exact outcome_stepNo rfl h

theorem moveElement_stepNo {s t : State} {c : Fin 16} {n : Size} {src dst p m : Word}
    (h : s.moveElement c n src dst p m = some t) : t.stepNo = s.stepNo := by
  simp only [State.moveElement, State.dmaBusRead] at h
  split at h
  · cases h
  · cases h; rfl
  · rename_i v u hread
    have hu : u.stepNo = s.stepNo := by
      split at hread <;> cases hread
      exact (hostRead_busEffect (by assumption)).stepNo
    split at h
    · cases h; exact hu
    · cases h; rfl
    · rename_i hwrite
      cases h
      exact (dmaBusWrite_busEffect hwrite).stepNo.trans hu

theorem agentStep_stepNo {s t : State} {m : Move} (h : s.agentStep m = some t) : t.stepNo = s.stepNo := by
  by_cases hm : m = .beat
  · subst hm
    simp only [State.agentStep, State.beatStep] at h
    split at h
    · cases h
    · simp only [State.beatOf] at h
      split at h
      · cases h; rfl
      · split at h <;> exact moveElement_stepNo h
  · rcases agentStep_some s t m hm h with ⟨_, _, _, rfl⟩ | ⟨_, rfl⟩ | ⟨_, _, _, rfl⟩ | ⟨_, _, _, rfl⟩ | ⟨_, _, _, rfl⟩ |
      ⟨_, _, _, rfl⟩ | ⟨_, _, _, _, rfl⟩ | ⟨_, _, rfl⟩ | ⟨_, _, _, rfl⟩ | ⟨_, _, _, rfl⟩ <;> rfl

/-- Every step counts one (log entry 2). -/
theorem step_stepNo {s t : State} (h : step s = .next t) : t.stepNo = s.stepNo + 1 := by
  simp only [step] at h
  split at h
  · cases h
  · split at h
    · cases hh : Cpu.hostStatement s with
      | next u => rw [hh] at h; cases h; exact congrArg (· + 1) (hostStatement_stepNo hh)
      | fault r => rw [hh] at h; cases h
      | refused r => rw [hh] at h; cases h
    · cases h
      refine congrArg (· + 1) ?_
      simp only [State.moveOrStay]
      cases ha : s.agentStep s.turn with
      | none => rfl
      | some u => exact agentStep_stepNo ha

theorem runMoves_stepNo {t : State} : ∀ {ms : List Move} {s : State}, runMoves ms s = .next t → t.stepNo = s.stepNo + ms.length
  | [], s, h => by cases h; rfl
  | m :: ms, s, h => by
    simp only [runMoves] at h
    split at h
    · rename_i u hu
      rw [runMoves_stepNo h, step_stepNo hu, List.length_cons]
      exact Nat.add_right_comm ..
    · cases h
    · cases h

/-- Moves one after another. -/
theorem runMoves_append {t : State} {ms' : List Move} : ∀ {ms : List Move} {s : State}, runMoves ms s = .next t →
    runMoves (ms ++ ms') s = runMoves ms' t
  | [], s, h => by cases h; rfl
  | m :: ms, s, h => by
    simp only [runMoves, List.cons_append] at h ⊢
    split at h
    · exact runMoves_append h
    · cases h
    · cases h

/-! ### Runs: jumps, polls, waits, other agents -/

theorem State.SameUnits.trans {s t w : State} (h : s.SameUnits t) (h' : t.SameUnits w) : s.SameUnits w := by
  obtain ⟨pwm, adc1, adc2, paired, dma, mux, cordic, xform, intc, ram, trim, vec, params⟩ := h
  obtain ⟨pwm', adc1', adc2', paired', dma', mux', cordic', xform', intc', ram', trim', vec', params'⟩ := h'
  exact ⟨pwm'.trans pwm, adc1'.trans adc1, adc2'.trans adc2, paired'.trans paired, dma'.trans dma, mux'.trans mux, cordic'.trans cordic,
    xform'.trans xform, intc'.trans intc, ram'.trans ram, trim'.trans trim, vec'.trans vec, params'.trans params⟩

section
variable {s t u u' : State} {ms ms' : List Move} {body body' : Prog} {k l : Nat} {env env' : List (LocalName × Word)}

theorem State.inCall_jump (h : k < body.length) : (s.inCall body env k).jump l = s.inCall body env l := by
  rw [State.inCall_of_lt h]
  rfl

/-- A statement of the call that goes to label l, where it may be the next one. -/
theorem State.Runs.goes {st : Stmt} (h : s.Runs ms body k u env) (hk : body[k]? = some st) (hst : ∀ j ds, st ≠ .call j ds)
    (hdo : ∀ t, s.HostAt u (s.inCall body env k) t → ∃ t', Cpu.runStmt t st = .done t' ∧ s.HostAt u' (s.inCall body env' l) t') :
    s.Runs (ms ++ [Move.statement]) body l u' env' := by
  obtain ⟨t, hrun, hat⟩ := h
  have hat' := hat.turn .statement
  obtain ⟨t', hdone, hat''⟩ := hdo _ hat'
  have hcur : ({ t with turn := .statement } : State).top.current = some st := by rw [hat'.top]; exact State.inCall_current hk
  exact ⟨t'.scheduled, runMoves_snoc hrun (step_of_done hat'.fault rfl hat'.idle hcur hst hdone), hat''.scheduled⟩

/-- A branch of the call (40_bus.md R425). -/
theorem State.Runs.branch {c : Expr} {v : Int} (h : s.Runs ms body k u env) (hk : body[k]? = some (.br c l))
    (hc : Expr.eval env c = .ok v) : s.Runs (ms ++ [Move.statement]) body (if v ≠ 0 then l else k + 1) u env := by
  have hlt := (List.getElem?_eq_some_iff.mp hk).1
  refine h.goes hk (by simp) fun t ht => ?_
  by_cases hv : v = 0
  · refine ⟨t.advance, by simp [Cpu.runStmt, Cpu.runBr, ht.eval hc, hv], ?_⟩
    rw [if_neg (not_not.mpr hv), ← State.inCall_next hlt]
    exact ht.advance (.refl t) ht.units
  · refine ⟨t.setTop (t.top.jump l), by simp [Cpu.runStmt, Cpu.runBr, Cpu.runJmp, ht.eval hc, hv], ?_⟩
    rw [if_pos hv, ht.top, State.inCall_jump hlt]
    exact ht.setTop _

/-- A branch on a condition. -/
theorem State.Runs.branch_if {c : Expr} {p : Prop} [Decidable p] (h : s.Runs ms body k u env) (hk : body[k]? = some (.br c l))
    (hc : Expr.eval env c = .ok (Int.ofBool (decide p))) : s.Runs (ms ++ [Move.statement]) body (if p then l else k + 1) u env := by
  have hbranch := h.branch hk hc
  by_cases hp : p
  · rw [decide_eq_true hp] at hbranch
    rwa [if_pos hp]
  · rw [decide_eq_false hp] at hbranch
    rwa [if_neg hp]

theorem State.Runs.jump (h : s.Runs ms body k u env) (hk : body[k]? = some (.jmp l)) :
    s.Runs (ms ++ [Move.statement]) body l u env := by
  refine h.goes hk (by simp) fun t ht => ⟨t.setTop (t.top.jump l), rfl, ?_⟩
  rw [ht.top, State.inCall_jump (List.getElem?_eq_some_iff.mp hk).1]
  exact ht.setTop _

/-- A check of the call that passes, by what it asks. -/
theorem State.Runs.passes {c info : Expr} {code : FaultCode} {bad : Prop} [Decidable bad] (h : s.Runs ms body k u env)
    (hk : body[k]? = some (.brFault c code info)) (hc : Expr.eval env c = .ok (Int.ofBool (decide bad))) (hgood : ¬bad) :
    s.Runs (ms ++ [Move.statement]) body (k + 1) u env :=
  h.stmt hk (by simp) (.check (List.getElem?_eq_some_iff.mp hk).1 code info (hc.trans (by rw [decide_eq_false hgood]; rfl)))

/-- A check of the call that fails. -/
theorem State.Runs.check_faults {c info : Expr} {code : FaultCode} {bad : Prop} [Decidable bad] {n : Int} (h : s.Runs ms body k u env)
    (hk : body[k]? = some (.brFault c code info)) (hc : Expr.eval env c = .ok (Int.ofBool (decide bad))) (hbad : bad)
    (hn : Expr.eval env info = .ok n) : s.CallFaults (ms ++ [Move.statement]) u ⟨code, .num n⟩ := by
  refine h.faults hk (by simp) fun t ht => ?_
  simp [Cpu.runStmt, Cpu.runBrFault, ht.eval hc, ht.eval hn, hbad, Int.ofBool]

theorem State.Runs.assign {x : LocalName} {e : Expr} {v : Int} (h : s.Runs ms body k u env) (hk : body[k]? = some (.set x e))
    (he : Expr.eval env e = .ok v) : s.Runs (ms ++ [Move.statement]) body (k + 1) u (writeLocal env x (BitVec.ofInt 32 v)) :=
  h.stmt hk (by simp) (.assign (List.getElem?_eq_some_iff.mp hk).1 he)

/-- A poll whose value matches at once (40_bus.md R422). -/
theorem State.Runs.poll {r : Reg} {m w : Int} {v : Word} (h : s.Runs ms body k u env)
    (hk : body[k]? = some (.poll (regE u.params r) (.num m) (.num w))) (hp : u.params.wf = true) (hr : r.present u.params = true)
    (hv : ∀ t, u.SameUnits t → t.regRead r = .value v t) (hmatch : v &&& BitVec.ofInt 32 m = BitVec.ofInt 32 w) :
    s.Runs (ms ++ [Move.statement]) body (k + 1) u env := by
  have hlt := (List.getElem?_eq_some_iff.mp hk).1
  refine h.goes hk (by simp) fun t ht => ?_
  have hparams : t.params = u.params := ht.units.same_params
  have hsink := sink_poll (by rw [ht.top]; exact State.inCall_current hk) (t.evalWord_regE _ r) (t.evalWord_ok (v := m) rfl)
    (t.evalWord_ok (v := w) rfl)
  have hdone : Cpu.runStmt t (.poll (regE u.params r) (.num m) (.num w)) = .done { t with busData := v }.advance := by
    simp only [Cpu.runStmt, Cpu.runRd, t.evalWord_regE, Cpu.transact, State.hostRead, hparams, locate_word u.params hp r hr,
      hv t ht.units, Cpu.finishRead, hsink, Lane.take, absorb_poll_match hmatch]
  refine ⟨_, hdone, ?_⟩
  have hadv : ({ t with busData := v } : State).advance = ({ t with busData := v } : State).setTop (s.inCall body env (k + 1)) := by
    rw [State.advance, ← State.inCall_next hlt]
    exact congrArg (fun a : Activity => ({ t with busData := v } : State).setTop a.next) ht.top
  exact hadv ▸ ht.moved (.refl t) ht.units v (s.inCall body env (k + 1))

/-- A wait that has r + 1 steps left, the last of which moves on (40_bus.md R423; log entry 17). -/
theorem runMoves_wait {n r : Nat} (hk : body[k]? = some (.wait n)) : ∀ {i : Nat} {t : State}, i + r + 1 = max 1 n →
    s.HostAt u { s.inCall body env k with waits := i } t →
    ∃ t', runMoves (List.replicate (r + 1) Move.statement) t = .next t' ∧ s.HostAt u (s.inCall body env (k + 1)) t' := by
  have hlt := (List.getElem?_eq_some_iff.mp hk).1
  have hcur (i : Nat) : Activity.current { s.inCall body env k with waits := i } = some (.wait n) := State.inCall_current hk
  have onestep {i : Nat} {t t' : State} (ht : s.HostAt u { s.inCall body env k with waits := i } t)
      (hdone : Cpu.runStmt { t with turn := .statement } (.wait n) = .done t') : step { t with turn := .statement } = .next t'.scheduled :=
    step_of_done ht.fault rfl (ht.turn .statement).idle (by rw [(ht.turn .statement).top]; exact hcur i) (by simp) hdone
  induction r with
  | zero =>
    intro i t hi ht
    have hat := ht.turn .statement
    have hlast : ¬(({ t with turn := .statement } : State).top.waits + 1 < n) := by rw [hat.top]; show ¬(i + 1 < n); omega
    refine ⟨_, runMoves_snoc (ms := []) rfl (onestep ht (if_neg hlast)), State.HostAt.scheduled ?_⟩
    have hnext : Activity.next { s.inCall body env k with waits := i } = s.inCall body env (k + 1) := by
      rw [State.inCall_of_lt hlt]; rfl
    exact hnext ▸ hat.advance (.refl _) hat.units
  | succ r ih =>
    intro i t hi ht
    have hat := ht.turn .statement
    have hmore : ({ t with turn := .statement } : State).top.waits + 1 < n := by rw [hat.top]; show i + 1 < n; omega
    have hset : ({ t with turn := .statement } : State).top = { s.inCall body env k with waits := i } := hat.top
    have hnext := (hat.setTop { s.inCall body env k with waits := i + 1 }).scheduled
    obtain ⟨t', hrun, hat'⟩ := ih (i := i + 1) (by omega) hnext
    refine ⟨t', ?_, hat'⟩
    rw [List.replicate_succ]
    have hstep := onestep ht (if_pos hmore)
    simp only [runMoves, hstep, hset]
    exact hrun

theorem State.Runs.wait {n : Nat} (h : s.Runs ms body k u env) (hk : body[k]? = some (.wait n)) :
    s.Runs (ms ++ List.replicate (max 1 n) Move.statement) body (k + 1) u env := by
  obtain ⟨t, hrun, hat⟩ := h
  have hn : 0 + (max 1 n - 1) + 1 = max 1 n := by omega
  obtain ⟨t', hwait, hat'⟩ := runMoves_wait hk (i := 0) hn hat
  rw [Nat.zero_add] at hn
  exact ⟨t', (runMoves_append hrun).trans (hn ▸ hwait), hat'⟩

/-- Another agent steps between two statements, at a step that the moves before it count (10_state.md R101; log entry 2). -/
theorem State.Runs.agent {m : Move} (h : s.Runs ms body k u env) (hm : m ≠ .statement)
    (hstep : ∀ t, u.SameUnits t → t.stepNo = s.stepNo + ms.length →
      ∃ w, t.agentStep m = some w ∧ SameHost t w ∧ u'.SameUnits w) :
    s.Runs (ms ++ [m]) body k u' env := by
  obtain ⟨t, hrun, hat⟩ := h
  have hat' := hat.turn m
  have hno : t.stepNo = s.stepNo + ms.length := runMoves_stepNo hrun
  obtain ⟨w, hw, hhost, hunits⟩ := hstep { t with turn := m } hat'.units hno
  refine ⟨w.scheduled, runMoves_snoc hrun ?_, ?_⟩
  · rw [step_guarded (P := True) hat'.fault rfl hm (hw.trans (if_pos trivial).symm), if_pos trivial]
  · have hmoved := hat'.moved hhost hunits w.busData w.top
    rw [State.setTop_top, hhost.top, hat'.top] at hmoved
    exact hmoved.scheduled

/-! ### Calls inside a call -/

theorem State.HostAt.ne_nil {a : Activity} (h : s.HostAt u a t) (hs : s.handlers ≠ []) : t.handlers ≠ [] :=
  fun e => hs (List.length_eq_zero_iff.mp (by rw [← h.length, e, List.length_nil]))

/-- What follows a state of the call is part of the call. -/
theorem State.HostAt.trans {w : State} {a b : Activity} (h : s.HostAt u a t) (h' : t.HostAt u' b w) : s.HostAt u' b w where
  units := h'.units
  fault := h'.fault
  top := h'.top
  idle := h'.idle
  halted := h'.halted.trans h.halted
  length := h'.length.trans h.length
  tail := h'.tail.trans h.tail
  bg hs := (h'.bg (h.ne_nil hs)).trans (h.bg hs)

/-- At the end of a call inside the call, the statement after it is next, with the locals that the inner one leaves. -/
theorem State.HostAt.returns {w : State} (h : s.HostAt u (s.inCall body env k) t) (hk : k < body.length)
    (h' : t.HostAt u' (t.inCall body' env' body'.length) w) : s.HostAt u' (s.inCall body env' (k + 1)) w := by
  have hend : t.inCall body' env' body'.length = s.inCall body env' (k + 1) := by
    rw [State.inCall_end, h.top, State.inCall_next hk]
    rfl
  exact hend ▸ h.trans h'

/-- The units a run ends with may be taken from any state with the same ones. -/
theorem State.Runs.of_sameUnits {w : State} (h : s.Runs ms body k u env) (hw : w.SameUnits u) : s.Runs ms body k w env := by
  obtain ⟨t, hrun, hat⟩ := h
  exact ⟨t, hrun, hw.trans hat.units, hat.fault, hat.top, hat.idle, hat.halted, hat.length, hat.tail, hat.bg⟩

/-- A CALL inside the call, by its own run; of the locals it leaves, what that run says. -/
theorem State.Runs.call {i : Instr} {ds : List LocalName} {P : List (LocalName × Word) → Prop} (h : s.Runs ms body k u env)
    (hk : body[k]? = some (.call i ds)) (hp : u.params.wf = true)
    (hcall : ∀ t, u.SameUnits t → t.stepNo = s.stepNo + ms.length → t.top.loc = env → t.AtCall i ds →
      ∃ env', t.Runs ms' body' body'.length u' env' ∧ P env') : ∃ env', s.Runs (ms ++ ms') body (k + 1) u' env' ∧ P env' := by
  obtain ⟨t, hrun, hat⟩ := h
  have hparams : t.params = u.params := hat.units.same_params
  obtain ⟨env', ⟨t', hrun', hat'⟩, hP⟩ := hcall t hat.units (runMoves_stepNo hrun) (by rw [hat.top]; rfl)
    ⟨hparams ▸ hp, hat.fault, hat.idle, by rw [hat.top]; exact State.inCall_current hk⟩
  exact ⟨env', ⟨t', (runMoves_append hrun).trans hrun', hat.returns (List.getElem?_eq_some_iff.mp hk).1 hat'⟩, hP⟩

/-- The state in which the first CALL of an expansion is reached: the call of it is part of the same step (log entry 7). -/
def State.inFirstCall (s : State) (body : Prog) : State := s.setTop (s.top.expand body)

theorem State.AtCall.inFirstCall {i j : Instr} {ds ds' : List LocalName} {rest : Prog} (h : s.AtCall i ds) :
    (s.inFirstCall (.call j ds' :: rest)).AtCall j ds' ∧
      s.HostAt s (s.inCall (.call j ds' :: rest) s.top.loc 0) (s.inFirstCall (.call j ds' :: rest)) := by
  obtain ⟨hp, hf, hi, _⟩ := h
  refine ⟨⟨hp, hf, (s.setTop_hostIdle _).trans hi, current_expand _ _ _⟩, ?_⟩
  have here : s.HostAt s s.top s := ⟨.refl s, hf, rfl, hi, rfl, rfl, rfl, fun _ => rfl⟩
  have hbody : s.inCall (.call j ds' :: rest) s.top.loc 0 = s.top.expand (.call j ds' :: rest) := by
    rw [State.inCall_of_lt (by simp)]; rfl
  rw [hbody]
  exact here.setTop _

/-- The moves of that call are those of the whole, when its first statement is done. -/
theorem State.AtCall.runMoves_first {i j : Instr} {ds ds' : List LocalName} {st : Stmt} {rest : Prog} (h : s.AtCall i ds)
    (ho : i.isOperation = true) (hi : expansion s.params i ds = .call j ds' :: rest) (hoj : j.isOperation = true)
    (hj : expansion s.params j ds' = st :: body') (hst : ∀ i ds, st ≠ .call i ds)
    (hdo : (s.inFirstCall (.call j ds' :: rest)).Does (st :: body') 0 st (s.inFirstCall (.call j ds' :: rest)) s.top.loc u' env') :
    runMoves (.statement :: ms) s = runMoves (.statement :: ms) (s.inFirstCall (.call j ds' :: rest)) := by
  obtain ⟨hat, _⟩ := h.inFirstCall (j := j) (ds' := ds') (rest := rest)
  have hloc : (s.inFirstCall (.call j ds' :: rest)).top.loc = s.top.loc := by rw [State.inFirstCall, State.top_setTop]; rfl
  obtain ⟨w, hdone, _⟩ := hdo _ (hloc ▸ hat.entered (by simp))
  have hinner := hat.step hoj
  have houter := h.step ho
  rw [hi, runCall_nested (s := { s with turn := .statement }) hj hst] at houter
  rw [show expansion (s.inFirstCall (.call j ds' :: rest)).params j ds' = st :: body' from hj] at hinner
  rw [runCall_cons _ _ _ hst] at hinner houter
  have hsame : Machine.step ({ s with turn := .statement } : State) =
      Machine.step ({ s.inFirstCall (.call j ds' :: rest) with turn := .statement } : State) := by
    rw [hinner, houter]
    have hnext (v : State) : Cpu.schedule (Cpu.outcome v (.done w)) = .next w.scheduled := rfl
    exact ((congrArg (fun r => Cpu.schedule (Cpu.outcome ({ s with turn := .statement } : State) r)) hdone).trans (hnext _)).trans
      ((congrArg (fun r => Cpu.schedule (Cpu.outcome
        ({ s.inFirstCall (.call j ds' :: rest) with turn := .statement } : State) r)) hdone).trans (hnext _)).symm
  simp only [runMoves, hsame]

section
variable {i j : Instr} {ds ds' : List LocalName} {st : Stmt} {rest : Prog}

/-- The run of a first CALL is a run of the call it begins. -/
theorem State.AtCall.runs_first (h : s.AtCall i ds) (ho : i.isOperation = true) (hi : expansion s.params i ds = .call j ds' :: rest)
    (hoj : j.isOperation = true) (hj : expansion s.params j ds' = st :: body') (hst : ∀ i ds, st ≠ .call i ds)
    (hdo : (s.inFirstCall (.call j ds' :: rest)).Does (st :: body') 0 st (s.inFirstCall (.call j ds' :: rest)) s.top.loc u' env')
    (hrun : (s.inFirstCall (.call j ds' :: rest)).Runs (.statement :: ms) (st :: body') (st :: body').length u env) :
    s.Runs (.statement :: ms) (.call j ds' :: rest) 1 u env := by
  obtain ⟨_, hat⟩ := h.inFirstCall (j := j) (ds' := ds') (rest := rest)
  obtain ⟨t, hrun, hat'⟩ := hrun
  exact ⟨t, (h.runMoves_first ho hi hoj hj hst hdo).trans hrun, hat.returns (by simp) hat'⟩

/-- A fault in a first CALL is one of the call it begins. -/
theorem State.AtCall.faults_first {f : FaultRecord} (h : s.AtCall i ds) (ho : i.isOperation = true)
    (hi : expansion s.params i ds = .call j ds' :: rest) (hoj : j.isOperation = true) (hj : expansion s.params j ds' = st :: body')
    (hst : ∀ i ds, st ≠ .call i ds)
    (hdo : (s.inFirstCall (.call j ds' :: rest)).Does (st :: body') 0 st (s.inFirstCall (.call j ds' :: rest)) s.top.loc u' env')
    (hfaults : (s.inFirstCall (.call j ds' :: rest)).CallFaults (.statement :: ms) u f) : s.CallFaults (.statement :: ms) u f := by
  obtain ⟨t, hrun, hf, hunits⟩ := hfaults
  exact ⟨t, (h.runMoves_first ho hi hoj hj hst hdo).trans hrun, hf, hunits⟩

end

end

end Sys2Proof.Machine
end

section
/-! SUPPORT. The ADC unit inside whole calls: its words, its register accesses as statements of a call, and its own steps between them
(42_adc.md R600 to R608, R621, R630 to R642; 40_bus.md R427). -/
namespace Sys2Proof.Machine

/-! ### Values -/

theorem Expr.eval_andE {env : List (LocalName × Word)} {a b : Expr} {m n : Nat} (ha : Expr.eval env a = .ok m)
    (hb : Expr.eval env b = .ok n) : Expr.eval env (andE a b) = .ok (m &&& n : Nat) :=
  eval_bin .bitAnd ha hb

/-- The value of a masked local that holds a word. -/
theorem Expr.eval_masked {env : List (LocalName × Word)} {x : LocalName} {w : Word} (hx : findLocal env x = some w) (mask : Word) :
    Expr.eval env (andE (.loc x) (.num mask.toNat)) = .ok (w &&& mask).toNat := by
  rw [Expr.eval_andE (Expr.eval_loc hx) (Expr.eval.eq_1 env _), BitVec.toNat_and]

/-- The low bits of a number, in a wider word. -/
theorem extractLsb_ofNat {w : Nat} (hw : w ≤ 32) (n : Nat) : (BitVec.ofNat 32 n).extractLsb' 0 w = BitVec.ofNat w n := by
  apply BitVec.eq_of_toNat_eq
  rw [BitVec.extractLsb'_toNat, BitVec.toNat_ofNat, BitVec.toNat_ofNat, Nat.shiftRight_zero, Nat.mod_mod_of_dvd _ (Nat.pow_dvd_pow 2 hw)]

/-- A shifted number that fits its field is that field. -/
theorem ofNat_mul_two_pow {w n : Nat} (hn : n < 2 ^ w) (lo : Nat) : BitVec.ofNat 32 (n * 2 ^ lo) = Word.ofField lo (BitVec.ofNat w n) := by
  apply BitVec.eq_of_toNat_eq
  rw [Word.ofField, BitVec.toNat_shiftLeft, BitVec.toNat_setWidth, BitVec.toNat_ofNat, BitVec.toNat_ofNat, Nat.mod_eq_of_lt hn,
    Nat.shiftLeft_eq, Nat.mod_mul_mod]

theorem Adc.bits_isr (a : Adc) : Word.bit (a.read .isr) 0 = a.isr.adrdy ∧ Word.bit (a.read .isr) 2 = a.isr.eoc ∧
    Word.bit (a.read .isr) 6 = a.isr.jeos ∧ Word.bit (a.read .isr) 12 = (a.vreg == .ready) := by
  simp only [Word.bit, Adc.read_isr, BitVec.getLsbD_append, BitVec.getLsbD_ofBool]
  simp

theorem Adc.bits_cr (a : Adc) : Word.bit (a.read .cr) 0 = a.aden ∧ Word.bit (a.read .cr) 2 = a.adstart ∧
    Word.bit (a.read .cr) 3 = a.jadstart ∧ Word.bit (a.read .cr) 31 = a.adcal := by
  simp only [Word.bit, Adc.read_cr, BitVec.getLsbD_append, BitVec.getLsbD_ofBool]
  simp

/-- A word under the mask of one bit. -/
theorem Word.and_bit {mask : Word} {i : Nat} (hm : mask = BitVec.twoPow 32 i) (w : Word) :
    w &&& mask = if Word.bit w i then mask else 0 := by
  rw [hm, BitVec.and_twoPow]
  rfl

/-- A field of a word, by its bits. -/
theorem extractLsb_of_bits {w lo : Nat} {v : Word} {x : BitVec w} (h : ∀ i < w, v.getLsbD (lo + i) = x.getLsbD i) :
    v.extractLsb' lo w = x :=
  BitVec.eq_of_getLsbD_eq fun i hi => by
    rw [BitVec.getLsbD_extractLsb', h i hi]
    simp [hi]

/-- A write of `SQR1` with the word of a unit's sequence makes it the sequence (10_state.md R126). -/
theorem Adc.writeSqr1_read {a : Adc} (h : a.running = false) {chMax : Nat} (u : AdcUnit) {b : Adc} (hb : ranksOk chMax b.sqLen b.sq) :
    a.writeSqr1 chMax u (b.read .sqr1) = .ok { a with sqLen := b.sqLen, sq := b.sq } := by
  have hlen : (b.read .sqr1).extractLsb' 0 2 = b.sqLen := extractLsb_of_bits fun i hi => by
    rw [Adc.read_sqr1]
    simp only [BitVec.getLsbD_append]
    grind
  have hsq : rankFields (b.read .sqr1) 6 12 18 24 = b.sq := by
    refine Vector.ext fun k hk => ?_
    have hget : (rankFields (b.read .sqr1) 6 12 18 24)[k] = (b.read .sqr1).extractLsb' (6 + 6 * k) 5 := rankFields_get _ 6 ⟨k, hk⟩
    rw [hget]
    refine extractLsb_of_bits fun i hi => ?_
    rw [Adc.read_sqr1]
    simp only [BitVec.getLsbD_append]
    interval_cases k <;> grind
  rw [Adc.writeSqr1_ok h chMax u _ (badChannel_none fun r => by
    rw [hlen, hsq, rankHigh, not_and, Nat.not_lt]; exact hb r), hlen, hsq]

/-! ### The word that operations write back to `CR` -/

/-- The power-up fields of the unit as they are, and the low bits k set (42_adc.md R661, R662, R664). -/
def Adc.crKeep (a : Adc) (k : BitVec 4) : Word := a.read .cr &&& 0x70000000#32 ||| k.setWidth 32

section
variable (a : Adc) (k : BitVec 4)

theorem Adc.bit_crKeep {i : Nat} (hi : i < 4) : Word.bit (a.crKeep k) i = k.getLsbD i := by
  have hmask : (0x70000000#32).getLsbD i = false := by interval_cases i <;> rfl
  simp only [Word.bit, Adc.crKeep, BitVec.getLsbD_or, BitVec.getLsbD_and, BitVec.getLsbD_setWidth, hmask, Bool.and_false, Bool.false_or,
    show i < 32 by omega, decide_true, Bool.true_and]

theorem Adc.bits_crKeep : Word.bit (a.crKeep k) 28 = a.advregen ∧ Word.bit (a.crKeep k) 29 = a.deeppwd ∧
    Word.bit (a.crKeep k) 30 = a.adcaldif ∧ Word.bit (a.crKeep k) 31 = false := by
  simp only [Word.bit, Adc.crKeep, BitVec.getLsbD_or, BitVec.getLsbD_and, BitVec.getLsbD_setWidth, Adc.read_cr, BitVec.getLsbD_append,
    BitVec.getLsbD_ofBool]
  simp

/-- Written back, it changes no power-up field: only the low bits have an effect. -/
theorem Adc.crEffect_crKeep : a.crEffect (a.crKeep k) = { a with
    aden := a.aden || k.getLsbD 0
    en := if k.getLsbD 0 && !a.aden then .enabling else a.en
    adstart := a.adstart || k.getLsbD 2
    rrank := if k.getLsbD 2 && !a.adstart then 0 else a.rrank
    jadstart := a.jadstart || k.getLsbD 3
    jact := a.jact || a.crStarts (a.crKeep k)
    jrank := if a.crStarts (a.crKeep k) then 0 else a.jrank } := by
  obtain ⟨h28, h29, h30, h31⟩ := a.bits_crKeep k
  simp only [Adc.crEffect, h28, h29, h30, h31, a.bit_crKeep k (i := 0) (by decide), a.bit_crKeep k (i := 2) (by decide),
    a.bit_crKeep k (i := 3) (by decide)]
  cases a.advregen <;> simp

/-- Its checks are those of the low bits. -/
theorem Adc.crAccepts_crKeep {a : Adc} {k : BitVec 4} (hpower : ¬(a.advregen = true ∧ a.deeppwd = true))
    (henable : k.getLsbD 0 = true → a.aden = false → a.adcal = false ∧ a.vreg = .ready)
    (hstart : k.getLsbD 2 = true → a.adstart = false → a.en = .ready)
    (hinject : k.getLsbD 3 = true → a.jadstart = false → a.en = .ready) : a.CrAccepts (a.crKeep k) := by
  obtain ⟨h28, h29, h30, h31⟩ := a.bits_crKeep k
  refine ⟨fun _ => ⟨h28, h29, h30⟩, ?_, by simp [h31], ?_, ?_, ?_⟩
  · rw [h28, h29]
    exact fun hon => Bool.eq_false_iff.mpr fun hdeep => hpower ⟨hon, hdeep⟩
  · rw [a.bit_crKeep k (by decide)]
    exact fun hk hoff => ⟨(henable hk hoff).1, h31, (henable hk hoff).2⟩
  · rwa [a.bit_crKeep k (by decide)]
  · rwa [a.bit_crKeep k (by decide)]

theorem Adc.eval_crKeep {env : List (LocalName × Word)} {x : LocalName} (hx : findLocal env x = some (a.read .cr)) :
    Expr.eval env (orE (andE (.loc x) (.num 0x70000000)) (.num k.toNat)) = .ok (a.crKeep k).toNat := by
  rw [Expr.eval_orE (Expr.eval_andE (Expr.eval_loc hx) (Expr.eval.eq_1 env 0x70000000)) (Expr.eval.eq_1 env _), Adc.crKeep,
    BitVec.toNat_or, BitVec.toNat_and, BitVec.toNat_setWidth, Nat.mod_eq_of_lt (by omega)]
  rfl

end

/-! ### States that differ in a unit -/

section
variable {s t u u' : State} {v : AdcUnit} {b c : Adc} {ms : List Move} {body : Prog} {k : Nat} {env : List (LocalName × Word)}

@[simp] theorem State.setAdc_self (s : State) (v : AdcUnit) : s.setAdc v (s.adc v) = s := by cases v <;> rfl

@[simp] theorem State.setAdc_setAdc (s : State) (v : AdcUnit) (b c : Adc) : (s.setAdc v b).setAdc v c = s.setAdc v c := by
  cases v <;> rfl

theorem State.SameUnits.setAdc (h : s.SameUnits t) (v : AdcUnit) (c : Adc) : (s.setAdc v c).SameUnits (t.setAdc v c) := by
  obtain ⟨pwm, adc1, adc2, rest⟩ := h
  cases v with
  | one => exact ⟨pwm, rfl, adc2, rest⟩
  | two => exact ⟨pwm, adc1, rfl, rest⟩

theorem State.setAdc_sameHost (s : State) (v : AdcUnit) (c : Adc) : SameHost s (s.setAdc v c) :=
  ⟨rfl, rfl, rfl, rfl, rfl, rfl, rfl, rfl, rfl, rfl, rfl⟩

/-! ### Register accesses in a call -/

theorem State.Does.adcWrite {r : AdcReg} {e : Expr} {n : Int} (hk : k < body.length) (hp : u.params.wf = true)
    (he : Expr.eval env e = .ok n) (hr : r ≠ .cr) (hw : (u.adc v).write u.params.chMax v r (BitVec.ofInt 32 n) = .ok c) :
    s.Does body k (.wr .b4 (regE u.params (.adc v r)) e) u env (u.setAdc v c) env := by
  refine .write hk hp rfl he fun t ht => ⟨t.setAdc v c, regWrite_adc_ok hr ?_, ht.setAdc v c⟩
  rwa [ht.adc v, ht.same_params]

/-- A write of `CR` that also starts an injected sequence unpairs the units (42_adc.md R603). -/
theorem State.Does.crWrite_starts {e : Expr} {w : Word} (hk : k < body.length) (hp : u.params.wf = true)
    (he : Expr.eval env e = .ok w.toNat) (hacc : (u.adc v).CrAccepts w) :
    s.Does body k (.wr .b4 (regE u.params (.adc v .cr)) e) u env { u.setAdc v ((u.adc v).crEffect w) with
      adcPaired := u.adcPaired && !(u.adc v).crStarts w } env := by
  refine .write hk hp rfl he fun t ht => ⟨_, by rw [ofInt_toNat, regWrite_cr_ok (ht.adc v ▸ hacc)], ?_⟩
  obtain ⟨pwm, adc1, adc2, _, rest⟩ := ht.setAdc v ((u.adc v).crEffect w)
  have hpaired : t.adcPaired = u.adcPaired := ht.2.2.2.1
  rw [ht.adc v, hpaired]
  exact ⟨pwm, adc1, adc2, rfl, rest⟩

theorem State.Does.crWrite {e : Expr} {w : Word} (hk : k < body.length) (hp : u.params.wf = true)
    (he : Expr.eval env e = .ok w.toNat) (hacc : (u.adc v).CrAccepts w) (hw : Word.bit w 3 = false) :
    s.Does body k (.wr .b4 (regE u.params (.adc v .cr)) e) u env (u.setAdc v ((u.adc v).crEffect w)) env := by
  have hdo := State.Does.crWrite_starts (s := s) hk hp he hacc
  rwa [Adc.crStarts_of_bit hw, Bool.not_false, Bool.and_true] at hdo

theorem State.Does.adcRead {x : LocalName} {r : AdcReg} (hk : body[k]? = some (.rd x .b4 (regE u.params (.adc v r))))
    (hp : u.params.wf = true) (hr : r ≠ .dr) :
    s.Does body k (.rd x .b4 (regE u.params (.adc v r))) u env u (writeLocal env x ((u.adc v).read r)) :=
  .read hk hp rfl fun t ht => ⟨t, by rw [regRead_adc t v hr, ht.adc v], ht⟩

/-- The read of `DR`, which clears `EOC` (42_adc.md R621). -/
theorem State.Does.adcData {x : LocalName} (hk : body[k]? = some (.rd x .b4 (regE u.params (.adc v .dr)))) (hp : u.params.wf = true) :
    s.Does body k (.rd x .b4 (regE u.params (.adc v .dr))) u env (u.setAdc v (u.adc v).clearEoc)
      (writeLocal env x ((u.adc v).read .dr)) :=
  .read hk hp rfl fun t ht => ⟨t.setAdc v (u.adc v).clearEoc, by rw [State.regRead, State.adcReadDr, ht.adc v], ht.setAdc v _⟩

theorem State.Runs.adcWrite {r : AdcReg} {e : Expr} {n : Int} (h : s.Runs ms body k (s.setAdc v b) env)
    (hk : body[k]? = some (.wr .b4 (regE s.params (.adc v r)) e)) (hp : s.params.wf = true) (he : Expr.eval env e = .ok n)
    (hr : r ≠ .cr) (hw : b.write s.params.chMax v r (BitVec.ofInt 32 n) = .ok c) :
    s.Runs (ms ++ [Move.statement]) body (k + 1) (s.setAdc v c) env := by
  have hdo := State.Does.adcWrite (s := s) (u := s.setAdc v b) (v := v) (List.getElem?_eq_some_iff.mp hk).1 hp he hr (c := c)
    (by rwa [State.setAdc_adc])
  rw [State.setAdc_setAdc] at hdo
  exact h.stmt hk (by simp) hdo

theorem State.Runs.crWrite {e : Expr} {w : Word} (h : s.Runs ms body k (s.setAdc v b) env)
    (hk : body[k]? = some (.wr .b4 (regE s.params (.adc v .cr)) e)) (hp : s.params.wf = true) (he : Expr.eval env e = .ok w.toNat)
    (hacc : b.CrAccepts w) (hw : Word.bit w 3 = false) (hc : b.crEffect w = c) :
    s.Runs (ms ++ [Move.statement]) body (k + 1) (s.setAdc v c) env := by
  have hdo := State.Does.crWrite (s := s) (u := s.setAdc v b) (v := v) (List.getElem?_eq_some_iff.mp hk).1 hp he
    (by rwa [State.setAdc_adc]) hw
  rw [State.setAdc_setAdc, State.setAdc_adc, hc] at hdo
  exact h.stmt hk (by simp) hdo

theorem State.Runs.adcRead {x : LocalName} {r : AdcReg} (h : s.Runs ms body k (s.setAdc v b) env)
    (hk : body[k]? = some (.rd x .b4 (regE s.params (.adc v r)))) (hp : s.params.wf = true) (hr : r ≠ .dr) :
    s.Runs (ms ++ [Move.statement]) body (k + 1) (s.setAdc v b) (writeLocal env x (b.read r)) := by
  have hdo := State.Does.adcRead (s := s) (u := s.setAdc v b) (v := v) (env := env) hk hp hr
  rw [State.setAdc_adc] at hdo
  exact h.stmt hk (by simp) hdo

theorem State.Runs.adcData {x : LocalName} (h : s.Runs ms body k (s.setAdc v b) env)
    (hk : body[k]? = some (.rd x .b4 (regE s.params (.adc v .dr)))) (hp : s.params.wf = true) :
    s.Runs (ms ++ [Move.statement]) body (k + 1) (s.setAdc v b.clearEoc) (writeLocal env x (b.read .dr)) := by
  have hdo := State.Does.adcData (s := s) (u := s.setAdc v b) (v := v) (env := env) hk hp
  rw [State.setAdc_setAdc, State.setAdc_adc] at hdo
  exact h.stmt hk (by simp) hdo

theorem State.Runs.adcPoll {r : AdcReg} {m w : Int} (h : s.Runs ms body k (s.setAdc v b) env)
    (hk : body[k]? = some (.poll (regE s.params (.adc v r)) (.num m) (.num w))) (hp : s.params.wf = true) (hr : r ≠ .dr)
    (hmatch : b.read r &&& BitVec.ofInt 32 m = BitVec.ofInt 32 w) : s.Runs (ms ++ [Move.statement]) body (k + 1) (s.setAdc v b) env :=
  h.poll (u := s.setAdc v b) hk hp rfl (fun t ht => by rw [regRead_adc t v hr, ht.adc v, State.setAdc_adc]) hmatch

/-- The refused write of a register but `CR`. -/
theorem State.Runs.adcWrite_faults {r : AdcReg} {e : Expr} {n : Int} {f : FaultRecord} (h : s.Runs ms body k (s.setAdc v b) env)
    (hk : body[k]? = some (.wr .b4 (regE s.params (.adc v r)) e)) (hp : s.params.wf = true) (he : Expr.eval env e = .ok n)
    (hr : r ≠ .cr) (hw : b.write s.params.chMax v r (BitVec.ofInt 32 n) = .error f) :
    s.CallFaults (ms ++ [Move.statement]) (s.setAdc v b) f := by
  refine h.faults hk (by simp) fun t ht => ht.wr_faults (u := s.setAdc v b) (r := .adc v r) hp rfl he (regWrite_adc_error hr ?_)
  rwa [ht.units.adc v, ht.units.same_params, State.setAdc_adc]

/-- The write of `CR` that a check refuses (42_adc.md R603). -/
theorem State.Runs.crWrite_faults {e : Expr} {w : Word} (h : s.Runs ms body k (s.setAdc v b) env)
    (hk : body[k]? = some (.wr .b4 (regE s.params (.adc v .cr)) e)) (hp : s.params.wf = true) (he : Expr.eval env e = .ok w.toNat)
    (hacc : ¬b.CrAccepts w) :
    s.CallFaults (ms ++ [Move.statement]) (s.setAdc v b) ⟨.adcSeq, .num (if v = .one then 1 else 2)⟩ := by
  refine h.faults hk (by simp) fun t ht => ht.wr_faults (u := s.setAdc v b) (r := .adc v .cr) hp rfl he (regWrite_cr_error ?_)
  rwa [ofInt_toNat, ht.units.adc v, State.setAdc_adc]

/-! ### Runs of writes to a unit -/

/-- The unit after writes of words to its registers but `CR`, one after another. -/
def Adc.writeAll (a : Adc) (chMax : Nat) (v : AdcUnit) : List (AdcReg × Word) → Except FaultRecord Adc
  | [] => .ok a
  | (r, w) :: ws =>
    match a.write chMax v r w with
    | .error f => .error f
    | .ok b => Adc.writeAll b chMax v ws

theorem Adc.writeAll_cons {a : Adc} {chMax : Nat} {r : AdcReg} {w : Word} {ws : List (AdcReg × Word)} (h : a.write chMax v r w = .ok b)
    (hws : b.writeAll chMax v ws = .ok c) : a.writeAll chMax v ((r, w) :: ws) = .ok c := by
  rw [Adc.writeAll, h]
  exact hws

/-- The statement that writes an expression to a register of unit v. -/
def adcWr (p : Params) (v : AdcUnit) (w : AdcReg × Expr) : Stmt := .wr .b4 (regE p (.adc v w.1)) w.2

/-- A run of writes in the call, each of an expression with its value. -/
theorem State.Runs.adcWrites (hp : s.params.wf = true) {post : Prog} : ∀ {ws : List ((AdcReg × Expr) × Int)} {ms : List Move} {k : Nat}
    {b : Adc}, s.Runs ms body k (s.setAdc v b) env → body.drop k = ws.map (fun w => adcWr s.params v w.1) ++ post →
      (∀ w ∈ ws, w.1.1 ≠ .cr ∧ Expr.eval env w.1.2 = .ok w.2) →
      b.writeAll s.params.chMax v (ws.map fun w => (w.1.1, BitVec.ofInt 32 w.2)) = .ok c →
      s.Runs (ms ++ List.replicate ws.length Move.statement) body (k + ws.length) (s.setAdc v c) env
  | [], ms, k, b, h, _, _, hc => by
    cases hc
    simpa using h
  | ((r, e), n) :: ws, ms, k, b, h, hdrop, heval, hc => by
    have hk : body[k]? = some (adcWr s.params v (r, e)) := by
      rw [← Nat.add_zero k, ← List.getElem?_drop, hdrop]
      rfl
    have hrest : body.drop (k + 1) = ws.map (fun w => adcWr s.params v w.1) ++ post := by
      rw [← List.drop_drop, hdrop]
      rfl
    obtain ⟨⟨hr, he⟩, hevals⟩ := List.forall_mem_cons.mp heval
    simp only [List.map_cons, Adc.writeAll] at hc
    split at hc
    · cases hc
    · rename_i b' hw
      have hruns := State.Runs.adcWrites hp (h.adcWrite hk hp he hr hw) hrest hevals hc
      have hmoves : [Move.statement] ++ List.replicate ws.length Move.statement = List.replicate (ws.length + 1) Move.statement := rfl
      rw [List.append_assoc, hmoves, Nat.add_assoc, Nat.add_comm 1] at hruns
      exact hruns

/-! ### Steps of the unit between two statements -/

theorem State.Runs.adcStep {m : Move} (h : s.Runs ms body k (s.setAdc v b) env) (hm : m ≠ .statement)
    (hstep : ∀ t : State, t.adc v = b → t.params = s.params → t.stepNo = s.stepNo + ms.length →
      t.agentStep m = some (t.setAdc v c)) :
    s.Runs (ms ++ [m]) body k (s.setAdc v c) env := by
  refine h.agent hm fun t ht hno => ⟨t.setAdc v c, hstep t ?_ ht.same_params hno, t.setAdc_sameHost v c, ?_⟩
  · rw [ht.adc v, State.setAdc_adc]
  · exact State.setAdc_setAdc s v b c ▸ ht.setAdc v c

/-- The regulator gets ready (42_adc.md R630). -/
theorem State.Runs.regulator (h : s.Runs ms body k (s.setAdc v b) env) (hb : b.vreg = .starting) :
    s.Runs (ms ++ [Move.regulator v]) body k (s.setAdc v { b with vreg := .ready }) env :=
  h.adcStep nofun fun t ht _ _ => by rw [State.agentStep, ht, Adc.regulatorReady, if_pos hb, State.adcStep]

/-- The calibration ends, with the draw of this step (42_adc.md R631). -/
theorem State.Runs.calibrated (h : s.Runs ms body k (s.setAdc v b) env) (hb : b.cal = .running) :
    s.Runs (ms ++ [Move.calibrated v]) body k (s.setAdc v { b with
      calfact := Config.freeCal (s.stepNo + ms.length) v, cal := .idle, adcal := false }) env :=
  h.adcStep nofun fun t ht _ hno => by rw [State.agentStep, ht, Adc.calibrationDone, if_pos hb, State.adcStep, hno]

/-- The unit gets ready (42_adc.md R632). -/
theorem State.Runs.enabled (h : s.Runs ms body k (s.setAdc v b) env) (hb : b.en = .enabling) :
    s.Runs (ms ++ [Move.enabled v]) body k (s.setAdc v { b with en := .ready, isr := { b.isr with adrdy := true } }) env :=
  h.adcStep nofun fun t ht _ _ => by rw [State.agentStep, ht, Adc.enableDone, if_pos hb, State.adcStep]

/-- The unit converts its next regular rank to the code of this step (42_adc.md R640, R642). -/
theorem State.Runs.regular (h : s.Runs ms body k (s.setAdc v b) env) (hb : b.regularEnabled = true) :
    s.Runs (ms ++ [Move.regular v]) body k (s.setAdc v (b.convertRegular
      (BitVec.ofNat 16 (Config.freeCode (s.stepNo + ms.length) v % 2 ^ s.params.adcBits)))) env :=
  h.adcStep nofun fun t ht hparams hno => by
    rw [State.agentStep, State.regularStep, ht, if_pos hb, State.draw, hno, hparams]

end

end Sys2Proof.Machine
end

section
/-! SUPPORT. `ADC_POWERUP_CALIBRATE`, `ADC_ENABLE`, `ADC_START` and `ADC_CONFIGURE_PRODUCTION` as whole calls (42_adc.md R660 to R663). -/
namespace Sys2Proof.Machine

section
variable {s : State} {u : AdcUnit} {ds : List LocalName}

/-! ### `ADC_POWERUP_CALIBRATE` -/

theorem replicate_around (m : Move) (n : Nat) : [m] ++ (List.replicate n m ++ [m]) = List.replicate (2 + n) m := by
  rw [← List.replicate_succ', Nat.add_comm 2 n, List.replicate_succ (n := n + 1)]
  rfl

/-- The write of R660 that powers a unit up. -/
theorem Adc.crEffect_powerUp {a : Adc} (hreg : a.advregen = false) :
    a.crEffect 0x10000000#32 = { a with vreg := .starting, advregen := true, deeppwd := false, adcaldif := false } := by
  simp [Adc.crEffect, Adc.crStarts, Word.bit, hreg]

/-- The write of R660 that starts the calibration of a unit that is powered. -/
theorem Adc.crEffect_calibrate {a : Adc} (hreg : a.advregen = true) (hcal : a.adcal = false) :
    a.crEffect 0x90000000#32 = { a with deeppwd := false, adcaldif := false, adcal := true, cal := .running } := by
  simp [Adc.crEffect, Adc.crStarts, Word.bit, hreg, hcal]

/-- A write of power-up bits alone, to a unit neither enabled nor calibrating. -/
theorem Adc.crAccepts_power {a : Adc} {w : Word} (haden : a.aden = false) (hcal : a.adcal = false)
    (hlow : Word.bit w 0 = false ∧ Word.bit w 2 = false ∧ Word.bit w 3 = false ∧ Word.bit w 29 = false)
    (hcalibrate : Word.bit w 31 = true → a.vreg = .ready ∧ Word.bit w 28 = true) : a.CrAccepts w := by
  obtain ⟨h0, h2, h3, h29⟩ := hlow
  exact ⟨by simp [haden, hcal], fun _ => h29, fun h _ => ⟨haden, hcalibrate h⟩, by simp [h0], by simp [h2], by simp [h3]⟩

theorem adcPowerupCalibrate_ends (h : s.AtCall (.adcPowerupCalibrate u) ds) (haden : (s.adc u).aden = false)
    (hcal : (s.adc u).adcal = false) :
    let wait := max 1 s.params.settle
    s.CallEnds (List.replicate 2 Move.statement ++ [Move.regulator u] ++ List.replicate (2 + wait) Move.statement ++ [Move.calibrated u] ++
        List.replicate 1 Move.statement)
      (s.setAdc u { s.adc u with
        advregen := true, deeppwd := false, adcaldif := false, adcal := false, vreg := .ready, cal := .idle
        calfact := Config.freeCal (s.stepNo + 5 + wait) u }) [] := by
  intro wait
  have hp := h.1
  have hcleared := h.begins rfl rfl (by simp) (.crWrite (w := 0#32) (v := u) (Nat.succ_pos _) hp rfl
    (Adc.crAccepts_power haden hcal (by decide) nofun) (by decide))
  generalize s.adc u = a at haden hcal hcleared ⊢
  rw [Adc.crEffect_zero] at hcleared
  have hpowered := hcleared.crWrite (w := 0x10000000#32) rfl hp rfl (Adc.crAccepts_power haden hcal (by decide) nofun) (by decide)
    (Adc.crEffect_powerUp rfl)
  have hready : s.Runs _ _ _ (s.setAdc u { a with advregen := true, deeppwd := false, adcaldif := false, vreg := .ready }) _ :=
    hpowered.regulator rfl
  have hwaited := (hready.adcPoll (r := .isr) rfl hp nofun (by
    rw [Word.and_bit (i := 12) (by rfl), (Adc.bits_isr _).2.2.2]
    rfl)).wait rfl
  have hcalibrates : s.Runs _ _ _ (s.setAdc u { a with
      advregen := true, deeppwd := false, adcaldif := false, vreg := .ready, adcal := true, cal := .running }) _ :=
    hwaited.crWrite (w := 0x90000000#32) rfl hp rfl (Adc.crAccepts_power haden hcal (by decide) fun _ => ⟨rfl, by decide⟩) (by decide)
      (Adc.crEffect_calibrate rfl hcal)
  have hmoves : [Move.statement] ++ [Move.statement] ++ [Move.regulator u] ++ [Move.statement] ++ List.replicate wait Move.statement ++
      [Move.statement] = List.replicate 2 Move.statement ++ [Move.regulator u] ++ List.replicate (2 + wait) Move.statement := by
    rw [← replicate_around, List.append_assoc, List.append_assoc, List.append_assoc]
    rfl
  rw [hmoves] at hcalibrates
  have hdone := (hcalibrates.calibrated rfl).adcPoll (r := .cr) rfl hp nofun (by
    rw [Word.and_bit (i := 31) (by rfl), (Adc.bits_cr _).2.2.2]
    rfl)
  have hno : s.stepNo + (List.replicate 2 Move.statement ++ [Move.regulator u] ++ List.replicate (2 + wait) Move.statement).length =
      s.stepNo + 5 + wait := by
    simp only [List.length_append, List.length_replicate, List.length_singleton]
    omega
  rw [hno] at hdone
  exact hdone.ends (List.forall_mem_nil _) fun _ _ => rfl

/-! ### `ADC_ENABLE` -/

/-- The branch of R661 is on ADEN. -/
theorem Adc.eval_aden {env : List (LocalName × Word)} {x : LocalName} {a : Adc} (hx : findLocal env x = some (a.read .cr)) :
    Expr.eval env (andE (.loc x) (.num 0x1)) = .ok (Int.ofBool (decide (a.aden = true))) := by
  rw [show (0x1 : Int) = (1#32).toNat from rfl, Expr.eval_masked hx, Word.and_bit (i := 0) (by rfl), (Adc.bits_cr a).1]
  cases a.aden <;> rfl

/-- The two statements of R661 before the branch is taken or not. -/
theorem adcEnable_begins (h : s.AtCall (.adcEnable u) ds) :
    s.Runs (List.replicate 2 Move.statement) (bodyAdcEnable s.params u) (if (s.adc u).aden then 4 else 2) (s.setAdc u (s.adc u))
      (writeLocal s.top.loc .adcEnableC ((s.adc u).read .cr)) := by
  rw [State.setAdc_self]
  exact (h.begins rfl rfl (by simp) (.adcRead (v := u) rfl h.1 nofun)).branch_if rfl (Adc.eval_aden (findLocal_same _ _ _))

/-- On an enabled unit the call only reads (42_adc.md R661). -/
theorem adcEnable_enabled (h : s.AtCall (.adcEnable u) ds) (haden : (s.adc u).aden = true) :
    s.Runs (List.replicate 2 Move.statement) (bodyAdcEnable s.params u) 4 s (writeLocal s.top.loc .adcEnableC ((s.adc u).read .cr)) := by
  have hread := adcEnable_begins h
  rwa [haden, if_pos rfl, State.setAdc_self] at hread

theorem adcEnable_faults (h : s.AtCall (.adcEnable u) ds) (haden : (s.adc u).aden = false)
    (hnot : (s.adc u).adcal = true ∨ (s.adc u).vreg ≠ .ready) :
    s.CallFaults (List.replicate 3 Move.statement) s ⟨.adcSeq, .num (if u = .one then 1 else 2)⟩ := by
  have hread := adcEnable_begins h
  rw [haden, if_neg nofun] at hread
  have hfaults := hread.crWrite_faults rfl h.1 (Adc.eval_crKeep _ 1#4 (findLocal_same _ _ _)) fun hacc => by
    obtain ⟨hcal, -, hreg⟩ := hacc.enable (Adc.bit_crKeep _ _ (by decide)) haden
    simp [hcal, hreg] at hnot
  rwa [State.setAdc_self] at hfaults

section
variable (h : s.AtCall (.adcEnable u) ds) (haden : (s.adc u).aden = false) (hcal : (s.adc u).adcal = false)
  (hreg : (s.adc u).vreg = .ready) (hpower : ¬((s.adc u).advregen = true ∧ (s.adc u).deeppwd = true))
include h haden hcal hreg hpower

/-- A READY unit starts to enable (42_adc.md R661). -/
theorem adcEnable_starts : s.Runs (List.replicate 3 Move.statement) (bodyAdcEnable s.params u) 3
    (s.setAdc u { s.adc u with aden := true, en := .enabling }) (writeLocal s.top.loc .adcEnableC ((s.adc u).read .cr)) := by
  have hread := adcEnable_begins h
  rw [haden, if_neg nofun] at hread
  refine hread.crWrite rfl h.1 (Adc.eval_crKeep _ 1#4 (findLocal_same _ _ _))
    (Adc.crAccepts_crKeep hpower (fun _ _ => ⟨hcal, hreg⟩) nofun nofun) (Adc.bit_crKeep _ _ (by decide)) ?_
  rw [Adc.crEffect_crKeep, Adc.crStarts_of_bit (Adc.bit_crKeep _ _ (by decide))]
  simp [haden]

theorem adcEnable_ready : s.Runs (List.replicate 3 Move.statement ++ [Move.enabled u] ++ List.replicate 1 Move.statement)
    (bodyAdcEnable s.params u) 4
    (s.setAdc u { s.adc u with aden := true, en := .ready, isr := { (s.adc u).isr with adrdy := true } })
    (writeLocal s.top.loc .adcEnableC ((s.adc u).read .cr)) :=
  ((adcEnable_starts h haden hcal hreg hpower).enabled rfl).adcPoll (r := .isr) rfl h.1 nofun (by
    rw [Word.and_bit (i := 0) (by rfl), (Adc.bits_isr _).1]
    rfl)

/-- With ADRDY 1 already the poll ends at once (42_adc.md R661). -/
theorem adcEnable_adrdy (hadrdy : (s.adc u).isr.adrdy = true) :
    s.Runs (List.replicate 4 Move.statement) (bodyAdcEnable s.params u) 4 (s.setAdc u { s.adc u with aden := true, en := .enabling })
      (writeLocal s.top.loc .adcEnableC ((s.adc u).read .cr)) :=
  (adcEnable_starts h haden hcal hreg hpower).adcPoll (r := .isr) rfl h.1 nofun (by
    rw [Word.and_bit (i := 0) (by rfl), (Adc.bits_isr _).1, hadrdy]
    rfl)

end

/-! ### `ADC_START` -/

theorem adcStart_begins (h : s.AtCall (.adcStart u) ds) : s.Runs [Move.statement] (bodyAdcStart s.params u) 1 (s.setAdc u (s.adc u))
    (writeLocal s.top.loc .adcStartC ((s.adc u).read .cr)) := by
  have hread := h.begins rfl rfl (by simp) (.adcRead (v := u) rfl h.1 nofun)
  rwa [State.setAdc_self]

theorem adcStart_faults (h : s.AtCall (.adcStart u) ds) (hen : (s.adc u).en ≠ .ready)
    (hidle : (s.adc u).adstart = false ∨ (s.adc u).jadstart = false) :
    s.CallFaults (List.replicate 2 Move.statement) s ⟨.adcSeq, .num (if u = .one then 1 else 2)⟩ := by
  have hfaults := (adcStart_begins h).crWrite_faults rfl h.1 (Adc.eval_crKeep _ 0xC#4 (findLocal_same _ _ _)) fun hacc =>
    hen (hidle.elim (hacc.start (Adc.bit_crKeep _ _ (by decide))) (hacc.inject (Adc.bit_crKeep _ _ (by decide))))
  rwa [State.setAdc_self] at hfaults

theorem adcStart_ends (h : s.AtCall (.adcStart u) ds) (hen : (s.adc u).en = .ready)
    (hpower : ¬((s.adc u).advregen = true ∧ (s.adc u).deeppwd = true)) :
    let a := s.adc u
    let soft := a.jadstart = false ∧ a.jexten = 0 ∧ a.jact = false
    s.CallEnds (List.replicate 2 Move.statement) { s.setAdc u { a with
      adstart := true, rrank := if a.adstart then a.rrank else 0
      jadstart := true, jact := if soft then true else a.jact, jrank := if soft then 0 else a.jrank } with
      adcPaired := if soft then false else s.adcPaired } [] := by
  intro a soft
  have hacc : a.CrAccepts (a.crKeep 0xC#4) := Adc.crAccepts_crKeep hpower nofun (fun _ _ => hen) fun _ _ => hen
  have hstarts : a.crStarts (a.crKeep 0xC#4) = decide soft := by
    rw [Bool.eq_iff_iff, decide_eq_true_iff, Adc.crStarts_iff, Adc.bit_crKeep _ _ (by decide)]
    exact and_iff_right rfl
  have heffect : a.crEffect (a.crKeep 0xC#4) = { a with
      adstart := true, rrank := if a.adstart then a.rrank else 0
      jadstart := true, jact := if soft then true else a.jact, jrank := if soft then 0 else a.jrank } := by
    rw [Adc.crEffect_crKeep, hstarts]
    cases a.adstart <;> by_cases hs : soft <;> simp [hs]
  have hpaired : (s.adcPaired && !decide soft) = if soft then false else s.adcPaired := by
    by_cases hs : soft <;> simp [hs]
  have hwritten := (adcStart_begins h).stmt rfl nofun (.crWrite_starts (by simp [bodyAdcStart]) h.1
    (Adc.eval_crKeep _ 0xC#4 (findLocal_same _ _ _)) (by rwa [State.setAdc_self]))
  rw [State.setAdc_self, hstarts, heffect, hpaired] at hwritten
  exact hwritten.ends (List.forall_mem_nil _) fun _ _ => findLocal_other _ _ (by simp)

/-! ### `ADC_CONFIGURE_PRODUCTION` -/

/-- The bits of `SMPR1` that give channel n the sampling code (42_adc.md R663, R664). -/
def smpLow (code n : Nat) : Nat := if n ≤ 9 then code * 2 ^ (3 * n) else 0

/-- The bits of `SMPR2` that give channel n the sampling code (42_adc.md R663, R664). -/
def smpHigh (code n : Nat) : Nat := if 10 ≤ n then code * 2 ^ (3 * (n - 10)) else 0

theorem Expr.eval_shlE {env : List (LocalName × Word)} {a b : Expr} {m n : Nat} (ha : Expr.eval env a = .ok m)
    (hb : Expr.eval env b = .ok n) : Expr.eval env (shlE a b) = .ok (m * 2 ^ n : Nat) := by
  rw [shlE, Expr.eval_bin .shl ha hb]
  simp [evalBin, intShl]

/-- A conditional, of which the arm that is not taken has no value of its own. -/
theorem Expr.eval_ite {env : List (LocalName × Word)} {c a b : Expr} {p : Prop} [Decidable p] {m n : Nat}
    (hc : Expr.eval env c = .ok (Int.ofBool (decide p))) (ha : p → Expr.eval env a = .ok m) (hb : ¬p → Expr.eval env b = .ok n) :
    Expr.eval env (.cond c a b) = .ok (if p then m else n : Nat) := by
  rw [Expr.eval, hc]
  by_cases hp : p
  · simp [hp, ha hp, Int.ofBool]
  · simp [hp, hb hp, Int.ofBool]

theorem eval_smpLowE (env : List (LocalName × Word)) (n code : Nat) :
    Expr.eval env (smpLowE (.num n) (.num code)) = .ok (smpLow code n : Int) := by
  refine Expr.eval_ite (n := 0) ((Expr.eval_bin .le (Expr.eval.eq_1 env n) (Expr.eval.eq_1 env 9)).trans ?_) (fun _ => ?_) fun _ => rfl
  · have hle : (n : Int) ≤ 9 ↔ n ≤ 9 := by omega
    simp only [evalBin, hle]
  · refine Expr.eval_shlE rfl ((Expr.eval_bin .mul (Expr.eval.eq_1 env 3) (Expr.eval.eq_1 env n)).trans ?_)
    simp [evalBin]

theorem eval_smpHighE (env : List (LocalName × Word)) (n code : Nat) :
    Expr.eval env (smpHighE (.num n) (.num code)) = .ok (smpHigh code n : Int) := by
  refine Expr.eval_ite (n := 0) ((Expr.eval_bin .ge (Expr.eval.eq_1 env n) (Expr.eval.eq_1 env 10)).trans ?_) (fun hn => ?_) fun _ => rfl
  · have hle : (10 : Int) ≤ n ↔ 10 ≤ n := by omega
    simp only [evalBin, hle]
  · refine Expr.eval_shlE rfl ((Expr.eval_bin .mul (Expr.eval.eq_1 env 3)
      (Expr.eval_bin .sub (Expr.eval.eq_1 env n) (Expr.eval.eq_1 env 10))).trans ?_)
    simp [evalBin, Int.ofNat_sub hn]

/-- A write of `JSQR` with the word of a unit's sequence makes it the sequence (10_state.md R128). -/
theorem Adc.writeJsqr_read {a : Adc} (h : a.running = false) {chMax : Nat} (u : AdcUnit) {b : Adc} (hsel : b.jextsel.toNat < 2)
    (hb : ranksOk chMax b.jsqLen b.jsq) : a.writeJsqr chMax u (b.read .jsqr) = .ok { a with
      jsqLen := b.jsqLen, jextsel := b.jextsel, jexten := b.jexten, jsq := b.jsq } := by
  have hlen : (b.read .jsqr).extractLsb' 0 2 = b.jsqLen := extractLsb_of_bits fun i hi => by
    rw [Adc.read_jsqr]; simp only [BitVec.getLsbD_append]; grind
  have hjext : (b.read .jsqr).extractLsb' 2 5 = b.jextsel := extractLsb_of_bits fun i hi => by
    rw [Adc.read_jsqr]; simp only [BitVec.getLsbD_append]; grind
  have hen : (b.read .jsqr).extractLsb' 7 2 = b.jexten := extractLsb_of_bits fun i hi => by
    rw [Adc.read_jsqr]; simp only [BitVec.getLsbD_append]; grind
  have hsq : rankFields (b.read .jsqr) 9 15 21 27 = b.jsq := by
    refine Vector.ext fun k hk => ?_
    have hget : (rankFields (b.read .jsqr) 9 15 21 27)[k] = (b.read .jsqr).extractLsb' (9 + 6 * k) 5 := rankFields_get _ 9 ⟨k, hk⟩
    rw [hget]
    refine extractLsb_of_bits fun i hi => ?_
    rw [Adc.read_jsqr]
    simp only [BitVec.getLsbD_append]
    interval_cases k <;> grind
  rw [Adc.writeJsqr_ok h chMax u _ (by rwa [hjext]) (badChannel_none fun r => by
    rw [hlen, hsq, rankHigh, not_and, Nat.not_lt]; exact hb r), hlen, hjext, hen, hsq]

theorem chMax_le {p : Params} (hp : p.wf = true) : p.chMax ≤ 18 := by
  obtain ⟨-, -, -, -, -, -, hmax, -⟩ := p.wf_iff.mp hp
  exact hmax

/-- A sequence of channels up to `CH_MAX`, channel 0 in the unused ranks. -/
theorem ranksOk_of_le {chMax r q : Nat} (hmax : chMax ≤ 18) (hr : r ≤ chMax) (hq : q ≤ chMax) (len : BitVec 2) :
    ranksOk chMax len #v[BitVec.ofNat 5 r, BitVec.ofNat 5 q, 0, 0] := by
  have hle {n : Nat} (hn : n ≤ chMax) : (BitVec.ofNat 5 n).toNat ≤ chMax := by
    rw [BitVec.toNat_ofNat, Nat.mod_eq_of_lt (by omega)]
    exact hn
  intro k _
  match k with
  | 0 => exact hle hr
  | 1 => exact hle hq
  | 2 => exact Nat.zero_le _
  | 3 => exact Nat.zero_le _

/-- A single rank of channel r (42_adc.md R606, R663, R664). -/
theorem Adc.writeSqr1_single {a : Adc} (h : a.running = false) {chMax r : Nat} (hmax : chMax ≤ 18) (hr : r ≤ chMax) (u : AdcUnit) :
    a.writeSqr1 chMax u (BitVec.ofNat 32 (r * 2 ^ 6)) = .ok { a with sqLen := 0, sq := #v[BitVec.ofNat 5 r, 0, 0, 0] } := by
  have hword : BitVec.ofNat 32 (r * 2 ^ 6) = Adc.read { a with sqLen := 0, sq := #v[BitVec.ofNat 5 r, 0, 0, 0] } .sqr1 := by
    rw [ofNat_mul_two_pow (w := 5) (by omega), Adc.read, Adc.readSqr1]
    simp [Word.ofField_zero]
  rw [hword, Adc.writeSqr1_read h u (ranksOk_of_le hmax hr (Nat.zero_le _) 0)]

/-- Two ranks of channels j and k, started by trigger 0 (42_adc.md R607, R663). -/
theorem Adc.writeJsqr_pair {a : Adc} (h : a.running = false) {chMax j k : Nat} (hmax : chMax ≤ 18) (hj : j ≤ chMax) (hk : k ≤ chMax)
    (u : AdcUnit) : a.writeJsqr chMax u (BitVec.ofNat 32 (1 ||| 0 * 2 ^ 2 ||| 1 * 2 ^ 7 ||| j * 2 ^ 9 ||| k * 2 ^ 15)) = .ok { a with
      jsqLen := 1, jextsel := 0, jexten := 1, jsq := #v[BitVec.ofNat 5 j, BitVec.ofNat 5 k, 0, 0] } := by
  have hword : BitVec.ofNat 32 (1 ||| 0 * 2 ^ 2 ||| 1 * 2 ^ 7 ||| j * 2 ^ 9 ||| k * 2 ^ 15) = Adc.read { a with
      jsqLen := 1, jextsel := 0, jexten := 1, jsq := #v[BitVec.ofNat 5 j, BitVec.ofNat 5 k, 0, 0] } .jsqr := by
    rw [BitVec.ofNat_or, BitVec.ofNat_or, BitVec.ofNat_or, BitVec.ofNat_or, ofNat_mul_two_pow (w := 5) (n := j) (by omega),
      ofNat_mul_two_pow (w := 5) (n := k) (by omega), Adc.read, Adc.readJsqr]
    simp [Word.ofField]
  rw [hword, Adc.writeJsqr_read h u (by simp) (ranksOk_of_le hmax hj hk 1)]

theorem Adc.bits_ier (a : Adc) : Word.bit (a.read .ier) 0 = a.ier.adrdy ∧ Word.bit (a.read .ier) 2 = a.ier.eoc ∧
    Word.bit (a.read .ier) 3 = a.ier.eos ∧ Word.bit (a.read .ier) 4 = a.ier.ovr ∧ Word.bit (a.read .ier) 5 = a.ier.jeoc ∧
    Word.bit (a.read .ier) 6 = a.ier.jeos := by
  simp only [Word.bit, Adc.read_ier, BitVec.getLsbD_append, BitVec.getLsbD_ofBool]
  simp

/-- `IER` written back with JEOSIE set. -/
theorem Adc.writeIer_jeos (a : Adc) : a.writeIer (BitVec.ofInt 32 ((a.read .ier).toNat ||| 0x40 : Nat)) =
    { a with ier := { a.ier with jeos := true } } := by
  have hword : BitVec.ofInt 32 ((a.read .ier).toNat ||| 0x40 : Nat) = a.read .ier ||| 0x40#32 := by
    rw [← ofInt_toNat (a.read .ier ||| 0x40#32), BitVec.toNat_or]
    rfl
  obtain ⟨h0, h2, h3, h4, h5, h6⟩ := a.bits_ier
  have hor (i : Nat) : Word.bit (a.read .ier ||| 0x40#32) i = (Word.bit (a.read .ier) i || Word.bit 0x40#32 i) := BitVec.getLsbD_or
  rw [hword, Adc.writeIer, hor, hor, hor, hor, hor, hor, h0, h2, h3, h4, h5, h6]
  simp [Word.bit]

section
variable {a : Adc} (h : a.running = false) (u : AdcUnit) (n : Nat)
include h

theorem Adc.writeSmpr1_ofNat : a.writeSmpr1 u (BitVec.ofNat 32 n) = .ok { a with smpr1 := BitVec.ofNat 30 n } := by
  rw [Adc.writeSmpr1_ok h, extractLsb_ofNat (by decide)]

theorem Adc.writeSmpr2_ofNat : a.writeSmpr2 u (BitVec.ofNat 32 n) = .ok { a with smpr2 := BitVec.ofNat 27 n } := by
  rw [Adc.writeSmpr2_ok h, extractLsb_ofNat (by decide)]

end

theorem ofNat_smpLow (w code n : Nat) :
    BitVec.ofNat w (smpLow code n) = if n ≤ 9 then BitVec.ofNat w (code * 2 ^ (3 * n)) else 0 :=
  apply_ite ..

theorem ofNat_smpHigh (w code n : Nat) :
    BitVec.ofNat w (smpHigh code n) = if 10 ≤ n then BitVec.ofNat w (code * 2 ^ (3 * (n - 10))) else 0 :=
  apply_ite ..

/-- The writes of R663 after the two assignments, with their values. -/
def productionWrites (r j k l h : Nat) : List ((AdcReg × Expr) × Int) :=
  [((.smpr1, .loc .adcConfigureProductionS1), (BitVec.ofNat 32 l).toNat),
    ((.smpr2, .loc .adcConfigureProductionS2), (BitVec.ofNat 32 h).toNat),
    ((.sqr1, shlE (.num r) (.num 6)), (r * 2 ^ 6 : Nat)),
    ((.jsqr, orE (orE (orE (orE (.num 0x1) (shlE (.num 0) (.num 2))) (shlE (.num 1) (.num 7))) (shlE (.num j) (.num 9)))
      (shlE (.num k) (.num 15))), (1 ||| 0 * 2 ^ 2 ||| 1 * 2 ^ 7 ||| j * 2 ^ 9 ||| k * 2 ^ 15 : Nat))]

theorem eval_productionWrites {env : List (LocalName × Word)} {lo hi : Nat}
    (hlo : findLocal env .adcConfigureProductionS1 = some (BitVec.ofNat 32 lo))
    (hhi : findLocal env .adcConfigureProductionS2 = some (BitVec.ofNat 32 hi)) (r j k : Nat) :
    ∀ w ∈ productionWrites r j k lo hi, w.1.1 ≠ .cr ∧ Expr.eval env w.1.2 = .ok w.2 := by
  simp only [productionWrites, List.forall_mem_cons]
  refine ⟨⟨nofun, Expr.eval_loc hlo⟩, ⟨nofun, Expr.eval_loc hhi⟩, ⟨nofun, eval_shlE env r 6⟩, ⟨nofun, ?_⟩, nofun⟩
  exact Expr.eval_orE (Expr.eval_orE (Expr.eval_orE (Expr.eval_orE (Expr.eval.eq_1 _ 1) (eval_shlE _ 0 2)) (eval_shlE _ 1 7))
    (eval_shlE _ j 9)) (eval_shlE _ k 15)

theorem Adc.write_production {a : Adc} (h : a.running = false) {chMax r j k : Nat} (hmax : chMax ≤ 18) (hr : r ≤ chMax)
    (hj : j ≤ chMax) (hk : k ≤ chMax) (u : AdcUnit) (lo hi : Nat) :
    a.writeAll chMax u ((productionWrites r j k lo hi).map fun w => (w.1.1, BitVec.ofInt 32 w.2)) = .ok { a with
      smpr1 := BitVec.ofNat 30 lo, smpr2 := BitVec.ofNat 27 hi, sqLen := 0, sq := #v[BitVec.ofNat 5 r, 0, 0, 0]
      jsqLen := 1, jextsel := 0, jexten := 1, jsq := #v[BitVec.ofNat 5 j, BitVec.ofNat 5 k, 0, 0] } := by
  have hlo : a.writeSmpr1 u (BitVec.ofInt 32 (BitVec.ofNat 32 lo).toNat) = .ok { a with smpr1 := BitVec.ofNat 30 lo } := by
    rw [ofInt_toNat, Adc.writeSmpr1_ofNat h]
  have hhi (b : Adc) (h : b.running = false) :
      b.writeSmpr2 u (BitVec.ofInt 32 (BitVec.ofNat 32 hi).toNat) = .ok { b with smpr2 := BitVec.ofNat 27 hi } := by
    rw [ofInt_toNat, Adc.writeSmpr2_ofNat h]
  have hsqr (b : Adc) (h : b.running = false) := Adc.writeSqr1_single h hmax hr u
  have hjsqr (b : Adc) (h : b.running = false) := Adc.writeJsqr_pair h hmax hj hk u
  refine Adc.writeAll_cons (r := .smpr1) hlo ?_
  refine Adc.writeAll_cons (r := .smpr2) (hhi _ h) ?_
  refine Adc.writeAll_cons (r := .sqr1) (hsqr _ h) ?_
  exact Adc.writeAll_cons (r := .jsqr) (hjsqr _ h) rfl

section
variable {r j k : Nat} (h : s.AtCall (.adcConfigureProduction u (.num r) (.num j) (.num k)) ds) (hr : r ≤ s.params.chMax)
  (hj : j ≤ s.params.chMax) (hk : k ≤ s.params.chMax)
include h hr hj hk

theorem adcConfigureProduction_begins :
    s.Runs [Move.statement] (bodyAdcConfigureProduction s.params u (.num r) (.num j) (.num k)) 1 (s.setAdc u (s.adc u)) s.top.loc := by
  rw [State.setAdc_self]
  refine h.begins rfl rfl (by simp) (.check (Nat.succ_pos _) _ _ ((Expr.eval_anyAbove rfl rfl rfl _).trans ?_))
  rw [decide_eq_false (by omega)]
  rfl

theorem adcConfigureProduction_faults (hrun : (s.adc u).adstart = true ∨ (s.adc u).jadstart = true) :
    s.CallFaults (List.replicate 2 Move.statement) s ⟨.adcRun, .num (if u = .one then 1 else 2)⟩ := by
  have hfaults := (adcConfigureProduction_begins h hr hj hk).adcWrite_faults (r := .cfgr) rfl h.1 rfl nofun
    (Adc.write_running_error (Adc.running_eq_true.mpr hrun) _ _ _ (by simp))
  rwa [State.setAdc_self, unitFault_eq] at hfaults

theorem adcConfigureProduction_ends (hrun : (s.adc u).running = false) :
    let low := fun n : Nat => if n ≤ 9 then BitVec.ofNat 30 (s.params.smpLong * 2 ^ (3 * n)) else 0
    let high := fun n : Nat => if 10 ≤ n then BitVec.ofNat 27 (s.params.smpLong * 2 ^ (3 * (n - 10))) else 0
    s.CallEnds (List.replicate 10 Move.statement) (s.setAdc u { s.adc u with
      dmaen := true, ovrmod := true, cont := true
      smpr1 := low r ||| low j ||| low k, smpr2 := high r ||| high j ||| high k
      sqLen := 0, sq := #v[BitVec.ofNat 5 r, 0, 0, 0]
      jsqLen := 1, jextsel := 0, jexten := 1, jsq := #v[BitVec.ofNat 5 j, BitVec.ofNat 5 k, 0, 0]
      ier := { (s.adc u).ier with jeos := true } }) [] := by
  intro low high
  have hp := h.1
  have hmax := chMax_le hp
  have hchecked := adcConfigureProduction_begins h hr hj hk
  generalize s.adc u = a at hrun hchecked ⊢
  have hmode : s.Runs _ _ _ (s.setAdc u { a with dmaen := true, ovrmod := true, cont := true }) _ :=
    hchecked.adcWrite (r := .cfgr) rfl hp rfl nofun (Adc.writeCfgr_ok hrun u 0x3001#32)
  generalize hb : ({ a with dmaen := true, ovrmod := true, cont := true } : Adc) = b at hmode
  have hidle : b.running = false := hb ▸ hrun
  have hlow (n : Nat) := eval_smpLowE s.top.loc n s.params.smpLong
  have hhigh (n : Nat) := eval_smpHighE (writeLocal s.top.loc .adcConfigureProductionS1
    (BitVec.ofInt 32 (smpLow s.params.smpLong r ||| smpLow s.params.smpLong j ||| smpLow s.params.smpLong k : Nat))) n s.params.smpLong
  have hset := (hmode.assign rfl (Expr.eval_orE (Expr.eval_orE (hlow r) (hlow j)) (hlow k))).assign rfl
    (Expr.eval_orE (Expr.eval_orE (hhigh r) (hhigh j)) (hhigh k))
  rw [BitVec.ofInt_natCast, BitVec.ofInt_natCast] at hset
  generalize hlo : smpLow s.params.smpLong r ||| smpLow s.params.smpLong j ||| smpLow s.params.smpLong k = lo at hset
  generalize hhi : smpHigh s.params.smpLong r ||| smpHigh s.params.smpLong j ||| smpHigh s.params.smpLong k = hi at hset
  have hevals := eval_productionWrites (lo := lo) (hi := hi) ((findLocal_other _ _ (by simp)).trans (findLocal_same s.top.loc _ _))
    (findLocal_same _ _ _) r j k
  have hwritten := hset.adcWrites hp rfl hevals (Adc.write_production hidle hmax hr hj hk u _ _)
  have hread := hwritten.adcRead (r := .ier) rfl hp nofun
  have hjeos := hread.adcWrite (r := .ier) rfl hp (Expr.eval_orE (Expr.eval_written _ _ _) (Expr.eval.eq_1 _ 0x40)) nofun
    (congrArg Except.ok (Adc.writeIer_jeos _))
  have hends := hjeos.ends (List.forall_mem_nil _) fun _ _ =>
    (findLocal_other _ _ (by simp)).trans ((findLocal_other _ _ (by simp)).trans (findLocal_other _ _ (by simp)))
  subst hb hlo hhi
  simp only [BitVec.ofNat_or, ofNat_smpLow, ofNat_smpHigh] at hends
  exact hends

end

/-- After `ADC_ENABLE` only its own local is new. -/
theorem adcEnable_ends {ms : List Move} {w : State}
    (h : s.Runs ms (bodyAdcEnable s.params u) 4 w (writeLocal s.top.loc .adcEnableC ((s.adc u).read .cr))) : s.CallEnds ms w [] :=
  State.Runs.ends (body := bodyAdcEnable s.params u) h (List.forall_mem_nil _) fun _ _ => findLocal_other _ _ (by simp)

end

/-- Settles O19: each call as its chain of statements and, where it waits, of the unit's steps. -/
theorem adcSetupRuns : Obligations.AdcSetupRuns := by
  unfold Obligations.AdcSetupRuns
  refine fun s u ds => ⟨adcPowerupCalibrate_ends, fun h => ⟨fun haden => ?_, adcEnable_faults h, fun haden hcal hreg hpower => ⟨?_, ?_⟩⟩,
    fun h => ⟨adcStart_faults h, adcStart_ends h⟩, fun r j k h hr hj hk => ⟨?_, fun hrun hinj => ?_⟩⟩
  · exact adcEnable_ends (adcEnable_enabled h haden)
  · exact adcEnable_ends (adcEnable_ready h haden hcal hreg hpower)
  · exact fun hadrdy => adcEnable_ends (adcEnable_adrdy h haden hcal hreg hpower hadrdy)
  · exact adcConfigureProduction_faults h hr hj hk
  · exact adcConfigureProduction_ends h hr hj hk (by simp [Adc.running, hrun, hinj])

end Sys2Proof.Machine
end

section
/-! SUPPORT. `ADC_REFERENCE_VOLTAGE` and the reads of the injected flag and data as whole calls (42_adc.md R666, R669, R670). -/
namespace Sys2Proof.Machine

section
variable {s u u' : State} {body : Prog} {k : Nat} {env : List (LocalName × Word)}

/-- A read of the trim halfword (20_memory.md R205). -/
theorem State.Does.readTrim {x : LocalName} (hk : body[k]? = some (.rd x .b2 (.num u.params.trimAddr))) (hp : u.params.wf = true) :
    s.Does body k (.rd x .b2 (.num u.params.trimAddr)) u env u (writeLocal env x (0#16 ++ u.trim)) := by
  intro t h
  have hlt := (List.getElem?_eq_some_iff.mp hk).1
  have hparams : t.params = u.params := h.units.same_params
  have htrim : t.trim = u.trim := by
    obtain ⟨-, -, -, -, -, -, -, -, -, -, trim, -⟩ := h.units
    exact trim
  refine ⟨t.loaded x (0#16 ++ u.trim), runStmt_rd t t x _ _ (BitVec.ofNat 32 u.params.trimAddr) _ .word
    (by rw [h.top]; exact State.inCall_current hk) (t.evalWord_natCast _) ?_, State.inCall_next hlt ▸ h.loaded (.refl t) h.units x _⟩
  simp only [State.hostRead, hparams, locate_trimAddr u.params hp, State.trimRead_b2, htrim]

/-- A read at an address that is computed, of the register that it is (40_bus.md R420). -/
theorem State.Does.readAt {x : LocalName} {r : Reg} {e : Expr} {v : Word} (hk : body[k]? = some (.rd x .b4 e))
    (he : Expr.eval env e = .ok (r.address u.params : Nat)) (hp : u.params.wf = true) (hr : r.present u.params = true)
    (hv : ∀ t, u.SameUnits t → t.regRead r = .value v t) : s.Does body k (.rd x .b4 e) u env u (writeLocal env x v) := by
  intro t h
  have hparams : t.params = u.params := h.units.same_params
  have hlt := (List.getElem?_eq_some_iff.mp hk).1
  have haddr : t.evalWord e = .ok (r.addr u.params) := (State.evalWord_ok (h.eval he)).trans (by rw [BitVec.ofInt_natCast]; rfl)
  refine ⟨t.loaded x v, runStmt_rd t t x _ _ (r.addr u.params) v .word (by rw [h.top]; exact State.inCall_current hk) haddr ?_,
    State.inCall_next hlt ▸ h.loaded (.refl t) h.units x v⟩
  simp only [State.hostRead, hparams, locate_word u.params hp r hr, hv t h.units]

end

section
variable {s : State} {u : AdcUnit} {ds : List LocalName}

/-! ### `ADC_REFERENCE_VOLTAGE` -/

/-- The trim halfword is in range (42_adc.md R666). -/
abbrev State.trimGood (s : State) : Prop := s.params.vrefCalMin.toNat ≤ s.trim.toNat ∧ s.trim.toNat ≤ s.params.vrefCalMax.toNat

/-- The reference voltage of the trim halfword, or the fallback (42_adc.md R666). -/
def State.refVoltage (s : State) : Word :=
  if s.trimGood then F32.div (F32.mul s.params.refCalV (F32.ofInt s.trim.toNat)) 0x457FF000#32 else s.params.refFallback

/-- An expression that is a word's value. -/
theorem Expr.eval_f32 {env : List (LocalName × Word)} (op : BinOp) {f : Word → Word → Word}
    (hf : ∀ a b, evalBin op a b = (f (Word.ofInt a) (Word.ofInt b)).toNat) {a b : Expr} {v w : Word}
    (ha : Expr.eval env a = .ok v.toNat) (hb : Expr.eval env b = .ok w.toNat) : Expr.eval env (.bin op a b) = .ok (f v w).toNat := by
  rw [Expr.eval_bin op ha hb, hf, Word.ofInt, Word.ofInt, ofInt_toNat, ofInt_toNat]

theorem Expr.eval_f32OfInt {env : List (LocalName × Word)} {e : Expr} {n : Nat} (h : Expr.eval env e = .ok n) :
    Expr.eval env (.un .f32OfInt e) = .ok (F32.ofInt n).toNat := by
  simp only [Expr.eval, h, evalUn]

theorem toNat_zero_append {n : Nat} (m : Nat) (w : BitVec n) : (0#m ++ w).toNat = w.toNat := by
  simp

theorem adcReferenceVoltage_begins (h : s.AtCall .adcReferenceVoltage ds) :
    s.Runs (List.replicate 2 Move.statement) (bodyAdcReferenceVoltage s.params (destOr ds 0 .adcReferenceVoltageRef))
      (if ¬s.trimGood then 4 else 2) s (writeLocal s.top.loc .adcReferenceVoltageC (0#16 ++ s.trim)) := by
  have hloc := Expr.eval_written s.top.loc .adcReferenceVoltageC (0#16 ++ s.trim)
  rw [toNat_zero_append] at hloc
  have hread := h.begins rfl rfl (by simp) (.readTrim rfl h.1)
  refine hread.branch_if rfl ((Expr.eval_bin .boolOr (Expr.eval_bin .lt hloc (Expr.eval.eq_1 _ s.params.vrefCalMin.toNat))
    (Expr.eval_bin .gt hloc (Expr.eval.eq_1 _ s.params.vrefCalMax.toNat))).trans ?_)
  simp only [evalBin, Int.ofBool_bne_zero, ← Bool.decide_or]
  congr 3
  exact propext (by rw [State.trimGood]; omega)

theorem adcReferenceVoltage_runs (h : s.AtCall .adcReferenceVoltage ds) :
    s.Runs (List.replicate (if s.trimGood then 4 else 3) Move.statement)
      (bodyAdcReferenceVoltage s.params (destOr ds 0 .adcReferenceVoltageRef)) 5 s
      (writeLocal (writeLocal s.top.loc .adcReferenceVoltageC (0#16 ++ s.trim)) (destOr ds 0 .adcReferenceVoltageRef) s.refVoltage) := by
  have hbranch := adcReferenceVoltage_begins h
  by_cases hgood : s.trimGood
  · rw [if_neg (not_not.mpr hgood)] at hbranch
    rw [if_pos hgood]
    have hloc := Expr.eval_written s.top.loc .adcReferenceVoltageC (0#16 ++ s.trim)
    rw [toNat_zero_append] at hloc
    have hset := hbranch.assign rfl (Expr.eval_f32 .fDiv (f := F32.div) (fun _ _ => rfl)
      (Expr.eval_f32 .fMul (f := F32.mul) (w := F32.ofInt s.trim.toNat) (fun _ _ => rfl) (Expr.eval.eq_1 _ s.params.refCalV.toNat)
        (Expr.eval_f32OfInt hloc)) (Expr.eval.eq_1 _ (0x457FF000#32).toNat))
    rw [ofInt_toNat] at hset
    rw [State.refVoltage, if_pos hgood]
    exact hset.jump rfl
  · rw [if_pos hgood] at hbranch
    rw [if_neg hgood]
    have hset := hbranch.assign rfl (Expr.eval.eq_1 _ s.params.refFallback.toNat)
    rw [ofInt_toNat] at hset
    rw [State.refVoltage, if_neg hgood]
    exact hset

theorem adcReferenceVoltage_ends (h : s.AtCall .adcReferenceVoltage ds) :
    s.CallEnds (List.replicate (if s.trimGood then 4 else 3) Move.statement) s [(destOr ds 0 .adcReferenceVoltageRef, s.refVoltage)] := by
  refine State.Runs.ends (body := bodyAdcReferenceVoltage _ _) (adcReferenceVoltage_runs h)
    (List.forall_mem_singleton.mpr (findLocal_same _ _ _)) fun n hn => ?_
  rw [findLocal_other _ _ (hn _ (List.mem_singleton_self _)), findLocal_other _ _ (by simp)]

/-! ### The injected flag and data -/

theorem adcReadInjectedFlag_ends (h : s.AtCall (.adcReadInjectedFlag u) ds) :
    s.CallEnds (List.replicate 2 Move.statement) s
      [(destOr ds 0 .adcReadInjectedFlagFlag, if (s.adc u).isr.jeos then 1 else 0)] := by
  have hread := h.begins rfl rfl (by simp) (.adcRead (v := u) (r := .isr) rfl h.1 (by simp))
  have hshift : Expr.eval (writeLocal s.top.loc .adcReadInjectedFlagF ((s.adc u).read .isr))
      (shrE (.loc .adcReadInjectedFlagF) (.num 6)) = .ok ((s.adc u).read .isr >>> 6).toNat := by
    rw [shrE, Expr.eval_bin .shr (Expr.eval_written _ _ _) (Expr.eval.eq_1 _ 6)]
    simp [evalBin, intShr, Nat.shiftRight_eq_div_pow]
  have hset := hread.assign rfl (Expr.eval_andE hshift (Expr.eval.eq_1 _ ((1#32).toNat : Nat)))
  have hbit : Word.bit ((s.adc u).read .isr >>> 6) 0 = (s.adc u).isr.jeos :=
    (BitVec.getLsbD_ushiftRight ..).trans (s.adc u).bits_isr.2.2.1
  rw [← BitVec.toNat_and, ofInt_toNat, Word.and_bit (i := 0) (by rfl), hbit] at hset
  refine hset.ends (List.forall_mem_singleton.mpr (findLocal_same _ _ _)) fun n hn => ?_
  rw [findLocal_other _ _ (hn _ (List.mem_singleton_self _)), findLocal_other _ _ (by simp)]

/-- The data of a register of 16 bits. -/
theorem Expr.eval_low16 {env : List (LocalName × Word)} {x : LocalName} {d : BitVec 16} (hx : findLocal env x = some (d.setWidth 32)) :
    Expr.eval env (andE (.loc x) (.num 0xFFFF)) = .ok d.toNat := by
  rw [Expr.eval_andE (n := 2 ^ 16 - 1) (Expr.eval_loc hx) rfl, Nat.and_two_pow_sub_one_eq_mod, BitVec.toNat_setWidth_of_le (by decide),
    Nat.mod_eq_of_lt d.isLt]

/-- Its rank's data register (10_state.md R129). -/
def injectedReg (k : Fin 2) : AdcReg := if k = 0 then .jdr1 else .jdr2

theorem Adc.read_injectedReg (a : Adc) (k : Fin 2) : a.read (injectedReg k) = a.jdr[k.val].setWidth 32 := by
  match k with
  | 0 => rfl
  | 1 => rfl

theorem address_injectedReg (p : Params) (u : AdcUnit) (k : Fin 2) :
    Reg.address p (.adc u (injectedReg k)) = Reg.address p (.adc u .jdr1) + 4 * k.val := by
  match k with
  | 0 => rfl
  | 1 => rfl

theorem adcReadInjectedData_ends (k : Fin 2) (h : s.AtCall (.adcReadInjectedData u (.num (k.val + 1 : Nat))) ds) :
    s.CallEnds (List.replicate 3 Move.statement) s [(destOr ds 0 .adcReadInjectedDataCode, 0#16 ++ (s.adc u).jdr[k.val])] := by
  have hcheck := h.begins rfl rfl (by simp) (.check (Nat.succ_pos _) _ _ ((Expr.eval_outside (Expr.eval.eq_1 _ _) 1 2).trans (by
    rw [decide_eq_false (by omega)]
    rfl)))
  have haddr : Expr.eval s.top.loc (addE (regE s.params (.adc u .jdr1)) (mulE (.num 4) (subE (.num (k.val + 1 : Nat)) (.num 1)))) =
      .ok (Reg.address s.params (.adc u (injectedReg k)) : Nat) := by
    rw [address_injectedReg]
    simp [addE, regE, mulE, subE, Expr.eval, evalBin]
  have hread := hcheck.stmt rfl (by simp) (.readAt rfl haddr h.1 rfl fun t ht => by
    rw [regRead_adc t u (by rw [injectedReg]; split <;> simp), ht.adc, Adc.read_injectedReg])
  have hset := hread.assign rfl (Expr.eval_low16 (findLocal_same _ _ _))
  rw [BitVec.ofInt_natCast, BitVec.ofNat_toNat, setWidth_eq_zero_append 16] at hset
  refine hset.ends (List.forall_mem_singleton.mpr (findLocal_same _ _ _)) fun n hn => ?_
  rw [findLocal_other _ _ (hn _ (List.mem_singleton_self _)), findLocal_other _ _ (by simp)]

end
end Sys2Proof.Machine
end

section
/-! SUPPORT. `ADC_ONE_SHOT` up to its result: the unit reprogrammed for single conversions, its conversions one by one, and the unit
restored (42_adc.md R640, R642, R664). -/
namespace Sys2Proof.Machine

/-! ### The unit during the operation -/

/-- The unit with its interrupts off, no DMA, no overwrite, single conversions of one channel, and its sampling time. -/
def Adc.singleShot (a : Adc) (ch smp : Nat) : Adc :=
  { a with
    ier := ⟨false, false, false, false, false, false⟩
    dmaen := false, ovrmod := false, cont := false
    smpr1 := BitVec.ofNat 30 (smpLow smp ch), smpr2 := BitVec.ofNat 27 (smpHigh smp ch), sqLen := 0, sq := #v[BitVec.ofNat 5 ch, 0, 0, 0] }

/-- The unit with EOC, EOS and OVR clear. -/
def Adc.flagsClear (a : Adc) : Adc := { a with isr := { a.isr with eoc := false, eos := false, ovr := false } }

/-- The unit after one conversion that gave the code and whose data has been read. -/
def Adc.sampled (a : Adc) (code : Nat) : Adc :=
  { a with isr := { a.isr with eoc := false, eos := true, ovr := false }, dr := BitVec.ofNat 16 code, rrank := 0 }

/-- The unit at the end: the last code in DR, EOC, EOS and OVR clear (42_adc.md R664). -/
def Adc.measured (a : Adc) (code : Nat) : Adc :=
  { a with isr := { a.isr with eoc := false, eos := false, ovr := false }, dr := BitVec.ofNat 16 code, rrank := 0 }

@[simp] theorem Adc.sampled_sampled (a : Adc) (c d : Nat) : (a.sampled c).sampled d = a.sampled d := rfl

/-- The unit waits for the start of one conversion. -/
structure Adc.CanSample (a : Adc) : Prop where
  ready : a.en = .ready
  idle : a.adstart = false
  noInjected : a.jact = false
  single : a.cont = false
  oneRank : a.sqLen = 0
  empty : a.isr.eoc = false
  noOverrun : a.isr.ovr = false
  power : ¬(a.advregen = true ∧ a.deeppwd = true)

theorem Adc.CanSample.sampled {a : Adc} (h : a.CanSample) (code : Nat) : (a.sampled code).CanSample :=
  ⟨h.ready, h.idle, h.noInjected, h.single, h.oneRank, rfl, rfl, h.power⟩

section
variable {a : Adc} (h : a.CanSample)
include h

theorem Adc.CanSample.crAccepts : a.CrAccepts (a.crKeep 4#4) :=
  Adc.crAccepts_crKeep h.power nofun (fun _ _ => h.ready) nofun

theorem Adc.CanSample.crEffect : a.crEffect (a.crKeep 4#4) = { a with adstart := true, rrank := 0 } := by
  rw [Adc.crEffect_crKeep, Adc.crStarts_of_bit (Adc.bit_crKeep _ _ (by decide))]
  simp [h.idle]

/-- The conversion of the only rank gives the code and stops (42_adc.md R642). -/
theorem Adc.CanSample.convert (code : Nat) : Adc.convertRegular { a with adstart := true, rrank := 0 } (BitVec.ofNat 16 code) =
    { a.sampled code with isr := { a.isr with eoc := true, eos := true, ovr := false } } := by
  rw [Adc.convertRegular_eq rfl]
  simp [h.empty, h.oneRank, h.single, h.noOverrun, h.idle, Adc.sampled]

end

/-! ### Its reprogramming and its restoring -/

/-- The writes of R664 that reprogram the unit, with their values. -/
def oneShotWrites (ch smp : Nat) : List ((AdcReg × Expr) × Int) :=
  [((.ier, .num 0), 0), ((.sqr1, .num 0), 0), ((.smpr1, .num 0), 0), ((.smpr2, .num 0), 0), ((.cfgr, .num 0), 0),
    ((.smpr1, smpLowE (.num ch) (.num smp)), smpLow smp ch), ((.smpr2, smpHighE (.num ch) (.num smp)), smpHigh smp ch),
    ((.sqr1, shlE (.num ch) (.num 6)), (ch * 2 ^ 6 : Nat))]

theorem eval_oneShotWrites (env : List (LocalName × Word)) (ch smp : Nat) :
    ∀ w ∈ oneShotWrites ch smp, w.1.1 ≠ .cr ∧ Expr.eval env w.1.2 = .ok w.2 := by
  simp only [oneShotWrites, List.forall_mem_cons]
  exact ⟨⟨nofun, rfl⟩, ⟨nofun, rfl⟩, ⟨nofun, rfl⟩, ⟨nofun, rfl⟩, ⟨nofun, rfl⟩, ⟨nofun, eval_smpLowE env ch smp⟩,
    ⟨nofun, eval_smpHighE env ch smp⟩, ⟨nofun, eval_shlE env ch 6⟩, nofun⟩

theorem Adc.write_oneShot {a : Adc} (h : a.running = false) {chMax ch : Nat} (hmax : chMax ≤ 18) (hch : ch ≤ chMax) (u : AdcUnit)
    (smp : Nat) : a.writeAll chMax u ((oneShotWrites ch smp).map fun w => (w.1.1, BitVec.ofInt 32 w.2)) = .ok (a.singleShot ch smp) := by
  have hsqr1 (b : Adc) (h : b.running = false) {r : Nat} (hr : r ≤ chMax) := Adc.writeSqr1_single h hmax hr u
  have hcfgr (b : Adc) (h : b.running = false) := Adc.writeCfgr_ok h u 0
  have hsmpr1 (b : Adc) (h : b.running = false) (n : Nat) :
      b.writeSmpr1 u (BitVec.ofInt 32 n) = .ok { b with smpr1 := BitVec.ofNat 30 n } := by
    rw [BitVec.ofInt_natCast, Adc.writeSmpr1_ofNat h]
  have hsmpr2 (b : Adc) (h : b.running = false) (n : Nat) :
      b.writeSmpr2 u (BitVec.ofInt 32 n) = .ok { b with smpr2 := BitVec.ofNat 27 n } := by
    rw [BitVec.ofInt_natCast, Adc.writeSmpr2_ofNat h]
  refine Adc.writeAll_cons (r := .ier) (congrArg Except.ok (Adc.writeIer.eq_1 a 0)) ?_
  refine Adc.writeAll_cons (r := .sqr1) (hsqr1 _ (by exact h) (r := 0) (Nat.zero_le _)) ?_
  refine Adc.writeAll_cons (r := .smpr1) (hsmpr1 _ (by exact h) 0) ?_
  refine Adc.writeAll_cons (r := .smpr2) (hsmpr2 _ (by exact h) 0) ?_
  refine Adc.writeAll_cons (r := .cfgr) (hcfgr _ (by exact h)) ?_
  refine Adc.writeAll_cons (r := .smpr1) (hsmpr1 _ (by exact h) (smpLow smp ch)) ?_
  refine Adc.writeAll_cons (r := .smpr2) (hsmpr2 _ (by exact h) (smpHigh smp ch)) ?_
  exact Adc.writeAll_cons (r := .sqr1) (hsqr1 _ (by exact h) (r := ch) hch) rfl

/-- The writes of R664 that restore the unit from the saved words, with their values. -/
def restoreWrites (a : Adc) : List ((AdcReg × Expr) × Int) :=
  [((.isr, .num 0x8), 8), ((.cfgr, .loc .adcOneShotG), (a.read .cfgr).toNat), ((.smpr1, .loc .adcOneShotM1), (a.read .smpr1).toNat),
    ((.smpr2, .loc .adcOneShotM2), (a.read .smpr2).toNat), ((.sqr1, .loc .adcOneShotQ), (a.read .sqr1).toNat),
    ((.ier, .loc .adcOneShotE), (a.read .ier).toNat)]

theorem extractLsb_setWidth {w : Nat} (hw : w ≤ 32) (x : BitVec w) : (x.setWidth 32).extractLsb' 0 w = x := by
  apply BitVec.eq_of_toNat_eq
  rw [BitVec.extractLsb'_toNat, BitVec.toNat_setWidth_of_le hw, Nat.shiftRight_zero, Nat.mod_eq_of_lt x.isLt]

/-- A write of `IER` with the word of a unit's enables makes them the enables (10_state.md R122). -/
theorem Adc.writeIer_read (a b : Adc) : a.writeIer (b.read .ier) = { a with ier := b.ier } := by
  obtain ⟨h0, h2, h3, h4, h5, h6⟩ := b.bits_ier
  rw [Adc.writeIer, h0, h2, h3, h4, h5, h6]

/-- A write of `CFGR` with the word of a unit's mode makes it the mode (10_state.md R124). -/
theorem Adc.writeCfgr_read {a : Adc} (h : a.running = false) (u : AdcUnit) (b : Adc) :
    a.writeCfgr u (b.read .cfgr) = .ok { a with dmaen := b.dmaen, ovrmod := b.ovrmod, cont := b.cont } := by
  rw [Adc.writeCfgr_ok h, Adc.read_cfgr]
  simp only [BitVec.getLsbD_append, BitVec.getLsbD_ofBool]
  simp

theorem Adc.write_restore {a b : Adc} (hb : b.running = false) {chMax : Nat} (hranks : ranksOk chMax a.sqLen a.sq) (u : AdcUnit) :
    b.writeAll chMax u ((restoreWrites a).map fun w => (w.1.1, BitVec.ofInt 32 w.2)) = .ok { b with
      isr := { b.isr with eos := false }, ier := a.ier, dmaen := a.dmaen, ovrmod := a.ovrmod, cont := a.cont
      smpr1 := a.smpr1, smpr2 := a.smpr2, sqLen := a.sqLen, sq := a.sq } := by
  have hisr : b.writeIsr (BitVec.ofInt 32 8) = { b with isr := { b.isr with eos := false } } := by simp [Adc.writeIsr, Word.bit]
  have hsmpr1 (c : Adc) (h : c.running = false) :
      c.writeSmpr1 u (BitVec.ofInt 32 (a.read .smpr1).toNat) = .ok { c with smpr1 := a.smpr1 } := by
    rw [ofInt_toNat, Adc.writeSmpr1_ok h, Adc.read, extractLsb_setWidth (by decide)]
  have hsmpr2 (c : Adc) (h : c.running = false) :
      c.writeSmpr2 u (BitVec.ofInt 32 (a.read .smpr2).toNat) = .ok { c with smpr2 := a.smpr2 } := by
    rw [ofInt_toNat, Adc.writeSmpr2_ok h, Adc.read, extractLsb_setWidth (by decide)]
  have hcfgr (c : Adc) (h : c.running = false) := Adc.writeCfgr_read h u a
  have hsqr1 (c : Adc) (h : c.running = false) := Adc.writeSqr1_read h u hranks
  simp only [restoreWrites, List.map_cons, List.map_nil, ofInt_toNat] at hsmpr1 hsmpr2 ⊢
  refine Adc.writeAll_cons (r := .isr) (congrArg Except.ok hisr) ?_
  refine Adc.writeAll_cons (r := .cfgr) (hcfgr _ (by exact hb)) ?_
  refine Adc.writeAll_cons (r := .smpr1) (hsmpr1 _ (by exact hb)) ?_
  refine Adc.writeAll_cons (r := .smpr2) (hsmpr2 _ (by exact hb)) ?_
  refine Adc.writeAll_cons (r := .sqr1) (hsqr1 _ (by exact hb)) ?_
  exact Adc.writeAll_cons (r := .ier) (congrArg Except.ok (Adc.writeIer_read _ a)) rfl

end Sys2Proof.Machine
end

section
/-! SUPPORT. The runs of `ADC_ONE_SHOT`: its passes by induction on their number, its call to the result, and the two operations that
call it (42_adc.md R640, R642, R664, R665, R667). -/
namespace Sys2Proof.Machine

/-! ### The codes of a run -/

/-- The code of unit u that step k of the run draws (42_adc.md R640). -/
def State.code (s : State) (u : AdcUnit) (k : Nat) : Nat := Config.freeCode (s.stepNo + k) u % 2 ^ s.params.adcBits

/-- The sum of the codes of n passes, of which the first begins at step k. -/
def State.codeSum (s : State) (u : AdcUnit) (k n : Nat) : Nat := ((List.range n).map fun j => s.code u (k + 8 * j + 2)).sum

/-- One pass: two statements, the conversion, five statements. -/
def samplePass (u : AdcUnit) : List Move := List.replicate 2 Move.statement ++ [Move.regular u] ++ List.replicate 5 Move.statement

def samplePasses (u : AdcUnit) (n : Nat) : List Move := (List.replicate n (samplePass u)).flatten

theorem samplePasses_succ (u : AdcUnit) (n : Nat) : samplePasses u (n + 1) = samplePasses u n ++ samplePass u := by
  rw [samplePasses, List.replicate_succ', List.flatten_concat, samplePasses]

theorem length_samplePasses (u : AdcUnit) (n : Nat) : (samplePasses u n).length = 8 * n := by
  induction n with
  | zero => rfl
  | succ n ih => rw [samplePasses_succ, List.length_append, ih]; rfl

theorem State.codeSum_succ (s : State) (u : AdcUnit) (k n : Nat) : s.codeSum u k (n + 1) = s.codeSum u k n + s.code u (k + 8 * n + 2) :=
  List.sum_range_succ _ _

theorem State.code_toNat {s : State} (hp : s.params.wf = true) (u : AdcUnit) (k : Nat) :
    (BitVec.ofNat 16 (s.code u k)).toNat = s.code u k := by
  obtain ⟨-, -, -, -, -, -, -, -, -, -, -, hbits, -⟩ := s.params.wf_iff.mp hp
  have hcode : s.code u k < 2 ^ s.params.adcBits := Nat.mod_lt _ (Nat.two_pow_pos _)
  rw [BitVec.toNat_ofNat, Nat.mod_eq_of_lt (hcode.trans_le (Nat.pow_le_pow_right (by decide) hbits))]

/-! ### Locals -/

/-- At most the locals of `own` differ. -/
def SameLocals (own : List LocalName) (env env' : List (LocalName × Word)) : Prop := ∀ y ∉ own, findLocal env' y = findLocal env y

section
variable {own : List LocalName} {env env' env'' : List (LocalName × Word)} {x : LocalName}

theorem SameLocals.refl (own : List LocalName) (env : List (LocalName × Word)) : SameLocals own env env := fun _ _ => rfl

theorem SameLocals.trans (h : SameLocals own env env') (h' : SameLocals own env' env'') : SameLocals own env env'' :=
  fun y hy => (h' y hy).trans (h y hy)

theorem SameLocals.write (h : SameLocals own env env') (hx : x ∈ own) (v : Word) : SameLocals own env (writeLocal env' x v) :=
  fun y hy => (findLocal_other env' v (ne_of_mem_of_not_mem hx hy)).trans (h y hy)

theorem SameLocals.mono {own' : List LocalName} (h : SameLocals own env env') (hsub : own ⊆ own') : SameLocals own' env env' :=
  fun y hy => h y fun hy' => hy (hsub hy')

end

/-- A sum in a local is kept modulo 2^32 (40_bus.md R424). -/
theorem ofInt_add_ofNat (m n : Nat) : BitVec.ofInt 32 (((BitVec.ofNat 32 m).toNat : Int) + n) = BitVec.ofNat 32 (m + n) := by
  rw [← Nat.cast_add, BitVec.ofInt_natCast]
  apply BitVec.eq_of_toNat_eq
  simp

theorem State.Runs.of_moves {s u : State} {ms ms' : List Move} {body : Prog} {k : Nat} {env : List (LocalName × Word)}
    (h : s.Runs ms body k u env) (he : ms = ms') : s.Runs ms' body k u env := he ▸ h

/-- The locals of a pass. -/
def passLocals : List LocalName := [.adcOneShotC2, .adcOneShotD, .adcOneShotAcc, .adcOneShotI]

/-! ### Passes -/

section
variable {s : State} {u : AdcUnit} {ch n smp : Nat} {x : LocalName} {ms : List Move} {b : Adc} {env : List (LocalName × Word)}

/-- A pass: the unit converts once, and its code is added to the sum (42_adc.md R664). -/
theorem oneShot_pass {total i : Nat} (hp : s.params.wf = true)
    (h : s.Runs ms (bodyAdcOneShot s.params u (.num ch) (.num n) (.num smp) x) 20 (s.setAdc u b) env) (hb : b.CanSample)
    (htotal : findLocal env .adcOneShotAcc = some (BitVec.ofNat 32 total)) (hi : findLocal env .adcOneShotI = some (BitVec.ofNat 32 i))
    (hlt : i < n) (hn : n < 2 ^ 32) :
    let code := s.code u (ms.length + 2)
    ∃ env', s.Runs (ms ++ samplePass u) (bodyAdcOneShot s.params u (.num ch) (.num n) (.num smp) x) (if i + 1 < n then 20 else 27)
        (s.setAdc u (b.sampled code)) env' ∧ findLocal env' .adcOneShotAcc = some (BitVec.ofNat 32 (total + code)) ∧
      findLocal env' .adcOneShotI = some (BitVec.ofNat 32 (i + 1)) ∧ SameLocals passLocals env env' := by
  intro code
  have hstarted := (h.adcRead (r := .cr) rfl hp (by simp)).crWrite rfl hp (Adc.eval_crKeep b 4#4 (findLocal_same _ _ _)) hb.crAccepts
    (Adc.bit_crKeep _ _ (by decide)) hb.crEffect
  have hconverts := hstarted.regular (by simp [Adc.regularEnabled, hb.ready, hb.noInjected])
  have hno : s.stepNo + (ms ++ [Move.statement] ++ [Move.statement]).length = s.stepNo + (ms.length + 2) := by simp
  rw [hno, hb.convert] at hconverts
  have hread : s.Runs _ (bodyAdcOneShot s.params u (.num ch) (.num n) (.num smp) x) _ (s.setAdc u (b.sampled code)) _ :=
    (hconverts.adcPoll (r := .isr) rfl hp (by simp) (by
      rw [Word.and_bit (i := 2) (by rfl), (Adc.bits_isr _).2.1]
      rfl)).adcData rfl hp
  have hadd := hread.assign rfl (Expr.eval_bin .add (Expr.eval_loc (v := BitVec.ofNat 32 total) (by simp [findLocal_writeLocal, htotal]))
    (Expr.eval_low16 (d := BitVec.ofNat 16 code) (findLocal_same _ _ _)))
  have hnext := hadd.assign rfl (Expr.eval_bin .add (Expr.eval_loc (v := BitVec.ofNat 32 i) (by simp [findLocal_writeLocal, hi]))
    (Expr.eval.eq_1 _ 1))
  have hsum : BitVec.ofInt 32 (evalBin .add (BitVec.ofNat 32 total).toNat (BitVec.ofNat 16 code).toNat) =
      BitVec.ofNat 32 (total + code) := by
    rw [State.code_toNat hp]
    exact ofInt_add_ofNat total code
  have hsucc : BitVec.ofInt 32 (evalBin .add (BitVec.ofNat 32 i).toNat 1) = BitVec.ofNat 32 (i + 1) := ofInt_add_ofNat i 1
  rw [hsum, hsucc] at hnext
  have hcount : (BitVec.ofNat 32 (i + 1)).toNat < n ↔ i + 1 < n := by
    rw [BitVec.toNat_ofNat, Nat.mod_eq_of_lt (by omega)]
  have hbranch := hnext.branch_if (p := i + 1 < n) rfl ((Expr.eval_bin .lt (Expr.eval_written _ _ _) (Expr.eval.eq_1 _ n)).trans (by
    simp only [evalBin, Nat.cast_lt, hcount]))
  refine ⟨_, hbranch.of_moves (by simp [samplePass]), ?_, findLocal_same _ _ _, ?_⟩
  · rw [findLocal_other _ _ (by simp), findLocal_same]
  · exact (((SameLocals.refl _ _).write (by simp [passLocals]) _ |>.write (by simp [passLocals]) _).write (by simp [passLocals]) _).write
      (by simp [passLocals]) _

/-- The passes one after another: the sum of their codes, the last of which is in DR (42_adc.md R664). -/
theorem oneShot_passes (hp : s.params.wf = true)
    (h : s.Runs ms (bodyAdcOneShot s.params u (.num ch) (.num n) (.num smp) x) 20 (s.setAdc u b) env) (hb : b.CanSample)
    (htotal : findLocal env .adcOneShotAcc = some (BitVec.ofNat 32 0)) (hi : findLocal env .adcOneShotI = some (BitVec.ofNat 32 0))
    (hn : n < 2 ^ 32) : ∀ j < n,
    ∃ env', s.Runs (ms ++ samplePasses u (j + 1)) (bodyAdcOneShot s.params u (.num ch) (.num n) (.num smp) x)
        (if j + 1 < n then 20 else 27) (s.setAdc u (b.sampled (s.code u (ms.length + 8 * j + 2)))) env' ∧
      findLocal env' .adcOneShotAcc = some (BitVec.ofNat 32 (s.codeSum u ms.length (j + 1))) ∧
      findLocal env' .adcOneShotI = some (BitVec.ofNat 32 (j + 1)) ∧ SameLocals passLocals env env' := by
  intro j
  induction j with
  | zero =>
    intro hlt
    have hpass := oneShot_pass hp h hb htotal hi hlt hn
    simpa [samplePasses, State.codeSum] using hpass
  | succ j ih =>
    intro hlt
    obtain ⟨env', hruns, htotal', hi', hsame⟩ := ih (by omega)
    rw [if_pos hlt] at hruns
    have hpass := oneShot_pass hp hruns (hb.sampled _) htotal' hi' hlt hn
    rw [List.length_append, length_samplePasses, List.append_assoc, ← samplePasses_succ] at hpass
    obtain ⟨env'', hruns', htotal'', hi'', hsame'⟩ := hpass
    rw [Adc.sampled_sampled] at hruns'
    rw [← State.codeSum_succ] at htotal''
    exact ⟨env'', hruns', htotal'', hi'', hsame.trans hsame'⟩

/-! ### From the enabled unit to the result -/

/-- The words that `ADC_ONE_SHOT` saved of the unit (42_adc.md R664). -/
structure OneShotSaved (a : Adc) (env : List (LocalName × Word)) : Prop where
  sqr1 : findLocal env .adcOneShotQ = some (a.read .sqr1)
  smpr1 : findLocal env .adcOneShotM1 = some (a.read .smpr1)
  smpr2 : findLocal env .adcOneShotM2 = some (a.read .smpr2)
  cfgr : findLocal env .adcOneShotG = some (a.read .cfgr)
  ier : findLocal env .adcOneShotE = some (a.read .ier)

/-- All locals of `ADC_ONE_SHOT` and of the call in it. -/
def oneShotLocals : List LocalName :=
  [.adcOneShotC, .adcOneShotQ, .adcOneShotM1, .adcOneShotM2, .adcOneShotG, .adcOneShotE, .adcEnableC] ++ passLocals

theorem OneShotSaved.of_same {a : Adc} {env env' : List (LocalName × Word)} (h : OneShotSaved a env)
    (hsame : SameLocals passLocals env env') : OneShotSaved a env' :=
  ⟨(hsame _ (by simp [passLocals])).trans h.sqr1, (hsame _ (by simp [passLocals])).trans h.smpr1,
    (hsame _ (by simp [passLocals])).trans h.smpr2, (hsame _ (by simp [passLocals])).trans h.cfgr,
    (hsame _ (by simp [passLocals])).trans h.ier⟩

theorem OneShotSaved.eval_restore {a : Adc} {env : List (LocalName × Word)} (h : OneShotSaved a env) :
    ∀ w ∈ restoreWrites a, w.1.1 ≠ .cr ∧ Expr.eval env w.1.2 = .ok w.2 := by
  simp only [restoreWrites, List.forall_mem_cons]
  exact ⟨⟨nofun, rfl⟩, ⟨nofun, Expr.eval_loc h.cfgr⟩, ⟨nofun, Expr.eval_loc h.smpr1⟩, ⟨nofun, Expr.eval_loc h.smpr2⟩,
    ⟨nofun, Expr.eval_loc h.sqr1⟩, ⟨nofun, Expr.eval_loc h.ier⟩, nofun⟩

theorem eval_mean {env : List (LocalName × Word)} {total n : Nat} (h : findLocal env .adcOneShotAcc = some (BitVec.ofNat 32 total))
    (hn : 1 ≤ n) : Expr.eval env (.bin .div (.loc .adcOneShotAcc) (.num n)) = .ok (total % 2 ^ 32 / n : Nat) := by
  rw [Expr.eval_bin .div (Expr.eval_loc h) (Expr.eval.eq_1 env n), evalBin, intDiv, if_pos (by omega), BitVec.toNat_ofNat]
  rfl

/-- A unit that is not Running and whose next conversions are regular. -/
structure Adc.Idle (a : Adc) (chMax : Nat) : Prop where
  regular : a.adstart = false
  injected : a.jadstart = false
  noInjected : a.jact = false
  power : ¬(a.advregen = true ∧ a.deeppwd = true)
  ranks : ranksOk chMax a.sqLen a.sq

/-- The state and the locals of the call at its end. -/
def State.Measures (s : State) (u : AdcUnit) (ms : List Move) (body : Prog) (b : Adc) (x : LocalName) (k n : Nat) : Prop :=
  ∃ env, s.Runs ms body body.length (s.setAdc u (b.measured (s.code u (k + 8 * (n - 1) + 2)))) env ∧
    findLocal env x = some (BitVec.ofNat 32 (s.codeSum u k n % 2 ^ 32 / n)) ∧ SameLocals (x :: oneShotLocals) s.top.loc env

theorem oneShot_finish (hp : s.params.wf = true)
    (h : s.Runs ms (bodyAdcOneShot s.params u (.num ch) (.num n) (.num smp) x) 17 (s.setAdc u (b.singleShot ch smp)) env)
    (hsaved : OneShotSaved b env) (hsame : SameLocals oneShotLocals s.top.loc env) (hen : b.en = .ready) (hidle : b.Idle s.params.chMax)
    (hpos : 1 ≤ n) (hn : n < 2 ^ 32) :
    s.Measures u (ms ++ List.replicate 3 Move.statement ++ samplePasses u n ++ List.replicate 7 Move.statement)
      (bodyAdcOneShot s.params u (.num ch) (.num n) (.num smp) x) b x (ms.length + 3) n := by
  have hclear : s.Runs _ _ _ (s.setAdc u (b.singleShot ch smp).flagsClear) _ := h.adcWrite (r := .isr) rfl hp (Expr.eval.eq_1 _ 0x1C)
    (by simp) (by simp [Adc.write, Adc.writeIsr, Word.bit, Adc.flagsClear])
  have hzero := (hclear.assign rfl (Expr.eval.eq_1 _ 0)).assign rfl (Expr.eval.eq_1 _ 0)
  have hcan : (b.singleShot ch smp).flagsClear.CanSample :=
    ⟨hen, hidle.regular, hidle.noInjected, rfl, rfl, rfl, rfl, hidle.power⟩
  obtain ⟨env', hpasses, htotal, -, hpass⟩ := oneShot_passes hp hzero hcan
    ((findLocal_other _ _ (by simp)).trans (findLocal_same _ _ _))
    (findLocal_same _ _ _) hn (n - 1) (by omega)
  have hlen : (ms ++ [Move.statement] ++ [Move.statement] ++ [Move.statement]).length = ms.length + 3 := by simp
  rw [Nat.sub_add_cancel hpos, if_neg (lt_irrefl n), hlen] at hpasses
  rw [Nat.sub_add_cancel hpos, hlen] at htotal
  have hstill : OneShotSaved b env' :=
    hsaved.of_same ((((SameLocals.refl _ _).write (by simp [passLocals]) _).write (by simp [passLocals]) _).trans hpass)
  have hrestored := hpasses.adcWrites hp (ws := restoreWrites b) rfl hstill.eval_restore
    (Adc.write_restore (by simp [Adc.running, Adc.sampled, Adc.flagsClear, Adc.singleShot, hidle.regular, hidle.injected]) hidle.ranks u)
  have hmean := hrestored.assign rfl (eval_mean htotal hpos)
  rw [BitVec.ofInt_natCast] at hmean
  refine ⟨_, hmean.of_moves ?_, findLocal_same _ _ _, ?_⟩
  · simp only [List.append_assoc]
    rfl
  · have hloop : SameLocals oneShotLocals s.top.loc env' :=
      ((hsame.write (by simp [oneShotLocals, passLocals]) _).write (by simp [oneShotLocals, passLocals]) _).trans
        (hpass.mono (List.subset_append_right _ _))
    exact (hloop.mono (List.subset_cons_self _ _)).write (List.mem_cons_self ..) _

/-! ### The start of the call -/

/-- The check of a channel that is not above `CH_MAX`. -/
theorem Expr.eval_gtE_of_le {a : Expr} {v m : Int} (ha : Expr.eval env a = .ok v) (hle : v ≤ m) : Expr.eval env (gtE a m) = .ok 0 := by
  rw [Expr.eval_gtE ha, decide_eq_false (by omega)]
  rfl

/-- ADSTART and JADSTART in the word of `CR` (10_state.md R123). -/
theorem Adc.read_cr_running (a : Adc) : (a.read .cr &&& 0xC#32).toNat ≠ 0 ↔ a.adstart = true ∨ a.jadstart = true := by
  have hmask : a.read .cr &&& 0xC#32 = a.read .cr &&& 0x4#32 ||| a.read .cr &&& 0x8#32 := by
    rw [← BitVec.and_or_distrib_left]
    rfl
  obtain ⟨-, hstart, hjstart, -⟩ := a.bits_cr
  rw [hmask, Word.and_bit (i := 2) (by rfl), Word.and_bit (i := 3) (by rfl), hstart, hjstart]
  cases a.adstart <;> cases a.jadstart <;> decide

/-- The check of R664 that the unit is not Running. -/
theorem Adc.eval_running {a : Adc} (hx : findLocal env x = some (a.read .cr)) :
    Expr.eval env (.bin .ne (andE (.loc x) (.num 0xC)) (.num 0)) = .ok (Int.ofBool (decide (a.adstart = true ∨ a.jadstart = true))) := by
  refine (Expr.eval_bin .ne (Expr.eval_masked hx 0xC#32) (Expr.eval.eq_1 env 0)).trans ?_
  simp only [← a.read_cr_running]
  simp [evalBin, bne, Bool.beq_eq_decide_eq]

section
variable {ds : List LocalName} (h : s.AtCall (.adcOneShot u (.num ch) (.num n) (.num smp)) ds) (hch : ch ≤ s.params.chMax)
include h hch

theorem oneShot_begins : s.Runs (List.replicate 2 Move.statement)
    (bodyAdcOneShot s.params u (.num ch) (.num n) (.num smp) (destOr ds 0 .adcOneShotAvg)) 2 (s.setAdc u (s.adc u))
    (writeLocal s.top.loc .adcOneShotC ((s.adc u).read .cr)) := by
  have hchecked : s.Runs [Move.statement] (bodyAdcOneShot s.params u (.num ch) (.num n) (.num smp) (destOr ds 0 .adcOneShotAvg)) 1
      (s.setAdc u (s.adc u)) s.top.loc := by
    rw [State.setAdc_self]
    exact h.begins rfl rfl (by simp) (.check (Nat.succ_pos _) _ _ (Expr.eval_gtE_of_le (Expr.eval.eq_1 _ _) (by omega)))
  exact hchecked.adcRead (r := .cr) rfl h.1 (by simp)

theorem oneShot_faults (hrun : (s.adc u).adstart = true ∨ (s.adc u).jadstart = true) :
    s.CallFaults (List.replicate 3 Move.statement) s ⟨.adcOneshotRun, .num (if u = .one then 1 else 2)⟩ := by
  have hnum : AdcUnit.num u = if u = .one then 1 else 2 := by cases u <;> rfl
  have hfaults := (oneShot_begins h hch).check_faults rfl (Adc.eval_running (findLocal_same _ _ _)) hrun (Expr.eval.eq_1 _ _)
  rw [State.setAdc_self, hnum] at hfaults
  cases u <;> exact hfaults

/-- The unit reprogrammed, its words saved (42_adc.md R664). -/
theorem oneShot_setup (hidle : (s.adc u).Idle s.params.chMax) :
    ∃ env, s.Runs (List.replicate 16 Move.statement)
        (bodyAdcOneShot s.params u (.num ch) (.num n) (.num smp) (destOr ds 0 .adcOneShotAvg)) 16
        (s.setAdc u ((s.adc u).singleShot ch smp)) env ∧ OneShotSaved (s.adc u) env ∧ SameLocals oneShotLocals s.top.loc env := by
  have hp := h.1
  have hbegins := oneShot_begins h hch
  generalize s.adc u = a at hidle hbegins ⊢
  have hchecked := hbegins.passes rfl (Adc.eval_running (findLocal_same _ _ _)) (by simp [hidle.regular, hidle.injected])
  have hsaved := ((((hchecked.adcRead (r := .sqr1) rfl hp (by simp)).adcRead (r := .smpr1) rfl hp (by simp)).adcRead (r := .smpr2)
    rfl hp (by simp)).adcRead (r := .cfgr) rfl hp (by simp)).adcRead (r := .ier) rfl hp (by simp)
  have hset := hsaved.adcWrites hp (ws := oneShotWrites ch smp) rfl (eval_oneShotWrites _ ch smp)
    (Adc.write_oneShot (by simp [Adc.running, hidle.regular, hidle.injected]) (chMax_le hp) hch u smp)
  refine ⟨_, hset, ?_, ?_⟩
  · constructor <;> simp [findLocal_writeLocal]
  · intro y hy
    simp only [oneShotLocals, List.mem_append, List.mem_cons, not_or] at hy
    obtain ⟨⟨hc, hq, hm1, hm2, hg, he, -⟩, -⟩ := hy
    simp [findLocal_writeLocal, Ne.symm hc, Ne.symm hq, Ne.symm hm1, Ne.symm hm2, Ne.symm hg, Ne.symm he]

/-- The call of `ADC_ENABLE`, by its own run, and what follows it. -/
theorem oneShot_measures {ms' : List Move} {f : AdcFlags} (hidle : (s.adc u).Idle s.params.chMax) (hpos : 1 ≤ n) (hn : n < 2 ^ 32)
    (henable : ∀ t : State, t.adc u = (s.adc u).singleShot ch smp → t.AtCall (.adcEnable u) [] →
      t.Runs ms' (bodyAdcEnable t.params u) 4
        (t.setAdc u (Adc.singleShot { s.adc u with aden := true, en := .ready, isr := f } ch smp))
        (writeLocal t.top.loc .adcEnableC ((t.adc u).read .cr))) :
    s.Measures u (List.replicate 16 Move.statement ++ ms' ++ List.replicate 3 Move.statement ++ samplePasses u n ++
        List.replicate 7 Move.statement)
      (bodyAdcOneShot s.params u (.num ch) (.num n) (.num smp) (destOr ds 0 .adcOneShotAvg))
      { s.adc u with aden := true, en := .ready, isr := f } (destOr ds 0 .adcOneShotAvg) (16 + ms'.length + 3) n := by
  have hp := h.1
  obtain ⟨env, hset, hsaved, hsame⟩ := oneShot_setup h hch hidle
  generalize hb : ({ s.adc u with aden := true, en := .ready, isr := f } : Adc) = b at henable ⊢
  have hsaved' : OneShotSaved b env := hb ▸ ⟨hsaved.sqr1, hsaved.smpr1, hsaved.smpr2, hsaved.cfgr, hsaved.ier⟩
  have hidle' : b.Idle s.params.chMax := hb ▸ ⟨hidle.regular, hidle.injected, hidle.noInjected, hidle.power, hidle.ranks⟩
  have hcalled : ∃ env', s.Runs (List.replicate 16 Move.statement ++ ms')
      (bodyAdcOneShot s.params u (.num ch) (.num n) (.num smp) (destOr ds 0 .adcOneShotAvg)) 17
      (s.setAdc u (b.singleShot ch smp)) env' ∧ SameLocals [.adcEnableC] env env' := by
    refine hset.call (body' := bodyAdcEnable s.params u) rfl hp fun t ht _ hloc hat =>
      ⟨writeLocal env .adcEnableC ((t.adc u).read .cr), ?_, (SameLocals.refl _ _).write (by simp) _⟩
    have hruns := henable t (by rw [ht.adc, State.setAdc_adc]) hat
    rw [hloc, ht.same_params] at hruns
    exact hruns.of_sameUnits (by simpa using ht.setAdc u (b.singleShot ch smp))
  obtain ⟨env', hruns, hsame'⟩ := hcalled
  have hkept {x : LocalName} (hx : x ≠ .adcEnableC) : findLocal env' x = findLocal env x := hsame' x (by simpa using hx)
  have hmeasures := oneShot_finish hp hruns
    ⟨(hkept (by simp)).trans hsaved'.sqr1, (hkept (by simp)).trans hsaved'.smpr1, (hkept (by simp)).trans hsaved'.smpr2,
      (hkept (by simp)).trans hsaved'.cfgr, (hkept (by simp)).trans hsaved'.ier⟩
    (hsame.trans (hsame'.mono (by simp [oneShotLocals]))) (hb ▸ rfl) hidle' hpos hn
  rwa [List.length_append, List.length_replicate] at hmeasures

/-- The whole call on an enabled unit (42_adc.md R664). -/
theorem oneShot_enabled (hidle : (s.adc u).Idle s.params.chMax) (hpos : 1 ≤ n) (hn : n < 2 ^ 32) (haden : (s.adc u).aden = true)
    (hen : (s.adc u).en = .ready) :
    s.Measures u (List.replicate 21 Move.statement ++ samplePasses u n ++ List.replicate 7 Move.statement)
      (bodyAdcOneShot s.params u (.num ch) (.num n) (.num smp) (destOr ds 0 .adcOneShotAvg)) (s.adc u)
      (destOr ds 0 .adcOneShotAvg) 21 n := by
  have hsame : ({ s.adc u with aden := true, en := .ready, isr := (s.adc u).isr } : Adc) = s.adc u := by rw [← haden, ← hen]
  have hmeasures := oneShot_measures (ms' := List.replicate 2 Move.statement) (f := (s.adc u).isr) h hch hidle hpos hn
    fun t ht hat => by
      rw [hsame, ← ht, State.setAdc_self]
      exact adcEnable_enabled hat (ht ▸ haden)
  rwa [hsame] at hmeasures

/-- The whole call on a disabled unit that is READY (42_adc.md R664). -/
theorem oneShot_disabled (hidle : (s.adc u).Idle s.params.chMax) (hpos : 1 ≤ n) (hn : n < 2 ^ 32) (haden : (s.adc u).aden = false)
    (hcal : (s.adc u).adcal = false) (hreg : (s.adc u).vreg = .ready) :
    s.Measures u (List.replicate 19 Move.statement ++ [Move.enabled u] ++ List.replicate 4 Move.statement ++ samplePasses u n ++
        List.replicate 7 Move.statement)
      (bodyAdcOneShot s.params u (.num ch) (.num n) (.num smp) (destOr ds 0 .adcOneShotAvg))
      { s.adc u with aden := true, en := .ready, isr := { (s.adc u).isr with adrdy := true } } (destOr ds 0 .adcOneShotAvg) 24 n :=
  oneShot_measures (ms' := List.replicate 3 Move.statement ++ [Move.enabled u] ++ List.replicate 1 Move.statement) h hch hidle hpos hn
    fun t ht hat => by
      have hready := adcEnable_ready hat (ht ▸ haden) (ht ▸ hcal) (ht ▸ hreg) (ht ▸ hidle.power)
      rwa [ht] at hready ⊢

end

end
end Sys2Proof.Machine
end

section
/-! SUPPORT. `ADC_ONE_SHOT`, `ADC_GET_AVERAGE` and `ADC_VREF_CALIBRATE` as whole calls (42_adc.md R664, R665, R667). -/
namespace Sys2Proof.Machine

section
variable {s t : State} {u : AdcUnit} {ch n smp : Nat} {x : LocalName} {ms : List Move} {body : Prog} {b : Adc} {ds : List LocalName}

/-! ### The codes of a call inside a call -/

theorem State.code_of_later {m : Nat} (hno : t.stepNo = s.stepNo + m) (hparams : t.params = s.params) (u : AdcUnit) (k : Nat) :
    t.code u k = s.code u (m + k) := by
  rw [State.code, State.code, hno, hparams, Nat.add_assoc]

theorem State.codeSum_of_later {m : Nat} (hno : t.stepNo = s.stepNo + m) (hparams : t.params = s.params) (u : AdcUnit) (k n : Nat) :
    t.codeSum u k n = s.codeSum u (m + k) n := by
  simp only [State.codeSum, State.code_of_later hno hparams, Nat.add_assoc]

theorem State.codeSum_le (hp : s.params.wf = true) (u : AdcUnit) (k n : Nat) : s.codeSum u k n ≤ n * 65535 := by
  induction n with
  | zero => exact Nat.le_refl 0
  | succ n ih =>
    have hcode : s.code u (k + 8 * n + 2) < 2 ^ 16 := State.code_toNat hp u (k + 8 * n + 2) ▸ BitVec.isLt _
    rw [State.codeSum_succ]
    omega

/-! ### `ADC_ONE_SHOT` and `ADC_GET_AVERAGE` -/

/-- The measurement of a call inside the call is that of the call. -/
theorem State.Measures.of_later {m k : Nat} (h : t.Measures u ms body b x k n) (hno : t.stepNo = s.stepNo + m) (hunits : s.SameUnits t) :
    ∃ env, t.Runs ms body body.length (s.setAdc u (b.measured (s.code u (m + k + 8 * (n - 1) + 2)))) env ∧
      findLocal env x = some (BitVec.ofNat 32 (s.codeSum u (m + k) n % 2 ^ 32 / n)) ∧ SameLocals (x :: oneShotLocals) t.top.loc env := by
  obtain ⟨env, hruns, hmean, hsame⟩ := h
  rw [State.code_of_later hno hunits.same_params, ← Nat.add_assoc, ← Nat.add_assoc] at hruns
  rw [State.codeSum_of_later hno hunits.same_params] at hmean
  exact ⟨env, hruns.of_sameUnits (hunits.setAdc u _), hmean, hsame⟩

theorem State.Measures.ends {k : Nat} (h : s.Measures u ms body b x k n) :
    s.CallEnds ms (s.setAdc u (b.measured (s.code u (k + 8 * (n - 1) + 2))))
      [(x, BitVec.ofNat 32 (s.codeSum u k n % 2 ^ 32 / n))] := by
  obtain ⟨env, hruns, hmean, hsame⟩ := h
  refine hruns.ends (List.forall_mem_singleton.mpr hmean) fun i hi => hsame _ ?_
  have hx : LocalName.user i ≠ x := (hi _ (List.mem_singleton_self _)).symm
  simpa [oneShotLocals, passLocals] using hx

theorem State.inFirstCall_stepNo (s : State) (body : Prog) : (s.inFirstCall body).stepNo = s.stepNo + 0 := State.setTop_stepNo ..

theorem State.CallFaults.of_sameUnits {w v : State} {f : FaultRecord} (h : s.CallFaults ms w f) (hv : v.SameUnits w) :
    s.CallFaults ms v f := by
  obtain ⟨t, hrun, hf, hunits⟩ := h
  exact ⟨t, hrun, hf, hv.trans hunits⟩

/-- `ADC_GET_AVERAGE` is `ADC_ONE_SHOT` with 64 codes (42_adc.md R665). -/
theorem getAverage_measures {k : Nat} (h : s.AtCall (.adcGetAverage u (.num ch)) ds) (hch : ch ≤ s.params.chMax)
    (hm : (s.inFirstCall (bodyAdcGetAverage s.params u (.num ch) x)).Measures u (.statement :: ms)
      (bodyAdcOneShot s.params u (.num ch) (.num 64) (.num s.params.smpMax) x) b x k 64) (hx : x = destOr ds 0 .adcGetAverageAvg) :
    s.Measures u (.statement :: ms) (bodyAdcGetAverage s.params u (.num ch) x) b x k 64 := by
  subst hx
  obtain ⟨hat, hhost⟩ := h.inFirstCall (j := .adcOneShot u (.num ch) (.num 64) (.num s.params.smpMax))
    (ds' := [destOr ds 0 .adcGetAverageAvg]) (rest := [])
  obtain ⟨env, hruns, hmean, hsame⟩ := hm.of_later (State.inFirstCall_stepNo _ _) hhost.units
  rw [Nat.zero_add] at hruns hmean
  refine ⟨env, h.runs_first rfl rfl rfl rfl (by simp) (.check (Nat.succ_pos _) _ _ ?_) hruns, hmean, ?_⟩
  · exact Expr.eval_gtE_of_le (Expr.eval.eq_1 _ _) (Int.ofNat_le.mpr hch)
  · rwa [State.inFirstCall, State.top_setTop] at hsame

section
variable (h : s.AtCall (.adcGetAverage u (.num ch)) ds) (hch : ch ≤ s.params.chMax)
include h hch

theorem getAverage_faults (hrun : (s.adc u).adstart = true ∨ (s.adc u).jadstart = true) :
    s.CallFaults (List.replicate 3 Move.statement) s ⟨.adcOneshotRun, .num (if u = .one then 1 else 2)⟩ := by
  obtain ⟨hat, hhost⟩ := h.inFirstCall (j := .adcOneShot u (.num ch) (.num 64) (.num s.params.smpMax))
    (ds' := [destOr ds 0 .adcGetAverageAvg]) (rest := [])
  have hfaults := oneShot_faults (n := 64) hat hch (hhost.units.adc u ▸ hrun)
  exact (h.faults_first (ms := List.replicate 2 Move.statement) rfl rfl rfl rfl (by simp)
    (.check (Nat.succ_pos _) _ _ (Expr.eval_gtE_of_le (Expr.eval.eq_1 _ _) (Int.ofNat_le.mpr hch))) hfaults).of_sameUnits hhost.units

theorem getAverage_enabled (hidle : (s.adc u).Idle s.params.chMax) (haden : (s.adc u).aden = true) (hen : (s.adc u).en = .ready) :
    s.Measures u (List.replicate 21 Move.statement ++ samplePasses u 64 ++ List.replicate 7 Move.statement)
      (bodyAdcGetAverage s.params u (.num ch) (destOr ds 0 .adcGetAverageAvg)) (s.adc u) (destOr ds 0 .adcGetAverageAvg) 21 64 := by
  obtain ⟨hat, hhost⟩ := h.inFirstCall (j := .adcOneShot u (.num ch) (.num 64) (.num s.params.smpMax))
    (ds' := [destOr ds 0 .adcGetAverageAvg]) (rest := [])
  have hadc := hhost.units.adc u
  have hm := oneShot_enabled (n := 64) hat hch (hadc ▸ hidle) (by decide) (by decide) (hadc ▸ haden) (hadc ▸ hen)
  rw [hadc] at hm
  exact getAverage_measures (ms := List.replicate 20 Move.statement ++ samplePasses u 64 ++ List.replicate 7 Move.statement) h hch hm rfl

theorem getAverage_disabled (hidle : (s.adc u).Idle s.params.chMax) (haden : (s.adc u).aden = false) (hcal : (s.adc u).adcal = false)
    (hreg : (s.adc u).vreg = .ready) :
    s.Measures u (List.replicate 19 Move.statement ++ [Move.enabled u] ++ List.replicate 4 Move.statement ++ samplePasses u 64 ++
        List.replicate 7 Move.statement)
      (bodyAdcGetAverage s.params u (.num ch) (destOr ds 0 .adcGetAverageAvg))
      { s.adc u with aden := true, en := .ready, isr := { (s.adc u).isr with adrdy := true } } (destOr ds 0 .adcGetAverageAvg) 24 64 := by
  obtain ⟨hat, hhost⟩ := h.inFirstCall (j := .adcOneShot u (.num ch) (.num 64) (.num s.params.smpMax))
    (ds' := [destOr ds 0 .adcGetAverageAvg]) (rest := [])
  have hadc := hhost.units.adc u
  have hm := oneShot_disabled (n := 64) hat hch (hadc ▸ hidle) (by decide) (by decide) (hadc ▸ haden) (hadc ▸ hcal) (hadc ▸ hreg)
  rw [hadc] at hm
  exact getAverage_measures (ms := List.replicate 18 Move.statement ++ [Move.enabled u] ++ List.replicate 4 Move.statement ++
    samplePasses u 64 ++ List.replicate 7 Move.statement) h hch hm rfl

end

/-! ### `ADC_VREF_CALIBRATE` -/

/-- The statements of a reference voltage. -/
def State.refMoves (s : State) : Nat := if s.trimGood then 4 else 3

/-- The reference voltage in its local, after the first call of R667. -/
theorem vrefCalibrate_begins (h : s.AtCall .adcVrefCalibrate ds) :
    ∃ env, s.Runs (List.replicate s.refMoves Move.statement)
        (bodyAdcVrefCalibrate s.params (destOr ds 0 .adcVrefCalibrateVrefCal)) 1 s env ∧
      findLocal env .adcVrefCalibrateRef = some s.refVoltage ∧
      SameLocals [.adcReferenceVoltageC, .adcVrefCalibrateRef] s.top.loc env := by
  obtain ⟨hat, hhost⟩ := h.inFirstCall (j := .adcReferenceVoltage) (ds' := [.adcVrefCalibrateRef])
    (rest := (bodyAdcVrefCalibrate s.params (destOr ds 0 .adcVrefCalibrateVrefCal)).tail)
  obtain ⟨m, hm⟩ : ∃ m, s.refMoves = m + 1 := by
    rw [State.refMoves]
    split
    · exact ⟨3, rfl⟩
    · exact ⟨2, rfl⟩
  have hruns := adcReferenceVoltage_runs hat
  change (s.inFirstCall _).Runs (List.replicate s.refMoves Move.statement) _ _ _ _ at hruns
  rw [hm, List.replicate_succ] at hruns ⊢
  have hfirst := (h.runs_first rfl rfl rfl rfl (by simp) (.readTrim rfl h.1) hruns).of_sameUnits hhost.units
  refine ⟨_, hfirst, findLocal_same _ _ _, ?_⟩
  rw [State.inFirstCall, State.top_setTop]
  exact ((SameLocals.refl _ _).write (by simp) _).write (by simp [destOr]) _

/-- The mean of its 128 codes follows (42_adc.md R667). -/
theorem vrefCalibrate_measures (h : s.AtCall .adcVrefCalibrate ds) (hidle : (s.adc .one).Idle s.params.chMax)
    (haden : (s.adc .one).aden = true) (hen : (s.adc .one).en = .ready) :
    ∃ env, s.Runs (List.replicate s.refMoves Move.statement ++
          (List.replicate 21 Move.statement ++ samplePasses .one 128 ++ List.replicate 7 Move.statement))
        (bodyAdcVrefCalibrate s.params (destOr ds 0 .adcVrefCalibrateVrefCal)) 2
        (s.setAdc .one ((s.adc .one).measured (s.code .one (s.refMoves + 21 + 8 * (128 - 1) + 2)))) env ∧
      findLocal env .adcVrefCalibrateAvg = some (BitVec.ofNat 32 (s.codeSum .one (s.refMoves + 21) 128 / 128)) ∧
      findLocal env .adcVrefCalibrateRef = some s.refVoltage ∧
      SameLocals ([.adcReferenceVoltageC, .adcVrefCalibrateRef, .adcVrefCalibrateAvg] ++ oneShotLocals) s.top.loc env := by
  have hp := h.1
  obtain ⟨env, hruns, href, hsame⟩ := vrefCalibrate_begins h
  have hch : s.params.chVrefint ≤ s.params.chMax := by
    obtain ⟨-, -, -, -, -, -, -, hch, -⟩ := s.params.wf_iff.mp hp
    exact hch
  have hsmall : s.codeSum .one (s.refMoves + 21) 128 % 2 ^ 32 = s.codeSum .one (s.refMoves + 21) 128 := by
    have hle := State.codeSum_le hp .one (s.refMoves + 21) 128
    exact Nat.mod_eq_of_lt (by omega)
  obtain ⟨env', hmeasured, hmean, hsame'⟩ := hruns.call (body' := bodyAdcOneShot s.params .one (.num s.params.chVrefint) (.num 128)
    (.num s.params.smpMax) .adcVrefCalibrateAvg) (P := fun env' =>
      findLocal env' .adcVrefCalibrateAvg = some (BitVec.ofNat 32 (s.codeSum .one (s.refMoves + 21) 128 % 2 ^ 32 / 128)) ∧
        SameLocals (.adcVrefCalibrateAvg :: oneShotLocals) env env') rfl hp fun t ht hno hloc hat => by
    have hparams := ht.same_params
    have hadc := ht.adc .one
    have hm := oneShot_enabled (n := 128) hat (by rw [hparams]; exact hch) (by rw [hadc, hparams]; exact hidle)
      (by decide) (by decide) (by rw [hadc, haden]) (by rw [hadc, hen])
    rw [hadc, hparams] at hm
    have hlater := hm.of_later hno ht
    rw [hloc, List.length_replicate] at hlater
    exact hlater
  rw [hsmall] at hmean
  refine ⟨env', hmeasured, hmean, (hsame' _ (by simp [oneShotLocals, passLocals])).trans href, ?_⟩
  exact (hsame.mono (by simp)).trans (hsame'.mono (by simp))

/-- The mean of the 128 codes of R667. -/
def State.vrefMean (s : State) : Nat := s.codeSum .one (s.refMoves + 21) 128 / 128

/-- The check of R667 that the mean is not 0. -/
theorem eval_vrefZero {env : List (LocalName × Word)} {mean : Nat} (h : findLocal env .adcVrefCalibrateAvg = some (BitVec.ofNat 32 mean))
    (hmean : mean < 2 ^ 32) :
    Expr.eval env (.loc .adcVrefCalibrateAvg) = .ok mean ∧
      Expr.eval env (.bin .eq (.loc .adcVrefCalibrateAvg) (.num 0)) = .ok (Int.ofBool (decide (mean = 0))) := by
  have hvalue : Expr.eval env (.loc .adcVrefCalibrateAvg) = .ok mean := by
    rw [Expr.eval_loc h, BitVec.toNat_ofNat, Nat.mod_eq_of_lt hmean]
  refine ⟨hvalue, (Expr.eval_bin .eq hvalue (Expr.eval.eq_1 env 0)).trans ?_⟩
  simp [evalBin, Bool.beq_eq_decide_eq]

theorem State.vrefMean_lt (hp : s.params.wf = true) : s.vrefMean < 2 ^ 32 := by
  have hle := State.codeSum_le hp .one (s.refMoves + 21) 128
  rw [State.vrefMean]
  omega

section
variable (h : s.AtCall .adcVrefCalibrate ds) (hidle : (s.adc .one).Idle s.params.chMax) (haden : (s.adc .one).aden = true)
  (hen : (s.adc .one).en = .ready)
include h hidle haden hen

theorem vrefCalibrate_faults (hmean : s.vrefMean = 0) :
    s.CallFaults (List.replicate (s.refMoves + 21) Move.statement ++ samplePasses .one 128 ++ List.replicate 8 Move.statement)
      (s.setAdc .one ((s.adc .one).measured (s.code .one (s.refMoves + 21 + 8 * (128 - 1) + 2)))) ⟨.adcVrefZero, .num 0⟩ := by
  obtain ⟨env, hruns, havg, -, -⟩ := vrefCalibrate_measures h hidle haden hen
  have hfaults := hruns.check_faults rfl (eval_vrefZero havg (State.vrefMean_lt h.1)).2 hmean (Expr.eval.eq_1 env 0)
  rw [List.replicate_add]
  simp only [List.append_assoc] at hfaults ⊢
  exact hfaults

theorem vrefCalibrate_ends (hmean : s.vrefMean ≠ 0) :
    s.CallEnds (List.replicate (s.refMoves + 21) Move.statement ++ samplePasses .one 128 ++ List.replicate 9 Move.statement)
      (s.setAdc .one ((s.adc .one).measured (s.code .one (s.refMoves + 21 + 8 * (128 - 1) + 2))))
      [(destOr ds 0 .adcVrefCalibrateVrefCal, F32.div s.refVoltage (F32.div (F32.ofInt s.vrefMean) 0x457FF000#32))] := by
  obtain ⟨env, hruns, havg, href, hsame⟩ := vrefCalibrate_measures h hidle haden hen
  obtain ⟨hvalue, hcheck⟩ := eval_vrefZero havg (State.vrefMean_lt h.1)
  have hset := (hruns.passes rfl hcheck hmean).assign rfl (Expr.eval_f32 .fDiv (f := F32.div) (fun _ _ => rfl) (Expr.eval_loc href)
    (Expr.eval_f32 .fDiv (f := F32.div) (fun _ _ => rfl) (Expr.eval_f32OfInt hvalue) (Expr.eval.eq_1 env (0x457FF000#32).toNat)))
  rw [ofInt_toNat] at hset
  have hmoves := hset.of_moves (ms' := List.replicate (s.refMoves + 21) Move.statement ++ samplePasses .one 128 ++
    List.replicate 9 Move.statement) (by rw [List.replicate_add]; simp only [List.append_assoc]; rfl)
  refine hmoves.ends (List.forall_mem_singleton.mpr (findLocal_same _ _ _)) fun n hn => ?_
  rw [findLocal_other _ _ (hn _ (List.mem_singleton_self _))]
  exact hsame _ (by simp [oneShotLocals, passLocals])

end

end

/-- Settles O22: ONE_SHOT and GET_AVERAGE by the induction over their passes, the two voltages by the trim halfword and that mean, and the
reads of the injected flag and data. -/
theorem adcMeasureRuns : Obligations.AdcMeasureRuns := by
  unfold Obligations.AdcMeasureRuns
  intro s u ds a host passes code total used idle good ref
  have hidle (h : idle) : a.Idle s.params.chMax := by
    obtain ⟨hstart, hinject, hact, hpower, hranks⟩ := h
    exact ⟨hstart, hinject, hact, hpower, hranks⟩
  refine ⟨fun i ch n smp x hi h hch => ?_, adcReferenceVoltage_ends, fun h hu hid haden hen => ?_, adcReadInjectedFlag_ends,
    fun k => adcReadInjectedData_ends k⟩
  · rcases hi with ⟨rfl, rfl⟩ | ⟨rfl, rfl, rfl⟩
    · exact ⟨oneShot_faults h hch, fun hid hpos hn haden hen => (oneShot_enabled h hch (hidle hid) hpos hn haden hen).ends,
        fun hid hpos hn haden hcal hreg => (oneShot_disabled h hch (hidle hid) hpos hn haden hcal hreg).ends⟩
    · exact ⟨getAverage_faults h hch, fun hid _ _ haden hen => (getAverage_enabled h hch (hidle hid) haden hen).ends,
        fun hid _ _ haden hcal hreg => (getAverage_disabled h hch (hidle hid) haden hcal hreg).ends⟩
  · subst hu
    have hk : (if good then 25 else 24) = s.refMoves + 21 := by
      rw [State.refMoves]
      split <;> rfl
    rw [hk]
    exact ⟨vrefCalibrate_ends h (hidle hid) haden hen, vrefCalibrate_faults h (hidle hid) haden hen⟩

end Sys2Proof.Machine
end


section
/-! SUPPORT. The DMA channels and their router, register by register: what a read gives and which write is refused, and why each operation
of a step keeps an enabled channel well configured (43_dma.md R700 to R714, R730, R735, R740, R741). -/
namespace Sys2Proof.Machine

/-! ### Register values -/

theorem DmaChannel.read_ccr (d : DmaChannel) : d.read .ccr = 0#20 ++ d.cfg ++ BitVec.ofBool (d.en || d.stopping) := by
  refine .trans ?_ (Word.ofField_of_toNat (w := 20 + 11 + 1) (x := 0#20 ++ d.cfg ++ BitVec.ofBool (d.en || d.stopping)) rfl)
  have hbit : Word.ofBit 0 d.active = Word.ofField 0 (BitVec.ofBool (d.en || d.stopping)) := by
    rw [DmaChannel.active]
    cases d.en || d.stopping <;> rfl
  simp only [Word.ofField_append, Word.ofField_zero, DmaChannel.read, hbit]
  simp

theorem DmaChannel.read_cisr (d : DmaChannel) : d.read .cisr = 0#28 ++ BitVec.ofBool d.teif ++ BitVec.ofBool d.htif ++
    BitVec.ofBool d.tcif ++ BitVec.ofBool (d.tcif || d.htif || d.teif) := by
  simp only [DmaChannel.read, DmaChannel.gif]
  generalize d.tcif = tc, d.htif = ht, d.teif = te
  revert tc ht te
  decide

/-- Settles O20: each row is the read of its register, into the local. -/
theorem dmaReads : Obligations.DmaReads := by
  unfold Obligations.DmaReads
  intro s x lane c hk
  have row {v w : Word} (h : v = w) : Cpu.runRead s lane (.value v s) = .next (s.loaded x (Lane.take lane w)) :=
    h ▸ runRead_store s s x lane v hk
  exact ⟨row s.dma[c].read_ccr, row (setWidth_eq_zero_append 16 _), row rfl, row rfl, row s.dma[c].read_cisr, row rfl,
    row (setWidth_eq_zero_append 25 _)⟩

/-! ### Register writes -/

section
variable {d e : DmaChannel} {c : Fin 16} {v : Word}

theorem DmaChannel.active_iff : d.active = true ↔ d.en = true ∨ d.stopping = true := by simp [DmaChannel.active]

theorem DmaChannel.badConfig_iff : d.badConfig v = true ↔ v.extractLsb' 8 2 = 3#2 ∨ v.extractLsb' 10 2 = 3#2 ∨
    v.extractLsb' 8 2 ≠ v.extractLsb' 10 2 ∨ d.cndtr = 0 ∨ d.cpar.toNat % 2 ^ (v.extractLsb' 8 2).toNat ≠ 0 ∨
    d.cmar.toNat % 2 ^ (v.extractLsb' 10 2).toNat ≠ 0 := by
  simp [DmaChannel.badConfig, Word.field, or_assoc]

/-- An active channel keeps its configuration: only a write of the same one is accepted, where EN 0 asks for a stop (43_dma.md R701,
R710). -/
theorem DmaChannel.writeCcr_active (h : d.active = true) : d.writeCcr c v =
    if v.extractLsb' 1 11 = d.cfg then .ok { d with stopping := d.stopping || !v.getLsbD 0 }
    else .error ⟨.dmaReconfig, .num c.val⟩ := by
  rw [DmaChannel.writeCcr, if_pos h]
  by_cases hcfg : v.extractLsb' 1 11 = d.cfg
  · simp [Word.field, Word.bit, hcfg]
  · simp only [Word.field, hcfg, bne_iff_ne, ne_eq, not_false_eq_true, if_true, if_false]
    rfl

/-- An idle one is enabled with a good configuration, and stores any while it stays disabled (43_dma.md R710). -/
theorem DmaChannel.writeCcr_idle (h : d.active = false) : d.writeCcr c v =
    if v.getLsbD 0 = true then
      if d.badConfig v = true then .error ⟨.dmaBadConfig, .num c.val⟩
      else .ok { d with
        cfg := v.extractLsb' 1 11, en := true, stopping := false, init := d.cndtr, pptr := d.cpar, mptr := d.cmar }
    else .ok { d with cfg := v.extractLsb' 1 11 } := by
  rw [DmaChannel.writeCcr, h]
  rfl

/-- The count and the addresses of an active channel are locked (43_dma.md R711). -/
theorem DmaChannel.write_locked (h : d.active = true) {r : DmaReg} (hr : r ∈ [DmaReg.cndtr, .cpar, .cmar]) :
    d.write c r v = .error ⟨.dmaReconfig, .num c.val⟩ := by
  simp only [List.mem_cons, List.not_mem_nil, or_false] at hr
  rcases hr with rfl | rfl | rfl <;>
    simp only [DmaChannel.write, DmaChannel.writeCndtr, DmaChannel.writeCpar, DmaChannel.writeCmar, h, if_true] <;> rfl

theorem DmaChannel.writeCndtr_idle (h : d.active = false) : d.write c .cndtr v = .ok { d with cndtr := v.extractLsb' 0 16 } := by
  rw [DmaChannel.write, DmaChannel.writeCndtr, h]; rfl

theorem DmaChannel.writeCpar_idle (h : d.active = false) : d.write c .cpar v = .ok { d with cpar := v } := by
  rw [DmaChannel.write, DmaChannel.writeCpar, h]; rfl

theorem DmaChannel.writeCmar_idle (h : d.active = false) : d.write c .cmar v = .ok { d with cmar := v } := by
  rw [DmaChannel.write, DmaChannel.writeCmar, h]; rfl

theorem DmaChannel.writeCifcr_eq : d.writeCifcr v = { d with
    tcif := d.tcif && !v.getLsbD 0 && !v.getLsbD 1
    htif := d.htif && !v.getLsbD 0 && !v.getLsbD 2
    teif := d.teif && !v.getLsbD 0 && !v.getLsbD 3 } := by
  simp only [DmaChannel.writeCifcr, Word.bit, Bool.not_or, Bool.and_assoc]

end

section
variable {s : State} {c : Fin 16} {r : DmaReg} {v : Word}

/-- A register of a channel takes what the channel's rule gives. -/
theorem regWrite_dma_ok {d : DmaChannel} (h : s.dma[c].write c r v = .ok d) : s.regWrite (.dma c r) v = .ok (s.setDma c d) := by
  simp only [State.regWrite, State.dmaWrite, h]

theorem regWrite_dma_error {f : FaultRecord} (h : s.dma[c].write c r v = .error f) : s.regWrite (.dma c r) v = .error f := by
  simp only [State.regWrite, State.dmaWrite, h]

/-- The router checks the request ID before the channel (43_dma.md R741). -/
theorem writeRouter_eq : s.writeRouter c v =
    if 3 ≤ (v.extractLsb' 0 7).toNat then .error ⟨.dmamuxBadId, .num (v.extractLsb' 0 7).toNat⟩
    else if s.dma[c].active = true then .error ⟨.dmamuxReconfig, .num c.val⟩
    else .ok { s with dmamux := s.dmamux.set c (v.extractLsb' 0 7) } := rfl

/-- Putting a channel back changes nothing. -/
theorem State.setDma_self (s : State) (c : Fin 16) : s.setDma c s.dma[c] = s := by
  simp [State.setDma]

end

/-- Settles O30: each row is the rule of its register, by whether the channel is active. -/
theorem dmaWrites : Obligations.DmaWrites := by
  unfold Obligations.DmaWrites
  intro s c v d active put bad
  have hbad : d.badConfig v = true ↔ bad := DmaChannel.badConfig_iff
  have on (h : active) : d.active = true := DmaChannel.active_iff.mpr h
  have off (h : ¬active) : d.active = false := Bool.eq_false_iff.mpr (mt DmaChannel.active_iff.mp h)
  have takes {r : DmaReg} {e : DmaChannel} (h : d.write c r v = .ok e) :
      Cpu.runWrite s (s.dmaWrite c r v) = .next (put e) := by
    rw [show s.dmaWrite c r v = _ from regWrite_dma_ok h]; rfl
  have refuses {r : DmaReg} {f : FaultRecord} (h : d.write c r v = .error f) :
      Cpu.runWrite s (s.dmaWrite c r v) = .next (s.raise f) := by
    rw [show s.dmaWrite c r v = _ from regWrite_dma_error h]; rfl
  have hsame : Host.Outcome.next (put d) = (.next s.advance : Host.Outcome State Fault Refusal) :=
    congrArg (fun t : State => Host.Outcome.next t.advance) (s.setDma_self c)
  have routes : exec (.dmamuxCxcrWr c v) s = Cpu.runWrite s (s.writeRouter c v) := rfl
  refine ⟨fun h hcfg => refuses ?_, fun h hcfg hen => ?_, fun h hcfg hen => takes ?_, fun h hen hb => refuses ?_,
    fun h hen hb => takes ?_, fun h hen => takes ?_, fun h i hi => ?_, fun h => ⟨takes ?_, takes ?_, takes ?_⟩, ?_, takes (r := .cifcr) ?_,
    fun hid => ?_, fun hid h => ?_, fun hid h => ?_⟩
  · exact (DmaChannel.writeCcr_active (on h)).trans (if_neg hcfg)
  · have hkeep : d.write c .ccr v = .ok d := by
      rw [DmaChannel.write, DmaChannel.writeCcr_active (on h), if_pos hcfg, hen, Bool.not_true, Bool.or_false]
    exact (takes hkeep).trans hsame
  · rw [DmaChannel.write, DmaChannel.writeCcr_active (on h), if_pos hcfg, hen, Bool.not_false, Bool.or_true]
  · rw [DmaChannel.write, DmaChannel.writeCcr_idle (off h), if_pos hen, if_pos (hbad.mpr hb)]
  · rw [DmaChannel.write, DmaChannel.writeCcr_idle (off h), if_pos hen, if_neg (mt hbad.mp hb)]
  · rw [DmaChannel.write, DmaChannel.writeCcr_idle (off h), if_neg (by rw [hen]; exact Bool.false_ne_true)]
  · simp only [List.mem_cons, List.not_mem_nil, or_false] at hi
    rcases hi with rfl | rfl | rfl <;> exact refuses (DmaChannel.write_locked (on h) (by simp))
  · exact DmaChannel.writeCndtr_idle (off h)
  · exact DmaChannel.writeCpar_idle (off h)
  · exact DmaChannel.writeCmar_idle (off h)
  · exact (takes (r := .cisr) rfl).trans hsame
  · rw [DmaChannel.write, DmaChannel.writeCifcr_eq]
  · rw [routes, writeRouter_eq, if_pos hid, runWrite_error]
  · rw [routes, writeRouter_eq, if_neg (by omega), if_pos (on h), runWrite_error]
  · rw [routes, writeRouter_eq, if_neg (by omega), if_neg (Bool.eq_false_iff.mp (off h)), runWrite_ok]

/-! ### Enabled channels stay well configured -/

section
variable {d e : DmaChannel}

theorem DmaChannel.Ok.of_disabled (h : d.en = false) : d.Ok := by simp [DmaChannel.Ok, h]

/-- A field of a field. -/
theorem extractLsb_extractLsb (v : Word) (lo : Nat) {n lo' k : Nat} (h : lo' + k ≤ n) :
    (v.extractLsb' lo n).extractLsb' lo' k = v.extractLsb' (lo + lo') k := by
  apply BitVec.eq_of_getLsbD_eq
  intro i hi
  have hlt : lo' + i < n := by omega
  simp only [BitVec.getLsbD_extractLsb', hlt, decide_true, Bool.true_and, Nat.add_assoc]

/-- The sizes of a channel are those of the word its configuration was taken from (10_state.md R131). -/
theorem sizes_of_word (v : Word) : (v.extractLsb' 1 11).extractLsb' 7 2 = v.extractLsb' 8 2 ∧
    (v.extractLsb' 1 11).extractLsb' 9 2 = v.extractLsb' 10 2 :=
  ⟨extractLsb_extractLsb v 1 (by decide), extractLsb_extractLsb v 1 (by decide)⟩

/-- A pass starts with what the write of `CCR` has checked (43_dma.md R710). -/
theorem DmaChannel.Ok.of_started {v : Word} (h : d.badConfig v = false) : DmaChannel.Ok { d with
    cfg := v.extractLsb' 1 11, en := true, stopping := false, init := d.cndtr, pptr := d.cpar, mptr := d.cmar } := by
  obtain ⟨hp, hm⟩ := sizes_of_word v
  rw [← Bool.not_eq_true, DmaChannel.badConfig_iff] at h
  simp only [not_or, not_not] at h
  obtain ⟨hne, -, heq, hcount, hcpar, hcmar⟩ := h
  rw [← heq] at hcmar
  intro _
  simp only [DmaChannel.psize, DmaChannel.msize, hp, hm]
  exact ⟨heq, hne, hcount, BitVec.le_refl _, hcpar, hcmar, hcpar, hcmar⟩

/-- The invariant reads the enable, the configuration, the count and the addresses. -/
theorem DmaChannel.Ok.of_same (h : d.Ok) (hen : e.en = d.en) (hcfg : e.cfg = d.cfg) (hcount : e.cndtr = d.cndtr ∧ e.init = d.init)
    (hset : e.cpar = d.cpar ∧ e.cmar = d.cmar) (hptr : e.pptr = d.pptr ∧ e.mptr = d.mptr) : e.Ok := by
  simpa only [DmaChannel.Ok, DmaChannel.psize, DmaChannel.msize, hen, hcfg, hcount, hset, hptr] using h

/-- An accepted write: an enabled channel keeps all the invariant reads, and an idle one is enabled by the checked start alone. -/
theorem DmaChannel.Ok.write {c : Fin 16} {r : DmaReg} {v : Word} (h : d.Ok) (hw : d.write c r v = .ok e) : e.Ok := by
  cases hact : d.active
  case true =>
    cases r with
    | ccr =>
      rw [DmaChannel.write, DmaChannel.writeCcr_active hact] at hw
      split at hw <;> cases hw
      exact h.of_same rfl rfl ⟨rfl, rfl⟩ ⟨rfl, rfl⟩ ⟨rfl, rfl⟩
    | cisr => cases hw; exact h
    | cifcr => cases hw; exact h.of_same rfl rfl ⟨rfl, rfl⟩ ⟨rfl, rfl⟩ ⟨rfl, rfl⟩
    | _ => rw [DmaChannel.write_locked hact (by simp)] at hw; cases hw
  case false =>
    have hen : d.en = false := by
      rw [DmaChannel.active, Bool.or_eq_false_iff] at hact
      exact hact.1
    cases r with
    | ccr =>
      rw [DmaChannel.write, DmaChannel.writeCcr_idle hact] at hw
      split at hw
      · split at hw <;> cases hw
        rename_i hbad
        exact .of_started (Bool.eq_false_iff.mpr hbad)
      · cases hw; exact .of_disabled hen
    | cndtr => rw [DmaChannel.writeCndtr_idle hact] at hw; cases hw; exact .of_disabled hen
    | cpar => rw [DmaChannel.writeCpar_idle hact] at hw; cases hw; exact .of_disabled hen
    | cmar => rw [DmaChannel.writeCmar_idle hact] at hw; cases hw; exact .of_disabled hen
    | cisr => cases hw; exact h
    | cifcr => cases hw; exact .of_disabled hen

/-- The element of a size other than the reserved one (30_encoding.md R325). -/
theorem elementSize_bytes {code : BitVec 2} (h : code ≠ 3) : (elementSize code).bytes = 2 ^ code.toNat := by
  revert code
  decide

/-- An aligned address stays aligned when it steps by its size, also past the end of the address space (log entry 32). -/
theorem aligned_step {a : Word} {k : Nat} (hk : k ≤ 32) (h : a.toNat % 2 ^ k = 0) : (a + BitVec.ofNat 32 (2 ^ k)).toNat % 2 ^ k = 0 := by
  have hdvd : 2 ^ k ∣ 2 ^ 32 := Nat.pow_dvd_pow 2 hk
  rw [BitVec.toNat_add, BitVec.toNat_ofNat, Nat.add_mod_mod, Nat.mod_mod_of_dvd _ hdvd, Nat.add_mod_right, h]

/-- The end of a beat: the count stays within the pass or is that of a new one, the addresses step by the element's size or are reloaded
(43_dma.md R730). -/
theorem DmaChannel.Ok.completeBeat (h : d.Ok) (hen : d.en = true) :
    (d.completeBeat (elementSize d.psize).bytes d.pptr d.mptr).Ok := by
  obtain ⟨hsizes, hne, hcount, hpass, hcpar, hcmar, hpptr, hmptr⟩ := h hen
  have step {a : Word} (inc : Bool) (ha : a.toNat % 2 ^ d.psize.toNat = 0) :
      (if inc then a + BitVec.ofNat 32 (2 ^ d.psize.toNat) else a).toNat % 2 ^ d.psize.toNat = 0 := by
    cases inc with
    | false => exact ha
    | true => exact aligned_step (by omega) ha
  rw [elementSize_bytes hne]
  simp only [DmaChannel.completeBeat]
  split
  · split
    · refine fun _ => ⟨hsizes, hne, fun h0 => ?_, BitVec.le_refl _, hcpar, hcmar, hcpar, hcmar⟩
      have hinit : d.init = 0 := h0
      bv_omega
    · exact .of_disabled rfl
  · rename_i hleft
    exact fun _ => ⟨hsizes, hne, hleft, by bv_omega, hcpar, hcmar, step d.pinc hpptr, step d.minc hmptr⟩

end

namespace State.DmaOk
variable {s t : State}

theorem setDma (h : s.DmaOk) {c : Fin 16} {d : DmaChannel} (hd : d.Ok) : (s.setDma c d).DmaOk := by
  intro e
  rw [State.setDma_get]
  split
  · exact hd
  · exact h e

theorem of_same (h : s.DmaOk) (hdma : t.dma = s.dma) : t.DmaOk := by
  simpa only [State.DmaOk, hdma] using h

theorem regWrite {r : Reg} {v : Word} (h : s.DmaOk) (ht : s.regWrite r v = .ok t) : t.DmaOk := by
  rcases regWrite_ok s t r v ht with ⟨_, _, _, _, rfl⟩ | ⟨_, _, _, rfl⟩ | ⟨_, _, _, _, _, _, rfl⟩ | ⟨c, _, _, _, hd, rfl⟩ |
    ⟨_, _, _, _, rfl⟩ | ⟨_, _, _, _, rfl⟩ | ⟨_, _, _, _, rfl⟩ | ⟨q, _, hq⟩
  case inr.inr.inr.inl => exact h.setDma ((h c).write hd)
  case inr.inr.inr.inr.inr.inr.inr =>
    rcases intcWrite_ok s t q v hq with rfl | ⟨_, rfl⟩ | ⟨_, _, rfl⟩ | ⟨_, _, rfl⟩ <;> exact h
  all_goals exact h

/-- Of the agents other than the beat only the stop acknowledgement touches a channel, and it disables it (43_dma.md R712). -/
theorem agentStep {m : Move} (h : s.DmaOk) (hm : m ≠ .beat) (ht : s.agentStep m = some t) : t.DmaOk := by
  rcases agentStep_some s t m hm ht with ⟨_, _, _, rfl⟩ | ⟨_, rfl⟩ | ⟨_, _, _, rfl⟩ | ⟨_, _, _, rfl⟩ | ⟨_, _, _, rfl⟩ |
    ⟨_, _, _, rfl⟩ | ⟨_, _, _, _, rfl⟩ | ⟨_, _, rfl⟩ | ⟨_, _, _, rfl⟩ | ⟨_, _, _, rfl⟩
  case inr.inr.inr.inr.inr.inr.inr.inr.inl => exact h.setDma (.of_disabled rfl)
  all_goals exact h

end State.DmaOk

/-- Every operation a step is made of keeps the enabled channels well configured. -/
theorem dmaOk_stepKeeps : StepKeeps State.DmaOk where
  top _ _ _ _ h := h
  ret s t ht h := by
    obtain ⟨_, _, _, rfl, _⟩ := leaveHandler_ok s t ht
    exact h
  data _ _ h := h
  halt _ _ h := h
  raise _ _ h := h
  sched _ h := h
  read s r v t ht h := h.of_same (regRead_dma s t r v ht)
  write _ _ _ _ ht h := h.regWrite ht
  mem _ _ _ _ _ _ h := h
  agent _ _ _ hm ht h := h.agentStep hm ht
  error _ _ h := h.setDma (.of_disabled rfl)
  beat _ c hen h := h.setDma ((h c).completeBeat hen)

/-- Settles O57: a channel is enabled by the checked write of `CCR` alone, each beat keeps the count and the alignment, and whatever else
touches an enabled channel keeps what the invariant reads or disables it. -/
theorem dmaInvariant : Obligations.DmaInvariant := dmaOk_stepKeeps.step

end Sys2Proof.Machine
end

section
/-! SUPPORT. The DMA operations: what their calls do in one step, and what they leave as a whole (43_dma.md R750 to R756). A call reaches
its channel's registers by addresses computed from the channel (40_bus.md R424). -/
namespace Sys2Proof.Machine

/-! ### The calls -/

section
variable {s : State} {c : Expr} {v : Int} {i : Instr} {next : Stmt} {rest : Prog}

/-- The first statement of each DMA operation checks the channel (43_dma.md section 4). -/
theorem dmaCall_checked (hv : s.eval c = .ok v) (ho : i.isOperation = true)
    (hi : expansion s.params i s.callDests = channelCheck s.params c :: next :: rest) :
    (v ≤ (s.params.nDma : Int) - 1 → exec i s = .next (s.entered (expansion s.params i s.callDests) 1)) ∧
    ((s.params.nDma : Int) - 1 < v → exec i s = .next (s.raise ⟨.dmaBadChannel, .num v⟩)) := by
  have hcheck : s.eval (gtE c (s.params.nDma - 1)) = .ok (Int.ofBool (decide ((s.params.nDma : Int) - 1 < v))) := Expr.eval_gtE hv _
  rw [hi]
  exact ⟨fun h => exec_of_done ho (hi ▸ (runCall_checked hcheck).1 (not_lt.mpr h)),
    fun h => exec_of_fault ho (hi ▸ (runCall_checked hcheck).2 h hv)⟩

end

/-- Settles O38: each call's first statement is the check of its channel. -/
theorem dmaOperationCalls : Obligations.DmaOperationCalls := by
  unfold Obligations.DmaOperationCalls
  intro s c a b v hv
  refine ⟨fun h => ⟨(dmaCall_checked hv rfl rfl).1 h, (dmaCall_checked hv rfl rfl).1 h, (dmaCall_checked hv rfl rfl).1 h,
    (dmaCall_checked hv rfl rfl).1 h, (dmaCall_checked hv rfl rfl).1 h, (dmaCall_checked hv rfl rfl).1 h,
    (dmaCall_checked hv rfl rfl).1 h⟩, fun h i hi => ?_⟩
  simp only [List.mem_cons, List.not_mem_nil, or_false] at hi
  rcases hi with rfl | rfl | rfl | rfl | rfl | rfl | rfl <;> exact (dmaCall_checked hv rfl rfl).2 h

/-! ### Registers at computed addresses -/

section
variable {s u u' : State} {ms : List Move} {body : Prog} {k : Nat} {env : List (LocalName × Word)} {a e : Expr} {r : Reg} {v : Int}

theorem State.HostAt.evalWord_address {t : State} (h : s.HostAt u (s.inCall body env k) t)
    (ha : Expr.eval env a = .ok (r.address u.params : Nat)) : t.evalWord a = .ok (r.addr u.params) := by
  rw [State.evalWord_ok (h.eval ha), BitVec.ofInt_natCast]
  rfl

section
variable (ha : Expr.eval env a = .ok (r.address u.params : Nat)) (hp : u.params.wf = true) (hr : r.present u.params = true)
include ha hp hr

/-- A write that its register accepts. -/
theorem State.Does.writeAt (hk : k < body.length) (he : Expr.eval env e = .ok v)
    (hw : ∀ t, u.SameUnits t → ∃ w, t.regWrite r (BitVec.ofInt 32 v) = .ok w ∧ u'.SameUnits w) :
    s.Does body k (.wr .b4 a e) u env u' env := by
  intro t h
  obtain ⟨w, hw, hu⟩ := hw t h.units
  refine ⟨w.advance, runStmt_wr t w _ _ _ _ _ (h.evalWord_address ha) (t.evalWord_ok (h.eval he)) ?_,
    State.inCall_next (env := env) hk ▸ h.advance (regWrite_host t w r _ hw) hu⟩
  simp only [State.hostWrite, h.units.same_params, locate_word u.params hp r hr, Size.trunc, hw]

/-- A write that its register refuses. -/
theorem State.HostAt.wrAt_faults {t : State} {f : FaultRecord} (h : s.HostAt u (s.inCall body env k) t) (he : Expr.eval env e = .ok v)
    (hw : t.regWrite r (BitVec.ofInt 32 v) = .error f) : Cpu.runStmt t (.wr .b4 a e) = .fault f := by
  simp only [Cpu.runStmt, Cpu.runWr, State.wrTransaction, h.evalWord_address ha, State.evalWord_ok (h.eval he), Cpu.transact,
    State.hostWrite, h.units.same_params, locate_word u.params hp r hr, Size.trunc, hw, Cpu.finishWrite]

/-- A poll whose value matches at once (40_bus.md R422). -/
theorem State.Runs.pollAt {m w : Int} {x : Word} (h : s.Runs ms body k u env) (hk : body[k]? = some (.poll a (.num m) (.num w)))
    (hv : ∀ t, u.SameUnits t → t.regRead r = .value x t) (hmatch : x &&& BitVec.ofInt 32 m = BitVec.ofInt 32 w) :
    s.Runs (ms ++ [Move.statement]) body (k + 1) u env := by
  have hlt := (List.getElem?_eq_some_iff.mp hk).1
  refine h.goes hk (by simp) fun t ht => ⟨{ t with busData := x }.advance, ?_, ?_⟩
  · have hsink := sink_poll (by rw [ht.top]; exact State.inCall_current hk) (ht.evalWord_address ha) (t.evalWord_ok (v := m) rfl)
      (t.evalWord_ok (v := w) rfl)
    simp only [Cpu.runStmt, Cpu.runRd, ht.evalWord_address ha, Cpu.transact, State.hostRead, ht.units.same_params,
      locate_word u.params hp r hr, hv t ht.units, Cpu.finishRead, hsink, Lane.take, absorb_poll_match hmatch]
  · have hadv : ({ t with busData := x } : State).advance = ({ t with busData := x } : State).setTop (s.inCall body env (k + 1)) := by
      rw [State.advance, ← State.inCall_next hlt]
      exact congrArg (fun b : Activity => ({ t with busData := x } : State).setTop b.next) ht.top
    exact hadv ▸ ht.moved (.refl t) ht.units x (s.inCall body env (k + 1))

end
end

/-! ### A channel inside a call -/

/-- The address of a channel's register (10_state.md R130). -/
theorem Expr.eval_dmaE (env : List (LocalName × Word)) (p : Params) (c : Fin 16) (r : DmaReg) :
    Expr.eval env (dmaE p (.num c.val) r) = .ok ((Reg.dma c r).address p : Nat) := by
  rw [dmaE, Expr.eval_bin .add (Expr.eval.eq_1 _ _) (Expr.eval_bin .mul (Expr.eval.eq_1 _ 0x20) (Expr.eval.eq_1 _ _))]
  simp only [evalBin, Reg.address, Reg.window, Window.base, Reg.offset]
  congr 1
  push_cast
  ring

/-- The address of a channel's router register (10_state.md R134). -/
theorem Expr.eval_routerE (env : List (LocalName × Word)) (p : Params) (c : Fin 16) :
    Expr.eval env (routerE p (.num c.val)) = .ok ((Reg.dmamux c).address p : Nat) := by
  rw [routerE, Expr.eval_bin .add (Expr.eval.eq_1 _ _) (Expr.eval_bin .mul (Expr.eval.eq_1 _ 4) (Expr.eval.eq_1 _ _))]
  simp only [evalBin, Reg.address, Reg.window, Window.base, Reg.offset]
  rfl

section
variable {s t : State}

theorem State.SameUnits.dma (h : s.SameUnits t) : t.dma = s.dma := by
  obtain ⟨-, -, -, -, dma, -⟩ := h
  exact dma

theorem State.SameUnits.setDma (h : s.SameUnits t) (c : Fin 16) (d : DmaChannel) : (s.setDma c d).SameUnits (t.setDma c d) := by
  obtain ⟨pwm, adc1, adc2, paired, dma, rest⟩ := h
  exact ⟨pwm, adc1, adc2, paired, by rw [State.setDma_dma, State.setDma_dma, dma], rest⟩

theorem State.SameUnits.setMux (h : s.SameUnits t) (m : Vector (BitVec 7) 16) :
    ({ s with dmamux := m } : State).SameUnits { t with dmamux := m } := by
  obtain ⟨pwm, adc1, adc2, paired, dma, -, rest⟩ := h
  exact ⟨pwm, adc1, adc2, paired, dma, rfl, rest⟩

theorem State.setDma_same (s : State) (c : Fin 16) (d : DmaChannel) : (s.setDma c d).dma[c] = d := by
  rw [State.setDma_get, if_pos rfl]

theorem State.setDma_setDma (s : State) (c : Fin 16) (d e : DmaChannel) : (s.setDma c d).setDma c e = s.setDma c e := by
  simp [State.setDma]

end

section
variable {s : State} {c : Fin 16} {d e : DmaChannel} {r : DmaReg} {ms : List Move} {body : Prog} {k : Nat}
  {env : List (LocalName × Word)} {x : Expr} {v : Int}

/-- The check of the channel, which is one step with the call. -/
theorem State.AtCall.dmaBegins {i : Instr} {ds : List LocalName} {next : Stmt} {rest : Prog} (h : s.AtCall i ds)
    (ho : i.isOperation = true) (hi : expansion s.params i ds = channelCheck s.params (.num c.val) :: next :: rest)
    (hc : c.val < s.params.nDma) :
    s.Runs [.statement] (channelCheck s.params (.num c.val) :: next :: rest) 1 (s.setDma c s.dma[c]) s.top.loc := by
  rw [State.setDma_self]
  exact h.begins ho hi nofun (.check (Nat.succ_pos _) _ _ (Expr.eval_gtE_of_le (Expr.eval.eq_1 _ _) (by omega)))

section
variable (h : s.Runs ms body k (s.setDma c d) env) (hp : s.params.wf = true) (hc : c.val < s.params.nDma)
include h hp hc

theorem State.Runs.dmaWrite (hk : body[k]? = some (.wr .b4 (dmaE s.params (.num c.val) r) x)) (he : Expr.eval env x = .ok v)
    (hw : d.write c r (BitVec.ofInt 32 v) = .ok e) : s.Runs (ms ++ [Move.statement]) body (k + 1) (s.setDma c e) env := by
  refine h.stmt hk nofun (.writeAt (r := .dma c r) (Expr.eval_dmaE _ _ _ _) hp (decide_eq_true hc)
    (List.getElem?_eq_some_iff.mp hk).1 he fun t ht => ⟨t.setDma c e, regWrite_dma_ok ?_, ?_⟩)
  · rw [ht.dma, State.setDma_same, hw]
  · rw [← s.setDma_setDma c d e]
    exact ht.setDma c e

theorem State.Runs.dmaWrite_faults {f : FaultRecord} (hk : body[k]? = some (.wr .b4 (dmaE s.params (.num c.val) r) x))
    (he : Expr.eval env x = .ok v) (hw : d.write c r (BitVec.ofInt 32 v) = .error f) :
    s.CallFaults (ms ++ [Move.statement]) (s.setDma c d) f := by
  refine h.faults hk nofun fun t ht => ht.wrAt_faults (u := s.setDma c d) (r := .dma c r) (Expr.eval_dmaE _ _ _ _) hp (decide_eq_true hc) he
    (regWrite_dma_error ?_)
  rw [ht.units.dma, State.setDma_same, hw]

theorem State.Runs.dmaRead {y : LocalName} (hk : body[k]? = some (.rd y .b4 (dmaE s.params (.num c.val) r))) :
    s.Runs (ms ++ [Move.statement]) body (k + 1) (s.setDma c d) (writeLocal env y (d.read r)) := by
  refine h.stmt hk nofun (.readAt (r := .dma c r) hk (Expr.eval_dmaE _ _ _ _) hp (decide_eq_true hc) fun t ht => ?_)
  rw [State.regRead, ht.dma, State.setDma_same]

theorem State.Runs.dmaPoll {m w : Int} (hk : body[k]? = some (.poll (dmaE s.params (.num c.val) r) (.num m) (.num w)))
    (hmatch : d.read r &&& BitVec.ofInt 32 m = BitVec.ofInt 32 w) :
    s.Runs (ms ++ [Move.statement]) body (k + 1) (s.setDma c d) env := by
  refine h.pollAt (r := .dma c r) (Expr.eval_dmaE _ _ _ _) hp (decide_eq_true hc) hk (fun t ht => ?_) hmatch
  rw [State.regRead, ht.dma, State.setDma_same]

end

/-- The stop is acknowledged between two statements (43_dma.md R712). -/
theorem State.Runs.stopAck (h : s.Runs ms body k (s.setDma c d) env) (hd : d.stopping = true) :
    s.Runs (ms ++ [Move.stopAck c]) body k (s.setDma c { d with en := false, stopping := false }) env := by
  refine h.agent nofun fun t ht _ => ⟨t.setDma c { d with en := false, stopping := false }, ?_,
    ⟨rfl, rfl, rfl, rfl, rfl, rfl, rfl, rfl, rfl, rfl, rfl⟩, ?_⟩
  · rw [State.agentStep, State.stopAckStep, ht.dma, State.setDma_same, DmaChannel.stopAck, if_pos hd]
  · rw [← s.setDma_setDma c d]
    exact ht.setDma c _

end

/-! ### The words that the operations write to `CCR` -/

/-- A word of `CCR` with the enable b. -/
def ccrWord (cfg : BitVec 11) (b : Bool) : Word := 0#20 ++ cfg ++ BitVec.ofBool b

section
variable (cfg : BitVec 11) (b : Bool)

theorem extractLsb_ccrWord : (ccrWord cfg b).extractLsb' 1 11 = cfg := by
  refine extractLsb_of_bits fun i hi => ?_
  simp only [ccrWord, BitVec.getLsbD_append]
  grind

theorem getLsbD_ccrWord : (ccrWord cfg b).getLsbD 0 = b := by
  simp only [ccrWord, BitVec.getLsbD_append, BitVec.getLsbD_ofBool]
  rfl

theorem sizes_ccrWord : (ccrWord cfg b).extractLsb' 8 2 = cfg.extractLsb' 7 2 ∧ (ccrWord cfg b).extractLsb' 10 2 = cfg.extractLsb' 9 2 := by
  obtain ⟨hp, hm⟩ := sizes_of_word (ccrWord cfg b)
  rw [extractLsb_ccrWord] at hp hm
  exact ⟨hp.symm, hm.symm⟩

theorem ccrWord_or_one : ccrWord cfg b ||| 1#32 = ccrWord cfg true := by
  rw [ccrWord, show 1#32 = (0#31 ++ 1#1 : Word) from rfl, BitVec.or_append, BitVec.or_zero]
  cases b <;> rfl

theorem ccrWord_and_enable : ccrWord cfg b &&& 1#32 = if b = true then 1#32 else 0 := by
  rw [Word.and_bit (i := 0) (by rfl), Word.bit, getLsbD_ccrWord]

theorem ccrWord_clear : ccrWord cfg b ^^^ (ccrWord cfg b &&& 1#32) = ccrWord cfg false := by
  rw [ccrWord, show 1#32 = (0#31 ++ 1#1 : Word) from rfl, BitVec.and_append, BitVec.xor_append, BitVec.and_zero, BitVec.xor_zero]
  cases b <;> rfl

end

/-- A local with bit 0 cleared, as DMA_STOP writes it (log entry 33). -/
theorem Expr.eval_clearBit0 {env : List (LocalName × Word)} {x : LocalName} {w : Word} (hx : findLocal env x = some w) :
    Expr.eval env (andE (.loc x) (.un .bitNot (.num 0x1))) = .ok (w ^^^ (w &&& 1#32)).toNat := by
  rw [andE, Expr.eval_bin .bitAnd (Expr.eval_loc hx) (y := -2) rfl, BitVec.toNat_xor, BitVec.toNat_and]
  rfl

end Sys2Proof.Machine
end

section
/-! SUPPORT. The seven DMA operations as whole calls (43_dma.md R750 to R756). -/
namespace Sys2Proof.Machine

section
variable {s : State} {c : Fin 16} {ds : List LocalName}

/-! ### `DMAMUX_MAP` and `DMA_BIND` -/

section
variable {rid : Nat} (h : s.AtCall (.dmamuxMap (.num c.val) (.num rid)) ds) (hc : c.val < s.params.nDma)
include h hc

theorem dmamuxMap_begins : s.Runs [.statement] (bodyDmamuxMap s.params (.num c.val) (.num rid)) 1 s s.top.loc := by
  have hbegins := h.dmaBegins rfl rfl hc
  rwa [State.setDma_self] at hbegins

theorem dmamuxMap_ends (hid : (BitVec.ofNat 7 rid).toNat < 3) (hidle : s.dma[c].active = false) :
    s.CallEnds (List.replicate 2 Move.statement) { s with dmamux := s.dmamux.set c (BitVec.ofNat 7 rid) } [] := by
  have hwritten := (dmamuxMap_begins h hc).stmt rfl nofun (.writeAt (r := .dmamux c) (v := rid)
    (u' := { s with dmamux := s.dmamux.set c (BitVec.ofNat 7 rid) }) (Expr.eval_routerE _ _ _) h.1 (decide_eq_true hc)
    (Nat.succ_lt_succ (Nat.succ_pos _)) (Expr.eval.eq_1 _ _) fun t ht =>
      ⟨{ t with dmamux := s.dmamux.set c (BitVec.ofNat 7 rid) }, ?_, ht.setMux _⟩)
  · exact hwritten.ends (List.forall_mem_nil _) fun _ _ => rfl
  · obtain ⟨-, -, -, -, dma, mux, -⟩ := ht
    rw [State.regWrite, writeRouter_eq, BitVec.ofInt_natCast, extractLsb_ofNat (by decide), if_neg (by omega), dma,
      if_neg (Bool.eq_false_iff.mp hidle), mux]

theorem dmamuxMap_faults {f : FaultRecord} (hf : ∀ t, s.SameUnits t → t.writeRouter c (BitVec.ofNat 32 rid) = .error f) :
    s.CallFaults (List.replicate 2 Move.statement) s f :=
  (dmamuxMap_begins h hc).faults rfl nofun fun t ht => ht.wrAt_faults (r := .dmamux c) (v := rid) (Expr.eval_routerE _ _ _) h.1
    (decide_eq_true hc) (Expr.eval.eq_1 _ _) ((congrArg (t.writeRouter c) (BitVec.ofInt_natCast ..)).trans (hf t ht.units))

theorem dmamuxMap_badId (hid : 3 ≤ (BitVec.ofNat 7 rid).toNat) :
    s.CallFaults (List.replicate 2 Move.statement) s ⟨.dmamuxBadId, .num (BitVec.ofNat 7 rid).toNat⟩ :=
  dmamuxMap_faults h hc fun t _ => by rw [writeRouter_eq, extractLsb_ofNat (by decide), if_pos hid]

theorem dmamuxMap_active (hid : (BitVec.ofNat 7 rid).toNat < 3) (hact : s.dma[c].active = true) :
    s.CallFaults (List.replicate 2 Move.statement) s ⟨.dmamuxReconfig, .num c.val⟩ :=
  dmamuxMap_faults h hc fun t ht => by
    rw [writeRouter_eq, extractLsb_ofNat (by decide), if_neg (by omega), ht.dma, if_pos hact]

end

section
variable {pa : Nat} (h : s.AtCall (.dmaBind (.num c.val) (.num pa)) ds) (hc : c.val < s.params.nDma)
include h hc

theorem dmaBind_faults (hact : s.dma[c].active = true) :
    s.CallFaults (List.replicate 2 Move.statement) s ⟨.dmaReconfig, .num c.val⟩ := by
  have hfaults := (h.dmaBegins rfl rfl hc).dmaWrite_faults h.1 hc rfl (Expr.eval.eq_1 _ _)
    (DmaChannel.write_locked hact (r := .cpar) (by simp))
  rwa [State.setDma_self] at hfaults

theorem dmaBind_ends (hidle : s.dma[c].active = false) : s.CallEnds (List.replicate 3 Move.statement)
    (s.setDma c { s.dma[c] with cpar := BitVec.ofNat 32 pa, cfg := 0x2D1 }) [] := by
  have hcpar := (h.dmaBegins rfl rfl hc).dmaWrite h.1 hc rfl (Expr.eval.eq_1 _ _) (DmaChannel.writeCpar_idle hidle)
  have hccr := hcpar.dmaWrite h.1 hc rfl (Expr.eval.eq_1 _ _) (r := .ccr) (DmaChannel.writeCcr_idle hidle)
  rw [BitVec.ofInt_natCast] at hccr
  exact hccr.ends (List.forall_mem_nil _) fun _ _ => rfl

end

/-! ### `DMA_TC`, `DMA_CLEAR_TC` and `DMA_CLEAR_ALL` -/

theorem DmaChannel.bit_tcif (d : DmaChannel) : Word.bit (d.read .cisr) 1 = d.tcif := by
  simp only [Word.bit, DmaChannel.read_cisr, BitVec.getLsbD_append, BitVec.getLsbD_ofBool]
  simp

theorem dmaTc_ends (h : s.AtCall (.dmaTc (.num c.val)) ds) (hc : c.val < s.params.nDma) :
    s.CallEnds (List.replicate 3 Move.statement) s [(destOr ds 0 .dmaTcFlag, if s.dma[c].tcif then 1 else 0)] := by
  have hread := (h.dmaBegins rfl rfl hc).dmaRead h.1 hc rfl
  have hshift : Expr.eval (writeLocal s.top.loc .dmaTcF (s.dma[c].read .cisr)) (shrE (.loc .dmaTcF) (.num 1)) =
      .ok (s.dma[c].read .cisr >>> 1).toNat := by
    rw [shrE, Expr.eval_bin .shr (Expr.eval_written _ _ _) (Expr.eval.eq_1 _ 1)]
    simp [evalBin, intShr, Nat.shiftRight_eq_div_pow]
  have hset := hread.assign rfl (Expr.eval_andE hshift (Expr.eval.eq_1 _ ((1#32).toNat : Nat)))
  have hbit : Word.bit (s.dma[c].read .cisr >>> 1) 0 = s.dma[c].tcif := (BitVec.getLsbD_ushiftRight ..).trans s.dma[c].bit_tcif
  rw [← BitVec.toNat_and, ofInt_toNat, Word.and_bit (i := 0) (by rfl), hbit, State.setDma_self] at hset
  refine hset.ends (List.forall_mem_singleton.mpr (findLocal_same _ _ _)) fun n hn => ?_
  rw [findLocal_other _ _ (hn _ (List.mem_singleton_self _)), findLocal_other _ _ (by simp)]

theorem dmaClearTc_ends (h : s.AtCall (.dmaClearTc (.num c.val)) ds) (hc : c.val < s.params.nDma) :
    s.CallEnds (List.replicate 2 Move.statement) (s.setDma c { s.dma[c] with tcif := false }) [] := by
  have hwritten := (h.dmaBegins rfl rfl hc).dmaWrite h.1 hc rfl (Expr.eval.eq_1 _ 0x2) (r := .cifcr)
    (e := { s.dma[c] with tcif := false }) (by simp [DmaChannel.write, DmaChannel.writeCifcr, Word.bit])
  exact hwritten.ends (List.forall_mem_nil _) fun _ _ => rfl

/-- The channel with its three flags clear. -/
def DmaChannel.flagsClear (d : DmaChannel) : DmaChannel := { d with tcif := false, htif := false, teif := false }

theorem dmaClearAll_runs (h : s.AtCall (.dmaClearAll (.num c.val)) ds) (hc : c.val < s.params.nDma) :
    s.Runs (List.replicate 2 Move.statement) (bodyDmaClearAll s.params (.num c.val)) 2 (s.setDma c s.dma[c].flagsClear) s.top.loc :=
  (h.dmaBegins rfl rfl hc).dmaWrite h.1 hc rfl (Expr.eval.eq_1 _ 0x1) (r := .cifcr)
    (by simp [DmaChannel.write, DmaChannel.writeCifcr, Word.bit, DmaChannel.flagsClear])

theorem dmaClearAll_ends (h : s.AtCall (.dmaClearAll (.num c.val)) ds) (hc : c.val < s.params.nDma) :
    s.CallEnds (List.replicate 2 Move.statement) (s.setDma c s.dma[c].flagsClear) [] :=
  State.Runs.ends (body := bodyDmaClearAll _ _) (dmaClearAll_runs h hc) (List.forall_mem_nil _) fun _ _ => rfl

/-! ### `DMA_STOP` -/

section
variable (h : s.AtCall (.dmaStop (.num c.val)) ds) (hc : c.val < s.params.nDma)
include h hc

/-- The channel's word, and what its rule makes of that word with EN 0. -/
theorem dmaStop_writes {d : DmaChannel} (hw : s.dma[c].writeCcr c (ccrWord s.dma[c].cfg false) = .ok d) :
    s.Runs (List.replicate 3 Move.statement) (bodyDmaStop s.params (.num c.val)) 3 (s.setDma c d)
      (writeLocal s.top.loc .dmaStopR (s.dma[c].read .ccr)) := by
  have hread := (h.dmaBegins rfl rfl hc).dmaRead h.1 hc rfl
  have hword := Expr.eval_clearBit0 (findLocal_same s.top.loc .dmaStopR (s.dma[c].read .ccr))
  refine hread.dmaWrite h.1 hc rfl hword (r := .ccr) ?_
  rw [ofInt_toNat, DmaChannel.read_ccr, show (0#20 ++ s.dma[c].cfg ++ _ : Word) = ccrWord _ _ from rfl, ccrWord_clear]
  exact hw

/-- A poll of EN that ends the call at once. -/
theorem dmaStop_polled {ms : List Move} {d : DmaChannel} (hidle : d.active = false)
    (hruns : s.Runs ms (bodyDmaStop s.params (.num c.val)) 3 (s.setDma c d) (writeLocal s.top.loc .dmaStopR (s.dma[c].read .ccr))) :
    s.CallEnds (ms ++ List.replicate 1 Move.statement) (s.setDma c d) [] := by
  have hoff : (d.en || d.stopping) = false := hidle
  have hpolled := hruns.dmaPoll h.1 hc rfl (m := 1) (w := 0) (r := .ccr) (by
    rw [DmaChannel.read_ccr, hoff]
    exact (ccrWord_and_enable d.cfg false).trans (if_neg Bool.false_ne_true))
  exact hpolled.ends (List.forall_mem_nil _) fun _ _ => findLocal_other _ _ (by simp)

theorem dmaStop_active (hact : s.dma[c].active = true) :
    s.CallEnds (List.replicate 3 Move.statement ++ [.stopAck c] ++ List.replicate 1 Move.statement)
      (s.setDma c { s.dma[c] with en := false, stopping := false }) [] := by
  have hstops := dmaStop_writes h hc (d := { s.dma[c] with stopping := true }) (by
    rw [DmaChannel.writeCcr_active hact, extractLsb_ccrWord, if_pos rfl, getLsbD_ccrWord, Bool.not_false, Bool.or_true])
  exact dmaStop_polled h hc rfl (hstops.stopAck rfl)

theorem dmaStop_idle (hidle : s.dma[c].active = false) : s.CallEnds (List.replicate 4 Move.statement) s [] := by
  have hstores := dmaStop_writes h hc (d := s.dma[c]) (by
    rw [DmaChannel.writeCcr_idle hidle, extractLsb_ccrWord, getLsbD_ccrWord, if_neg Bool.false_ne_true])
  have hends := dmaStop_polled h hc hidle hstores
  rwa [State.setDma_self] at hends

end

/-! ### `DMA_START` -/

/-- An idle channel with a count, whose configuration is written back with EN set (43_dma.md R710). -/
theorem DmaChannel.writeCcr_stored {d : DmaChannel} (hidle : d.active = false) (hcount : d.cndtr ≠ 0) :
    let psize := d.cfg.extractLsb' 7 2
    let msize := d.cfg.extractLsb' 9 2
    let bad := psize = 3 ∨ msize = 3 ∨ psize ≠ msize ∨ d.cpar.toNat % 2 ^ psize.toNat ≠ 0 ∨ d.cmar.toNat % 2 ^ msize.toNat ≠ 0
    (bad → d.writeCcr c (ccrWord d.cfg true) = .error ⟨.dmaBadConfig, .num c.val⟩) ∧
    (¬bad → d.writeCcr c (ccrWord d.cfg true) = .ok { d with
      en := true, init := d.cndtr, pptr := d.cpar, mptr := d.cmar }) := by
  intro psize msize bad
  obtain ⟨-, hstopping⟩ : d.en = false ∧ d.stopping = false := Bool.or_eq_false_iff.mp hidle
  obtain ⟨hp, hm⟩ := sizes_ccrWord d.cfg true
  have hbad : d.badConfig (ccrWord d.cfg true) = true ↔ bad := by
    rw [DmaChannel.badConfig_iff, hp, hm, eq_false hcount, false_or]
    exact Iff.rfl
  rw [DmaChannel.writeCcr_idle hidle, getLsbD_ccrWord, if_pos rfl, extractLsb_ccrWord, ← hstopping]
  exact ⟨fun h => if_pos (hbad.mpr h), fun h => if_neg (mt hbad.mp h)⟩

section
variable {buf len : Nat} (h : s.AtCall (.dmaStart (.num c.val) (.num buf) (.num len)) ds) (hc : c.val < s.params.nDma)
include h hc

theorem dmaStart_badLength (hlen : len < 1 ∨ 65535 < len) :
    s.CallFaults (List.replicate 2 Move.statement) s ⟨.dmaBadConfig, .num c.val⟩ := by
  have hfaults := (h.dmaBegins rfl rfl hc).check_faults rfl (Expr.eval_outside (Expr.eval.eq_1 _ (len : Int)) 1 65535) (by omega)
    (Expr.eval.eq_1 _ _)
  rwa [State.setDma_self] at hfaults

variable (hlo : 1 ≤ len) (hhi : len ≤ 65535)
include hlo hhi

/-- With a good length the flags are cleared, whatever the channel does (43_dma.md R752). -/
theorem dmaStart_clears : s.Runs (List.replicate 4 Move.statement) (bodyDmaStart s.params (.num c.val) (.num buf) (.num len)) 3
    (s.setDma c s.dma[c].flagsClear) s.top.loc := by
  have hchecked := (h.dmaBegins rfl rfl hc).passes rfl (Expr.eval_outside (Expr.eval.eq_1 _ (len : Int)) 1 65535) (by omega)
  rw [State.setDma_self] at hchecked
  have hclear (t : State) (ht : s.SameUnits t) (hat : t.AtCall (.dmaClearAll (.num c.val)) []) :
      t.Runs (List.replicate 2 Move.statement) (bodyDmaClearAll s.params (.num c.val)) 2 (s.setDma c s.dma[c].flagsClear) t.top.loc := by
    have hruns := dmaClearAll_runs hat (ht.same_params ▸ hc)
    rw [ht.same_params, ht.dma] at hruns
    exact hruns.of_sameUnits (ht.setDma c _)
  obtain ⟨_, hruns, rfl⟩ := hchecked.call (i := .dmaClearAll (.num c.val)) (ds := []) (P := fun env => env = s.top.loc)
    (body' := bodyDmaClearAll s.params (.num c.val)) rfl h.1 fun t ht _ hloc hat => ⟨t.top.loc, hclear t ht hat, hloc⟩
  exact hruns

theorem dmaStart_active (hact : s.dma[c].active = true) :
    s.CallFaults (List.replicate 5 Move.statement) (s.setDma c s.dma[c].flagsClear) ⟨.dmaReconfig, .num c.val⟩ :=
  (dmaStart_clears h hc hlo hhi).dmaWrite_faults h.1 hc rfl (Expr.eval.eq_1 _ _)
    (DmaChannel.write_locked (d := s.dma[c].flagsClear) hact (r := .cmar) (by simp))

variable (hidle : s.dma[c].active = false)
include hidle

/-- Buffer and length are stored, and the channel's word is read (43_dma.md R752). -/
theorem dmaStart_stores : s.Runs (List.replicate 7 Move.statement) (bodyDmaStart s.params (.num c.val) (.num buf) (.num len)) 6
    (s.setDma c { s.dma[c].flagsClear with cmar := BitVec.ofNat 32 buf, cndtr := BitVec.ofNat 16 len })
    (writeLocal s.top.loc .dmaStartR (ccrWord s.dma[c].cfg false)) := by
  have hcmar := (dmaStart_clears h hc hlo hhi).dmaWrite h.1 hc rfl (Expr.eval.eq_1 _ _) (DmaChannel.writeCmar_idle hidle)
  have hcndtr := hcmar.dmaWrite h.1 hc rfl (Expr.eval.eq_1 _ _) (DmaChannel.writeCndtr_idle hidle)
  rw [BitVec.ofInt_natCast, BitVec.ofInt_natCast, extractLsb_ofNat (by decide)] at hcndtr
  have hread := hcndtr.dmaRead h.1 hc rfl (r := .ccr) (y := .dmaStartR)
  have hoff : (s.dma[c].en || s.dma[c].stopping) = false := hidle
  rw [DmaChannel.read_ccr] at hread
  simp only [DmaChannel.flagsClear, hoff] at hread
  exact hread

/-- The last write has the channel's word with EN set. -/
theorem dmaStart_enables {r : Except FaultRecord DmaChannel}
    (hw : DmaChannel.writeCcr { s.dma[c].flagsClear with cmar := BitVec.ofNat 32 buf, cndtr := BitVec.ofNat 16 len } c
      (ccrWord s.dma[c].cfg true) = r) :
    (∀ f, r = .error f → s.CallFaults (List.replicate 8 Move.statement)
      (s.setDma c { s.dma[c].flagsClear with cmar := BitVec.ofNat 32 buf, cndtr := BitVec.ofNat 16 len }) f) ∧
    (∀ d, r = .ok d → s.CallEnds (List.replicate 8 Move.statement) (s.setDma c d) []) := by
  have hword : Expr.eval (writeLocal s.top.loc .dmaStartR (ccrWord s.dma[c].cfg false)) (orE (.loc .dmaStartR) (.num 0x1)) =
      .ok (ccrWord s.dma[c].cfg true).toNat := by
    rw [Expr.eval_orE (n := (1#32).toNat) (Expr.eval_written _ _ _) rfl, ← BitVec.toNat_or, ccrWord_or_one]
  have hstored := dmaStart_stores h hc hlo hhi hidle
  refine ⟨fun f hf => ?_, fun d hd => ?_⟩
  · exact hstored.dmaWrite_faults h.1 hc rfl hword (r := .ccr) ((congrArg _ (ofInt_toNat _)).trans (hw.trans hf))
  · have hstarted := hstored.dmaWrite h.1 hc rfl hword (r := .ccr) ((congrArg _ (ofInt_toNat _)).trans (hw.trans hd))
    exact hstarted.ends (List.forall_mem_nil _) fun _ _ => findLocal_other _ _ (by simp)

end

end

/-- Settles O33: each call as its chain of statements and, where it waits for it, the stop's acknowledgement. -/
theorem dmaOperationRuns : Obligations.DmaOperationRuns := by
  unfold Obligations.DmaOperationRuns
  intro s c ds hc d ch active host put fault cleared
  have on (h : active) : d.active = true := DmaChannel.active_iff.mpr h
  have off (h : ¬active) : d.active = false := Bool.eq_false_iff.mpr (mt DmaChannel.active_iff.mp h)
  refine ⟨fun id h => ?_, fun pa h => ⟨fun hact => dmaBind_faults h hc (on hact), fun hidle => dmaBind_ends h hc (off hidle)⟩,
    fun buf len h => ?_, fun h => ⟨fun hact => dmaStop_active h hc (on hact), fun hidle => dmaStop_idle h hc (off hidle)⟩,
    fun h => dmaTc_ends h hc, fun h => dmaClearTc_ends h hc, fun h => dmaClearAll_ends h hc⟩
  · exact ⟨dmamuxMap_badId h hc, fun hid hact => dmamuxMap_active h hc hid (on hact),
      fun hid hidle => dmamuxMap_ends h hc hid (off hidle)⟩
  intro a psize msize bad set
  have hwrite (hlo : 1 ≤ len) (hhi : len ≤ 65535) (hidle : ¬active) := DmaChannel.writeCcr_stored (c := c) (d := set) (off hidle) (by
    rw [← BitVec.toNat_ne_iff_ne, BitVec.toNat_ofNat, Nat.mod_eq_of_lt (by omega)]
    exact Nat.ne_of_gt hlo)
  refine ⟨dmaStart_badLength h hc, fun hlo hhi hact => dmaStart_active h hc hlo hhi (on hact), fun hlo hhi hidle hbad => ?_,
    fun hlo hhi hidle hgood => ?_⟩
  · exact (dmaStart_enables h hc hlo hhi (off hidle) ((hwrite hlo hhi hidle).1 hbad)).1 _ rfl
  · exact (dmaStart_enables h hc hlo hhi (off hidle) ((hwrite hlo hhi hidle).2 hgood)).2 _ rfl

end Sys2Proof.Machine
end

section
/-! SUPPORT. The DMA beat: which channel it serves, what its two transactions give, and what the bookkeeping leaves (43_dma.md R730, R735,
R742; 40_bus.md R412). -/
namespace Sys2Proof.Machine

/-! ### Requests -/

section
variable {s : State} {c : Fin 16}

theorem State.dreqOf_iff (s : State) (r : BitVec 7) : s.dreqOf r = true ↔
    r = 1 ∧ s.adc1.dmaen = true ∧ s.adc1.isr.eoc = true ∨ r = 2 ∧ s.adc2.dmaen = true ∧ s.adc2.isr.eoc = true := by
  simp only [State.dreqOf, Adc.dreq]
  split
  · rename_i h; simp [h]
  · rename_i h1
    split
    · rename_i h2; simp [h2]
    · rename_i h2
      exact iff_of_false Bool.false_ne_true fun h => h.elim (fun h => h1 h.1) fun h => h2 h.1

theorem State.dmaLive_iff (s : State) (c : Fin 16) : s.dmaLive c = true ↔ s.dma[c].en = true ∧ s.dma[c].stopping = false := by
  simp [State.dmaLive]

/-- `req(c)` (43_dma.md R742). -/
theorem State.dmaReq_iff (s : State) (c : Fin 16) : s.dmaReq c = true ↔ s.dreqOf s.dmamux[c] = true ∧ s.dmaLive c = true ∧
    ∀ b : Fin 16, b < c → s.dmaLive b = true → s.dmamux[b] ≠ s.dmamux[c] := by
  have hothers (b : Fin 16) : (!(decide (b < c) && s.dmaLive b && s.dmamux[b] == s.dmamux[c])) = true ↔
      (b < c → s.dmaLive b = true → s.dmamux[b] ≠ s.dmamux[c]) := by
    rw [Bool.not_eq_true', ← Bool.not_eq_true]
    simp only [Bool.and_eq_true, decide_eq_true_eq, beq_iff_eq, not_and, and_imp, ne_eq]
  simp only [State.dmaReq, Bool.and_eq_true, List.all_eq_true, List.mem_finRange, true_imp_iff, hothers, and_assoc]

theorem State.beatChannel_none (h : ∀ b : Fin 16, s.dmaReq b = false) : s.beatChannel = none :=
  List.find?_eq_none.mpr fun b _ => by simp [h b]

/-- The lowest channel that requests (43_dma.md R730). -/
theorem State.beatChannel_lowest (h : s.dmaReq c = true) (hfirst : ∀ b : Fin 16, b < c → s.dmaReq b = false) :
    s.beatChannel = some c := by
  obtain ⟨-, hlive, -⟩ := (s.dmaReq_iff c).mp h
  refine List.find?_eq_some_iff_getElem.mpr ⟨by rw [hlive, h, Bool.and_self], c.val, by simp, by simp, fun j hj => ?_⟩
  simp [hfirst ⟨j, by omega⟩ hj]

/-- The step of a beat is its effect, or a stutter (log entry 1). -/
theorem step_beat (hf : s.fault = none) (ht : s.turn = .beat) : step s = .next (s.beatStep.getD s).scheduled := by
  simp only [step, hf, ht, State.moveOrStay, State.agentStep]

end

/-! ### Bytes of an element -/

theorem State.memNat_lt (s : State) (n : Nat) : ∀ a, s.memNat a n < 256 ^ n := by
  induction n with
  | zero => simp [State.memNat]
  | succ n ih =>
    intro a
    have hbyte := (s.byteAt a).isLt
    have hrest := ih (a + 1)
    rw [State.memNat, Nat.pow_succ]
    omega

/-- The bytes of a number read from memory are those there. -/
theorem State.memNat_byte (s : State) : ∀ (n a i : Nat), i < n → s.memNat a n / 256 ^ i % 256 = (s.byteAt (a + i)).toNat
  | n + 1, a, 0, _ => by
    have hbyte := (s.byteAt a).isLt
    rw [State.memNat, Nat.pow_zero, Nat.div_one]
    change _ = (s.byteAt a).toNat
    omega
  | n + 1, a, i + 1, h => by
    have hbyte := (s.byteAt a).isLt
    have hrest : ((s.byteAt a).toNat + 256 * s.memNat (a + 1) n) / 256 = s.memNat (a + 1) n := by omega
    rw [State.memNat, Nat.pow_succ', ← Nat.div_div_eq_div_mul, hrest, State.memNat_byte s n (a + 1) i (Nat.lt_of_succ_lt_succ h),
      Nat.add_right_comm]
    rfl

theorem State.memRead_byte (s : State) (n : Size) (a : Nat) {i : Nat} (h : i < n.bytes) :
    BitVec.ofNat 8 ((s.memRead n a).toNat / 256 ^ i) = s.byteAt (a + i) := by
  have hlt : s.memNat a n.bytes < 2 ^ 32 :=
    (s.memNat_lt n.bytes a).trans_le (Nat.pow_le_pow_right (by decide) (Nat.le_of_dvd (by decide) n.bytes_dvd_four))
  apply BitVec.eq_of_toNat_eq
  rw [BitVec.toNat_ofNat, State.memRead, BitVec.toNat_ofNat, Nat.mod_eq_of_lt hlt, s.memNat_byte n.bytes a i h]

/-! ### The transactions of a beat (40_bus.md R412) -/

/-- An access inside RAM (20_memory.md R201). -/
abbrev State.InRam (s : State) (n : Size) (a : Word) : Prop :=
  insideRegion s.params.ramBase s.params.ramSize a.toNat n.bytes = true

section
variable {s t : State} {n : Size} {a v : Word}

/-- A beat reads the lane of what the bus gives; a fault is a transfer error (43_dma.md R735, 44_cordic.md R814). -/
theorem dmaBusRead_value {lane : Lane} (h : s.hostRead n a = (lane, .value v t)) : s.dmaBusRead n a = .value (Lane.take lane v) t := by
  simp only [State.dmaBusRead, h]

theorem dmaBusRead_hold {lane : Lane} (h : s.hostRead n a = (lane, .hold)) : s.dmaBusRead n a = .hold := by
  simp only [State.dmaBusRead, h]

theorem dmaBusRead_fault {lane : Lane} {f : FaultRecord} (h : s.hostRead n a = (lane, .fault f)) : s.dmaBusRead n a = .error := by
  simp only [State.dmaBusRead, h]

theorem dmaBusRead_rejected {e : Reject} (h : decode s.params (.rd n a) = .error e) : s.dmaBusRead n a = .error := by
  cases hl : locate s.params n a with
  | error e' => exact dmaBusRead_fault (lane := .word) (by rw [State.hostRead, hl])
  | ok tg =>
    obtain ⟨i, hi⟩ := decode_rd_of_locate_ok hl
    rw [hi] at h
    cases h

theorem dmaBusRead_ram (hram : s.InRam n a) (hal : a.toNat % n.bytes = 0) :
    s.dmaBusRead n a = .value (s.memRead n a.toNat) s := by
  have hl := locate_inRam s.params n a hram
  rw [if_pos hal] at hl
  have haddr := (locate_ram s n a _ hl).2.2
  have hread : s.hostRead n a = (.word, .value (s.memRead n a.toNat) s) := by
    simp only [State.hostRead, hl, State.ramRead, haddr]
  exact dmaBusRead_value hread

theorem dmaBusRead_misaligned (hram : s.InRam n a) (hal : a.toNat % n.bytes ≠ 0) : s.dmaBusRead n a = .error :=
  dmaBusRead_rejected (decode_of_locate_error ((locate_inRam s.params n a hram).trans (if_neg hal)) 0).1

theorem dmaBusRead_trim (hp : s.params.wf = true) {off : BitVec 1} (hal : off.toNat % n.bytes = 0) (hin : off.toNat + n.bytes ≤ 2)
    (ha : a.toNat = s.params.trimAddr + off.toNat) : s.dmaBusRead n a = .value (s.trimRead n off) s := by
  have hl := locate_trimOffset s.params hp n off hal hin
  rw [← ha, Word.ofAddr_toNat] at hl
  exact dmaBusRead_value (lane := .word) (v := s.trimRead n off) (by simp only [State.hostRead, hl])

theorem dmaBusRead_trim_half (hp : s.params.wf = true) (hn : n = .b2) (ha : a.toNat = s.params.trimAddr) :
    s.dmaBusRead n a = .value (0#16 ++ s.trim) s := by
  subst hn
  rw [dmaBusRead_trim hp (off := 0) rfl (by decide) ha, State.trimRead_b2]

theorem dmaBusRead_trim_byte (hp : s.params.wf = true) (hn : n = .b1) {k : Nat} (hk : k < 2) (ha : a.toNat = s.params.trimAddr + k) :
    s.dmaBusRead n a = .value (0#24 ++ s.trim.extractLsb' (8 * k) 8) s := by
  subst hn
  have hoff : (BitVec.ofNat 1 k).toNat = k := by rw [BitVec.toNat_ofNat, Nat.mod_eq_of_lt hk]
  rw [dmaBusRead_trim hp (off := BitVec.ofNat 1 k) (Nat.mod_one _) (by rw [hoff]; exact hk) (by rw [hoff, ha]), State.trimRead, hoff,
    setWidth_eq_zero_append 24]

/-- A lane of a register is read by the register's rule. -/
theorem hostRead_reg (hp : s.params.wf = true) {r : Reg} {lane : Lane} (hr : r.present s.params = true) (hsize : lane.size = n)
    (ha : a.toNat = r.address s.params + lane.offset) : s.hostRead n a = (lane, s.regRead r) := by
  have hl := locate_reg s.params hp r hr lane
  rw [Reg.laneAddr, ← ha, Word.ofAddr_toNat, hsize] at hl
  rw [State.hostRead, hl]

/-- The halfword at an ADC's `DR` is the code, and reading it clears EOC (42_adc.md R621, R643). -/
theorem dmaBusRead_adcDr (hp : s.params.wf = true) (u : AdcUnit)
    (ha : a = BitVec.ofNat 32 ((if u = .one then s.params.adc1Base else s.params.adc2Base) + 0x40)) :
    s.dmaBusRead .b2 a = .value (0#16 ++ (s.adc u).dr) (s.setAdc u (s.adc u).clearEoc) := by
  have hlt := (Reg.adc u .dr).address_lt s.params hp
  have haddr : (if u = .one then s.params.adc1Base else s.params.adc2Base) + 0x40 = (Reg.adc u .dr).address s.params := by
    cases u <;> rfl
  have hr : s.hostRead .b2 a = (.half0, s.regRead (.adc u .dr)) :=
    hostRead_reg hp (by cases u <;> rfl) rfl (by rw [ha, haddr, BitVec.toNat_ofNat, Nat.mod_eq_of_lt (by omega)]; rfl)
  have hlane : Lane.take .half0 ((s.adc u).read .dr) = 0#16 ++ (s.adc u).dr := by
    rw [← setWidth_eq_zero_append 16, Lane.take, Adc.read, extractLsb_setWidth (by decide)]
  rw [← hlane]
  exact dmaBusRead_value hr

/-- What a beat has read leaves the host's part alone. -/
theorem dmaBusRead_host (h : s.dmaBusRead n a = .value v t) : SameHost s t := by
  simp only [State.dmaBusRead] at h
  split at h
  · rename_i w u hw
    cases h
    exact hostRead_host hw
  · cases h
  · cases h

theorem dmaBusWrite_ram (hram : s.InRam n a) (hal : a.toNat % n.bytes = 0) : s.dmaBusWrite n a v = .done (s.memWrite n a.toNat v) := by
  have hl := locate_inRam s.params n a hram
  rw [if_pos hal] at hl
  have haddr := (locate_ram s n a _ hl).2.2
  rw [State.dmaBusWrite, hl]
  exact congrArg (fun b => DmaWrite.done (s.memWrite n b v)) haddr

theorem dmaBusWrite_misaligned (hram : s.InRam n a) (hal : a.toNat % n.bytes ≠ 0) : s.dmaBusWrite n a v = .error := by
  rw [State.dmaBusWrite, (locate_inRam s.params n a hram).trans (if_neg hal)]

/-- A write that a bus check rejects, for whatever reason but a reserved operation code, which is the unit's (45_xform.md R851). -/
theorem dmaBusWrite_rejected {e : Reject} (h : decode s.params (.wr n a v) = .error e) (he : ∀ op, e ≠ .reservedOp op) :
    s.dmaBusWrite n a v = .error := by
  rw [State.dmaBusWrite]
  cases hl : locate s.params n a with
  | error e' => rfl
  | ok tg =>
    rw [decode, hl] at h
    cases tg with
    | ram off => cases h
    | trim off => rfl
    | reg r lane =>
      cases n with
      | b4 =>
        obtain ⟨op, -, hop⟩ := Reg.wrInstr_error_cases h
        exact absurd hop (he op)
      | b2 => rfl
      | b1 => rfl

section
variable (hp : s.params.wf = true) {r : Reg} (hr : r.present s.params = true) (ha : a.toNat = r.address s.params)
include hp hr ha

theorem locate_at_word : locate s.params .b4 a = .ok (.reg r .word) := by
  have hl := locate_word s.params hp r hr
  rwa [Reg.addr, ← ha, Word.ofAddr_toNat] at hl

/-- A word written to a register is taken or refused by the register's rule. -/
theorem dmaBusWrite_reg_ok (hw : s.regWrite r v = .ok t) : s.dmaBusWrite .b4 a v = .done t := by
  simp only [State.dmaBusWrite, locate_at_word hp hr ha, hw]

theorem dmaBusWrite_reg_error {f : FaultRecord} (hw : s.regWrite r v = .error f) : s.dmaBusWrite .b4 a v = .fault f := by
  simp only [State.dmaBusWrite, locate_at_word hp hr ha, hw]

end

end

/-! ### A beat by what its transactions give (43_dma.md R730, R735) -/

section
variable {s t w : State} {c : Fin 16} {n : Size} {src dst p m v : Word}

theorem moveElement_hold (h : s.dmaBusRead n src = .hold) : s.moveElement c n src dst p m = none := by
  rw [State.moveElement, h]

theorem moveElement_readError (h : s.dmaBusRead n src = .error) : s.moveElement c n src dst p m = some (s.dmaError c) := by
  rw [State.moveElement, h]

theorem moveElement_writeError (h : s.dmaBusRead n src = .value v t) (hw : t.dmaBusWrite n dst v = .error) :
    s.moveElement c n src dst p m = some (t.dmaError c) := by
  simp only [State.moveElement, h, hw]

theorem moveElement_fault {f : FaultRecord} (h : s.dmaBusRead n src = .value v t) (hw : t.dmaBusWrite n dst v = .fault f) :
    s.moveElement c n src dst p m = some (s.raise f) := by
  simp only [State.moveElement, h, hw]

theorem moveElement_done (h : s.dmaBusRead n src = .value v t) (hw : t.dmaBusWrite n dst v = .done w) :
    s.moveElement c n src dst p m = some (w.setDma c (w.dma[c].completeBeat n.bytes p m)) := by
  simp only [State.moveElement, h, hw]

end

/-- The bookkeeping, by what the count is at (43_dma.md R730). -/
theorem DmaChannel.completeBeat_eq (d : DmaChannel) (n : Nat) (p m : Word) : d.completeBeat n p m =
    let left := d.cndtr - 1
    let moved := { d with
      htif := d.htif || left.toNat = d.init.toNat / 2
      pptr := if d.pinc = true then p + BitVec.ofNat 32 n else d.pptr
      mptr := if d.minc = true then m + BitVec.ofNat 32 n else d.mptr }
    if left ≠ 0 then { moved with cndtr := left }
    else if d.circ = true then { moved with cndtr := d.init, pptr := d.cpar, mptr := d.cmar, tcif := true }
    else { moved with cndtr := 0, tcif := true, en := false } := by
  simp only [DmaChannel.completeBeat]
  by_cases hleft : d.cndtr - 1 = 0
  · rw [if_pos hleft, if_neg (not_not.mpr hleft), hleft]
    rfl
  · rw [if_neg hleft, if_pos hleft]
    rfl

/-- A halfword beat with MINC alone: the peripheral address stays (43_dma.md R735). -/
theorem DmaChannel.completeBeat_half (d : DmaChannel) (hpinc : d.pinc = false) (hminc : d.minc = true) :
    d.completeBeat Size.b2.bytes d.pptr d.mptr =
      let left := d.cndtr - 1
      let half := d.htif || left.toNat = d.init.toNat / 2
      if left ≠ 0 then { d with cndtr := left, mptr := d.mptr + 2, htif := half }
      else if d.circ = true then { d with cndtr := d.init, pptr := d.cpar, mptr := d.cmar, htif := half, tcif := true }
      else { d with cndtr := 0, mptr := d.mptr + 2, htif := half, tcif := true, en := false } := by
  simp only [DmaChannel.completeBeat_eq, hpinc, hminc, Bool.false_eq_true, if_false, if_true]
  rfl

/-! ### The step of a beat -/

/-- The state after the bookkeeping of a beat of channel c from addresses p and m. -/
def State.beatDone (s : State) (c : Fin 16) (n : Size) (p m : Word) : State := s.setDma c (s.dma[c].completeBeat n.bytes p m)

/-- Channel c has the next step: a beat, of the lowest channel that requests (43_dma.md R730). -/
structure State.BeatNext (s : State) (c : Fin 16) : Prop where
  fault : s.fault = none
  turn : s.turn = .beat
  req : s.dmaReq c = true
  first : ∀ b : Fin 16, b < c → s.dmaReq b = false

section
variable {s t w : State} {c : Fin 16} {n : Size} {v : Word} (h : s.BeatNext c)
include h

theorem State.BeatNext.step {r : Option State} (hb : s.beatOf c = r) : Machine.step s = .next (r.getD s).scheduled := by
  rw [step_beat h.fault h.turn, State.beatStep, State.beatChannel_lowest h.req h.first]
  exact congrArg (fun o : Option State => Host.Outcome.next (o.getD s).scheduled) hb

variable (hn : elementSize s.dma[c].psize = n)
include hn

/-- A memory address outside RAM is a transfer error before any transaction. -/
theorem State.BeatNext.outside (hram : ¬s.InRam n s.dma[c].mptr) : Machine.step s = .next (s.dmaError c).scheduled := by
  subst hn
  exact h.step (if_pos (by simpa using hram))

variable (hram : s.InRam n s.dma[c].mptr)
include hram

section
variable (hdir : s.dma[c].dir = false)
include hdir

/-- With DIR 0 the element goes from the peripheral side to memory. -/
theorem State.BeatNext.toMemory {r : Option State}
    (hr : s.moveElement c n s.dma[c].pptr s.dma[c].mptr s.dma[c].pptr s.dma[c].mptr = r) :
    Machine.step s = .next (r.getD s).scheduled := by
  subst hn
  exact h.step ((if_neg (by simpa using hram)).trans ((if_neg (by rw [hdir]; exact Bool.false_ne_true)).trans hr))

theorem State.BeatNext.toMemory_done (hv : s.dmaBusRead n s.dma[c].pptr = .value v t) (hal : s.dma[c].mptr.toNat % n.bytes = 0) :
    Machine.step s = .next ((t.memWrite n s.dma[c].mptr.toNat v).beatDone c n s.dma[c].pptr s.dma[c].mptr).scheduled := by
  have hin : t.InRam n s.dma[c].mptr := by rw [State.InRam, (dmaBusRead_host hv).params]; exact hram
  exact h.toMemory hn hram hdir (moveElement_done hv (dmaBusWrite_ram hin hal))

theorem State.BeatNext.toMemory_misaligned (hv : s.dmaBusRead n s.dma[c].pptr = .value v t)
    (hal : s.dma[c].mptr.toNat % n.bytes ≠ 0) : Machine.step s = .next (t.dmaError c).scheduled := by
  have hin : t.InRam n s.dma[c].mptr := by rw [State.InRam, (dmaBusRead_host hv).params]; exact hram
  exact h.toMemory hn hram hdir (moveElement_writeError hv (dmaBusWrite_misaligned hin hal))

end

section
variable (hdir : s.dma[c].dir = true)
include hdir

/-- With DIR 1 the element goes from memory to the peripheral side. -/
theorem State.BeatNext.toPeripheral {r : Option State}
    (hr : s.moveElement c n s.dma[c].mptr s.dma[c].pptr s.dma[c].pptr s.dma[c].mptr = r) :
    Machine.step s = .next (r.getD s).scheduled := by
  subst hn
  exact h.step ((if_neg (by simpa using hram)).trans ((if_pos hdir).trans hr))

theorem State.BeatNext.toPeripheral_misaligned (hal : s.dma[c].mptr.toNat % n.bytes ≠ 0) :
    Machine.step s = .next (s.dmaError c).scheduled :=
  h.toPeripheral hn hram hdir (moveElement_readError (dmaBusRead_misaligned hram hal))

variable (hal : s.dma[c].mptr.toNat % n.bytes = 0)
include hal

theorem State.BeatNext.toPeripheral_done (hw : s.dmaBusWrite n s.dma[c].pptr (s.memRead n s.dma[c].mptr.toNat) = .done w) :
    Machine.step s = .next (w.beatDone c n s.dma[c].pptr s.dma[c].mptr).scheduled :=
  h.toPeripheral hn hram hdir (moveElement_done (dmaBusRead_ram hram hal) hw)

theorem State.BeatNext.toPeripheral_rejected (hw : s.dmaBusWrite n s.dma[c].pptr (s.memRead n s.dma[c].mptr.toNat) = .error) :
    Machine.step s = .next (s.dmaError c).scheduled :=
  h.toPeripheral hn hram hdir (moveElement_writeError (dmaBusRead_ram hram hal) hw)

theorem State.BeatNext.toPeripheral_fault {f : FaultRecord}
    (hw : s.dmaBusWrite n s.dma[c].pptr (s.memRead n s.dma[c].mptr.toNat) = .fault f) :
    Machine.step s = .next (s.raise f).scheduled :=
  h.toPeripheral hn hram hdir (moveElement_fault (dmaBusRead_ram hram hal) hw)

end

end

/-! ### What memory holds after a beat -/

section
variable (t : State) (c : Fin 16) (n : Size) (p m : Word) (a : Nat) (v : Word)

theorem State.beatDone_byteAt (b : Nat) : (t.beatDone c n p m).byteAt b = t.byteAt b := rfl

/-- The element's bytes are at its address. -/
theorem State.beatDone_byteAt_inside {i : Nat} (hi : i < n.bytes) :
    ((t.memWrite n a v).beatDone c n p m).byteAt (a + i) = v.extractLsb' (8 * i) 8 := by
  rw [State.beatDone_byteAt, State.byteAt_memWrite_inside t n a i v hi, byte_of_word]

/-- Every other byte is as before. -/
theorem State.beatDone_byteAt_outside {b : Nat} (hb : b < a ∨ a + n.bytes ≤ b) :
    ((t.memWrite n a v).beatDone c n p m).byteAt b = t.byteAt b := by
  rw [State.beatDone_byteAt, State.byteAt_memWrite_outside t n a b v hb]

end

/-- Settles O51: a beat is by `State.BeatNext` the element of its channel, and each clause says what the two transactions of the element
give; the production binding is the beat from an ADC's `DR`. -/
theorem dmaBeat : Obligations.DmaBeat := by
  unfold Obligations.DmaBeat
  intro s c d live
  refine ⟨?_, fun hf ht hnone => ?_, fun hf ht hreq hfirst _ => ?_⟩
  · have hlive (b : Fin 16) : live b ↔ s.dmaLive b = true := (s.dmaLive_iff b).symm
    rw [s.dmaReq_iff c, State.dreqOf_iff]
    simp only [hlive]
  · rw [step_beat hf ht, State.beatStep, State.beatChannel_none hnone]
    rfl
  intro n ram aligned failed done
  have h : s.BeatNext c := ⟨hf, ht, hreq, hfirst⟩
  have hn : elementSize s.dma[c].psize = n := rfl
  have hdone (t : State) : done t = t.beatDone c n d.pptr d.mptr := by
    rw [State.beatDone, DmaChannel.completeBeat_eq]
  refine ⟨h.outside hn, fun hram hdir => ?_, fun hram hdir => ?_, fun u hp hsize hdir hpinc hminc hram hal hsrc => ?_⟩
  · refine ⟨fun v t hv => ⟨fun hal => ?_, h.toMemory_misaligned hn hram hdir hv⟩, fun hv => h.toMemory hn hram hdir (moveElement_hold hv),
      fun hv => h.toMemory hn hram hdir (moveElement_readError hv), fun ⟨e, he⟩ => dmaBusRead_rejected he, dmaBusRead_ram,
      dmaBusRead_trim_half, fun k hp hb hk => dmaBusRead_trim_byte hp hb hk, fun r lane hp hr hlane ha => ?_, fun t v b hb => ?_,
      fun t v i hi => ?_⟩
    · rw [hdone]
      exact h.toMemory_done hn hram hdir hv hal
    · have hread := hostRead_reg hp hr hlane ha
      exact ⟨fun v t hv => dmaBusRead_value (hread.trans (by rw [hv])), fun hv => dmaBusRead_hold (hread.trans (by rw [hv])),
        fun f hv => dmaBusRead_fault (hread.trans (by rw [hv]))⟩
    · rw [hdone, State.beatDone_byteAt_outside t c n _ _ _ v hb]
    · rw [hdone, State.beatDone_byteAt_inside t c n _ _ _ v hi]
  · refine ⟨h.toPeripheral_misaligned hn hram hdir, fun hal ⟨e, he, hop⟩ => ?_, fun hal hdst hald => ?_, fun hal hp hb r hr ha => ?_⟩
    · exact h.toPeripheral_rejected hn hram hdir hal (dmaBusWrite_rejected he hop)
    · intro t
      have ht : t = _ := hdone _
      rw [ht]
      refine ⟨h.toPeripheral_done hn hram hdir hal (dmaBusWrite_ram hdst hald), fun i hi => ?_, fun b hb => ?_⟩
      · rw [State.beatDone_byteAt, State.byteAt_memWrite_inside s n _ i _ hi, State.memRead_byte s n _ hi]
      · exact State.beatDone_byteAt_outside s c n _ _ _ _ hb
    · refine ⟨fun t hw => ?_, fun f hw => ?_⟩
      · rw [hdone]
        exact h.toPeripheral_done hn hram hdir hal (by rw [hb] at hw ⊢; exact dmaBusWrite_reg_ok hp hr ha hw)
      · exact h.toPeripheral_fault hn hram hdir hal (by rw [hb] at hw ⊢; exact dmaBusWrite_reg_error hp hr ha hw)
  · intro left half e a t
    have hb : n = .b2 := by rw [← hn, hsize]; rfl
    have ht : t = ((s.setAdc u a.clearEoc).memWrite .b2 d.mptr.toNat (0#16 ++ a.dr)).beatDone c .b2 d.pptr d.mptr :=
      congrArg (fun x => { (s.setAdc u a.clearEoc).memWrite .b2 d.mptr.toNat (0#16 ++ a.dr) with dma := s.dma.set c x })
        (d.completeBeat_half hpinc hminc).symm
    have hbyte (i : Nat) (hi : i < 2) : t.byteAt (d.mptr.toNat + i) = (0#16 ++ a.dr).extractLsb' (8 * i) 8 := by
      rw [ht]
      exact State.beatDone_byteAt_inside _ c .b2 _ _ _ _ hi
    have hin : s.InRam .b2 d.mptr := by rw [← hb]; exact hram
    refine ⟨?_, ?_, ?_, fun b hout => ?_⟩
    · rw [ht]
      exact h.toMemory_done (hn.trans hb) hin hdir (dmaBusRead_adcDr hp u hsrc) hal
    · exact (hbyte 0 (by decide)).trans (BitVec.extractLsb'_append_eq_of_add_le (by decide))
    · exact (hbyte 1 (by decide)).trans (BitVec.extractLsb'_append_eq_of_add_le (by decide))
    · rw [ht]
      exact State.beatDone_byteAt_outside _ c .b2 _ _ _ _ hout

end Sys2Proof.Machine
end

section
/-! SUPPORT. The CORDIC unit, register by register: what a read gives, which write is refused, and why each operation of a step keeps the
protocol of arguments and results (44_cordic.md R800, R801, R810 to R814). -/
namespace Sys2Proof.Machine

/-! ### The protocol is kept -/

namespace Cordic.Ok
variable {k l : Cordic}

/-- An accepted `CSR` write finds nothing outstanding, so the new counts constrain nothing (44_cordic.md R801). -/
theorem writeCsr {v : Word} (h : k.writeCsr v = .ok l) : l.Ok := by
  simp only [Cordic.writeCsr] at h
  split at h
  · cases h
  · rename_i hidle
    obtain ⟨⟨hbusy, hleft⟩, hlatched⟩ : (k.busy = false ∧ k.left = 0) ∧ k.latched = false := by simpa using hidle
    split at h <;> cases h
    simp [Cordic.Ok, hbusy, hleft, hlatched]

/-- An accepted `WDATA` write latches the first of a pair or starts a computation, with no result left (44_cordic.md R810). -/
theorem writeWdata {v : Word} (hk : k.Ok) (h : k.writeWdata v = .ok l) : l.Ok := by
  obtain ⟨-, hpair, -, -⟩ := hk
  simp only [Cordic.writeWdata] at h
  split at h
  · cases h
  · rename_i hidle
    obtain ⟨hbusy, hleft⟩ : k.busy = false ∧ k.left = 0 := by simpa using hidle
    split at h
    · rename_i hfirst
      obtain ⟨hargs, -⟩ : k.nargs = true ∧ k.latched = false := by simpa using hfirst
      cases h
      simp [Cordic.Ok, hbusy, hleft, hargs]
    · split at h
      · cases h
        simp [Cordic.Ok, hleft]
      · rename_i hsingle
        cases h
        have hlatched : k.latched = false := Bool.eq_false_iff.mpr fun hl => hsingle (hpair hl).1
        simp [Cordic.Ok, hleft, hlatched]

theorem write {r : CordicReg} {v : Word} (hk : k.Ok) (h : k.write r v = .ok l) : l.Ok := by
  cases r with
  | csr => exact writeCsr h
  | wdata => exact hk.writeWdata h
  | rdata => cases h; exact hk

/-- Reading a result moves the index up as the count goes down (44_cordic.md R814). -/
theorem pop (hk : k.Ok) (hbusy : k.busy = false) (hleft : k.left ≠ 0) : k.pop.Ok := by
  obtain ⟨-, hpair, hcount, hindex⟩ := hk
  have hsum := hindex hleft
  have hone := Bool.toNat_le k.nres
  refine ⟨fun hb => absurd hb (by simp [Cordic.pop, hbusy]), fun hl => absurd (hpair hl).2 hleft, ?_, fun _ => ?_⟩ <;>
    simp only [Cordic.pop] <;> bv_omega

/-- A completion leaves one result or two, of which the first is next, and no argument (44_cordic.md R812). -/
theorem complete (hk : k.Ok) (h : k.complete = some l) : l.Ok := by
  obtain ⟨hbusy, -, -, -⟩ := hk
  simp only [Cordic.complete] at h
  split at h <;> cases h
  rename_i hb
  have hlatched := (hbusy hb).2
  cases k.nres <;> simp [Cordic.Ok, hlatched]

end Cordic.Ok

/-- An accepted register write leaves the engine alone or is one of its own registers'. -/
theorem regWrite_cordic_cases {s t : State} {r : Reg} {v : Word} (h : s.regWrite r v = .ok t) :
    t.cordic = s.cordic ∨ ∃ q, s.cordic.write q v = .ok t.cordic := by
  cases r with
  | cordic q =>
    simp only [State.regWrite, State.cordicWrite] at h
    split at h <;> cases h
    exact .inr ⟨q, by assumption⟩
  | _ => exact .inl ((regWrite_effect h).cordic nofun)

/-- Of the agents other than the beat only the engine's own completion touches it. -/
theorem agentStep_cordic {s t : State} {m : Move} (hm : m ≠ .beat) (h : s.agentStep m = some t) :
    t.cordic = s.cordic ∨ s.cordic.complete = some t.cordic := by
  rcases agentStep_some s t m hm h with ⟨_, _, _, rfl⟩ | ⟨_, rfl⟩ | ⟨_, _, _, rfl⟩ | ⟨_, _, _, rfl⟩ | ⟨_, _, _, rfl⟩ | ⟨_, _, _, rfl⟩ |
    ⟨_, _, _, _, rfl⟩ | ⟨_, _, rfl⟩ | ⟨_, _, _, rfl⟩ | ⟨_, _, hk, rfl⟩
  case inr.inr.inr.inr.inr.inr.inr.inr.inr => exact .inr hk
  all_goals exact .inl rfl

/-- Every operation a step is made of keeps the protocol. -/
theorem cordicOk_stepKeeps : StepKeeps fun s => s.cordic.Ok where
  top _ _ _ _ h := h
  ret s t ht h := by
    obtain ⟨_, _, _, rfl, _⟩ := leaveHandler_ok s t ht
    exact h
  data _ _ h := h
  halt _ _ h := h
  raise _ _ h := h
  sched _ h := h
  read s r v t ht h := by
    rcases regRead_value s t r v ht with rfl | ⟨_, _, rfl⟩ | ⟨_, hbusy, hleft, rfl⟩
    · exact h
    · exact h
    · exact h.pop hbusy hleft
  write _ _ _ _ ht h := by
    rcases regWrite_cordic_cases ht with hsame | ⟨q, hq⟩
    · rwa [hsame]
    · exact h.write hq
  mem _ _ _ _ _ _ h := h
  agent _ _ _ hm ht h := by
    rcases agentStep_cordic hm ht with hsame | hk
    · rwa [hsame]
    · exact h.complete hk
  error _ _ h := h
  beat _ _ _ h := h

/-- Settles O58: a register write, a result read and a completion keep the protocol; nothing else touches the engine. -/
theorem cordicProtocol : Obligations.CordicProtocol := cordicOk_stepKeeps.step

/-! ### Reads -/

theorem Word.ofBit_eq_ofField (i : Nat) (b : Bool) : Word.ofBit i b = Word.ofField i (BitVec.ofBool b) := by
  cases b <;> simp [Word.ofBit, Word.ofField]

/-- `CSR` as its fields: RRDY at 31, NARGS at 20, NRES at 19, PRECISION at 4, FUNC below (10_state.md R140). -/
theorem Cordic.readCsr_eq (k : Cordic) : k.readCsr = BitVec.ofBool (!k.busy && k.left != 0) ++ 0#10 ++ BitVec.ofBool k.nargs ++
    BitVec.ofBool k.nres ++ 0#11 ++ k.precision ++ k.func := by
  refine .trans ?_ (Word.ofField_of_toNat (w := 1 + 10 + 1 + 1 + 11 + 4 + 4) rfl)
  simp only [Word.ofField_append, Word.ofField_zero, Cordic.readCsr, Cordic.rrdy, Word.ofBit_eq_ofField]
  simp [BitVec.or_assoc]

section
variable {s : State}

/-- `RDATA` by what is outstanding (44_cordic.md R814). -/
theorem State.readRdata_busy (hbusy : s.cordic.busy = true) : s.readRdata = .hold := if_pos hbusy

theorem State.readRdata_empty (hbusy : s.cordic.busy = false) (hleft : s.cordic.left = 0) :
    s.readRdata = .fault ⟨.cordicNoResult, .num 0⟩ := by
  rw [State.readRdata, if_neg (by simp [hbusy]), if_pos hleft]
  rfl

theorem State.readRdata_first (hbusy : s.cordic.busy = false) (hleft : s.cordic.left ≠ 0) (hnext : s.cordic.next = 1) :
    s.readRdata = .value s.cordic.res1 { s with cordic := { s.cordic with next := 2, left := s.cordic.left - 1 } } := by
  rw [State.readRdata, if_neg (by simp [hbusy]), if_neg hleft, Cordic.nextResult, Cordic.pop, hnext]
  rfl

theorem State.readRdata_second (hbusy : s.cordic.busy = false) (hleft : s.cordic.left ≠ 0) (hnext : s.cordic.next = 2) :
    s.readRdata = .value s.cordic.res2 { s with cordic := { s.cordic with next := 3, left := s.cordic.left - 1 } } := by
  rw [State.readRdata, if_neg (by simp [hbusy]), if_neg hleft, Cordic.nextResult, Cordic.pop, hnext]
  rfl

end

/-- Settles O21: each row is the read of its register, into the local; that of `RDATA` by what is outstanding. -/
theorem cordicXformReads : Obligations.CordicXformReads := by
  unfold Obligations.CordicXformReads
  have row {s t : State} {x : LocalName} (lane : Lane) (hk : s.sink = .ok (.store x)) {r : ReadResult} {v : Word} (h : r = .value v t) :
      Cpu.runRead s lane r = .next (t.loaded x (Lane.take lane v)) := h ▸ runRead_store s t x lane v hk
  refine ⟨fun s x lane hk => ⟨row lane hk (by rw [s.cordic.readCsr_eq]), row lane hk rfl, fun hbusy => ?_, fun hbusy hleft => ?_,
    fun hbusy hleft hnext => row lane hk (State.readRdata_first hbusy hleft hnext),
    fun hbusy hleft hnext => row lane hk (State.readRdata_second hbusy hleft hnext)⟩, fun s x lane hk => ?_⟩
  · exact (congrArg _ (State.readRdata_busy hbusy)).trans (runRead_hold s lane _ hk)
  · exact (congrArg _ (State.readRdata_empty hbusy hleft)).trans (runRead_fault s lane _ _ hk)
  · exact ⟨row lane hk (by rw [← setWidth_eq_zero_append]; rfl), row lane hk rfl, row lane hk rfl, row lane hk rfl, row lane hk rfl,
      row lane hk rfl, row lane hk rfl, row lane hk rfl, row lane hk rfl⟩

/-! ### Writes -/

section
variable {s : State} {v : Word} {i : Instr} {r : CordicReg}

theorem Cordic.writeCsr_busy {k : Cordic} (h : k.busy = true ∨ k.left ≠ 0 ∨ k.latched = true) :
    k.writeCsr v = .error ⟨.cordicBusy, .num v.toNat⟩ :=
  if_pos (by simpa [or_assoc] using h)

/-- With nothing outstanding `CSR` checks the function and the precision (44_cordic.md R801). -/
theorem Cordic.writeCsr_idle {k : Cordic} (hbusy : k.busy = false) (hleft : k.left = 0) (hlatched : k.latched = false) :
    k.writeCsr v = if 2 ≤ (v.extractLsb' 0 4).toNat ∨ v.extractLsb' 4 4 = 0#4 then .error ⟨.cordicBadFunc, .num v.toNat⟩
      else .ok { k with
        func := v.extractLsb' 0 4, precision := v.extractLsb' 4 4, nres := v.getLsbD 19, nargs := v.getLsbD 20 } := by
  rw [Cordic.writeCsr, if_neg (by simp [hbusy, hleft, hlatched])]
  simp only [Bool.or_eq_true, decide_eq_true_eq, beq_iff_eq]
  rfl

/-- A register of the engine takes what its rule gives. -/
theorem regWrite_cordic_ok {k : Cordic} (h : s.cordic.write r v = .ok k) : s.regWrite (.cordic r) v = .ok (s.setCordic k) := by
  rw [State.regWrite, State.cordicWrite, h]
  rfl

theorem regWrite_cordic_error {f : FaultRecord} (h : s.cordic.write r v = .error f) : s.regWrite (.cordic r) v = .error f := by
  rw [State.regWrite, State.cordicWrite, h]

/-- An accepted write of a CORDIC register, as the host's step. -/
theorem exec_cordic_ok {k : Cordic} (hi : Reg.wrInstr (.cordic r) v = .ok i) (h : s.cordic.write r v = .ok k) :
    exec i s = .next { s with cordic := k }.advance := by
  rw [exec_wrInstr _ _ _ s hi, regWrite_cordic_ok h, runWrite_ok]
  rfl

/-- A refused one. -/
theorem exec_cordic_error {f : FaultRecord} (hi : Reg.wrInstr (.cordic r) v = .ok i) (h : s.cordic.write r v = .error f) :
    exec i s = .next (s.raise f) := by
  rw [exec_wrInstr _ _ _ s hi, regWrite_cordic_error h, runWrite_error]

end

/-- Settles O31: each row is the rule of its register, by what is outstanding. -/
theorem cordicWrites : Obligations.CordicWrites := by
  unfold Obligations.CordicWrites
  intro s v k put
  refine ⟨fun h => exec_cordic_error (r := .csr) rfl (Cordic.writeCsr_busy h), fun hbusy hleft hlatched hbad => ?_,
    fun hbusy hleft hlatched hfunc hprec => ?_, fun h => exec_cordic_error (r := .wdata) rfl (Cordic.writeWdata_overrun v h),
    fun hbusy hleft hargs hlatched => exec_cordic_ok (r := .wdata) rfl (Cordic.writeWdata_first v hbusy hleft hargs hlatched),
    fun hbusy hleft hargs hlatched => exec_cordic_ok (r := .wdata) rfl (Cordic.writeWdata_second v hbusy hleft hargs hlatched),
    fun hbusy hleft hargs => exec_cordic_ok (r := .wdata) rfl (Cordic.writeWdata_single v hbusy hleft hargs), rfl⟩
  · exact exec_cordic_error (r := .csr) rfl ((Cordic.writeCsr_idle hbusy hleft hlatched).trans (if_pos hbad))
  · exact exec_cordic_ok (r := .csr) rfl ((Cordic.writeCsr_idle hbusy hleft hlatched).trans (if_neg (not_or.mpr ⟨by omega, hprec⟩)))

end Sys2Proof.Machine
end

section
/-! SUPPORT. The CORDIC operations, `XF_RUN` and the Q31 conversions: what their calls do in one step, and `CORDIC_COMPUTE` as a whole
(44_cordic.md R801, R814, R820, R821, R830 to R833; 45_xform.md R870; 40_bus.md R427). -/
namespace Sys2Proof.Machine

/-! ### The conversions as expressions -/

section
variable {env : List (LocalName × Word)} {e : Expr} {v : Int}

theorem eval_q31OfF32_some {q : Word} (h : Expr.eval env e = .ok v) (hq : F32.toQ31 (BitVec.ofInt 32 v) = some q) :
    Expr.eval env (.un .q31OfF32 e) = .ok q.toNat := by
  simp only [Expr.eval, h, evalUn, Word.ofInt, hq]

theorem eval_q31OfF32_none (h : Expr.eval env e = .ok v) (hq : F32.toQ31 (BitVec.ofInt 32 v) = none) :
    Expr.eval env (.un .q31OfF32 e) = .error ⟨.q31Domain, .num (BitVec.ofInt 32 v).toNat⟩ := by
  simp only [Expr.eval, h, evalUn, Word.ofInt, hq]
  rfl

theorem eval_f32OfQ31_ofInt (h : Expr.eval env e = .ok v) :
    Expr.eval env (.un .f32OfQ31 e) = .ok (F32.ofQ31 (BitVec.ofInt 32 v)).toNat := by
  simp only [Expr.eval, h, evalUn, Word.ofInt]

end

/-! ### First statements of calls -/

section
variable {s : State} {i : Instr} {e : Expr} {w : Word} {x : LocalName} {rest : Prog}

/-- A call that is one assignment. -/
theorem exec_assign (ho : i.isOperation = true) (hi : expansion s.params i s.callDests = [.set x e]) (he : s.eval e = .ok w.toNat) :
    exec i s = .next (s.assigned x w) :=
  exec_of_done ho (by rw [hi, runCall_assign he, ofInt_toNat])

/-- A call that begins with a conversion of its argument, which is a CALL of one assignment. -/
theorem exec_conversion {j : Instr} {ds : List LocalName} {next : Stmt} (ho : i.isOperation = true)
    (hi : expansion s.params i s.callDests = .call j ds :: next :: rest) (hj : expansion s.params j ds = [.set x e])
    (he : s.eval e = .ok w.toNat) :
    exec i s = .next ((s.entered (.call j ds :: next :: rest) 1).setTop
      ((s.entered (.call j ds :: next :: rest) 1).top.setLocal x w)) := by
  refine exec_of_done ho ?_
  rw [hi, runCall_nested hj (by simp), runCall_assign ((eval_expand s _ e).trans he), ofInt_toNat]
  simp [State.assigned, State.entered, State.setTop_setTop, Activity.next, Activity.jump, Activity.expand, Activity.setLocal, unwind]

/-- One that begins with the read of a register reads it where its expansion is entered. -/
theorem runCall_rd_eq {r : Reg} (hp : s.params.wf = true) (hr : r.present s.params = true) :
    Cpu.runCall s (.rd x .b4 (regE s.params r) :: rest) = Cpu.finishRead (s.setTop (s.top.expand (.rd x .b4 (regE s.params r) :: rest)))
      .word ((s.setTop (s.top.expand (.rd x .b4 (regE s.params r) :: rest))).regRead r) := by
  rw [runCall_cons s _ _ (by simp)]
  simp only [Cpu.runStmt, Cpu.runRd, State.evalWord_regE, Cpu.transact, State.hostRead, State.setTop_params, locate_word s.params hp r hr]

end

/-- What the read of a statement RD gives reaches its local (40_bus.md R420). -/
theorem finishRead_value {s t : State} {x : LocalName} {v : Word} (lane : Lane) (h : s.sink = .ok (.store x)) :
    Cpu.finishRead s lane (.value v t) = .done (t.loaded x (Lane.take lane v)) := by
  simp only [Cpu.finishRead, h, absorb_store]

theorem finishRead_hold {s : State} {k : Sink} (lane : Lane) (h : s.sink = .ok k) : Cpu.finishRead s lane .hold = .hold := by
  simp only [Cpu.finishRead, h]

theorem finishRead_fault {s : State} {k : Sink} {f : FaultRecord} (lane : Lane) (h : s.sink = .ok k) :
    Cpu.finishRead s lane (.fault f) = .fault f := by
  simp only [Cpu.finishRead, h]

/-! ### `CORDIC_INIT` -/

/-- The mode word of R830 with the argument count's bit. -/
theorem cordicMode_two {n : Nat} (hn : n ≤ 15) : cordicMode n ||| 1 * 2 ^ 20 = 0x180001 + 16 * n := by
  unfold cordicMode
  interval_cases n <;> rfl

theorem eval_cordicMode_two (env : List (LocalName × Word)) (p : Params) :
    Expr.eval env (orE (cordicModeE p) (shlE (.num 1) (.num 20))) = .ok (cordicMode p.cordicPrecision ||| 1 * 2 ^ 20 : Nat) :=
  Expr.eval_orE (eval_cordicModeE env p) (eval_shlE env 1 20)

section
variable {s : State} (hp : s.params.wf = true)
include hp

/-- The call begins with the write of the mode word to `CSR`. -/
theorem runCall_cordicInit : Cpu.runCall s (bodyCordicInit s.params) =
    Cpu.finishWrite ((s.setTop (s.top.expand (bodyCordicInit s.params))).regWrite (.cordic .csr)
      (BitVec.ofInt 32 (cordicMode s.params.cordicPrecision ||| 1 * 2 ^ 20 : Nat))) :=
  runCall_wr (r := .cordic .csr) hp rfl (eval_cordicMode_two _ _)

theorem exec_cordicInit_idle (hbusy : s.cordic.busy = false) (hleft : s.cordic.left = 0) (hlatched : s.cordic.latched = false) :
    exec .cordicInit s = .next ({ s with cordic := { s.cordic with
      func := 1, precision := BitVec.ofNat 4 s.params.cordicPrecision, nres := true, nargs := true } }.entered
        (bodyCordicInit s.params) 1) := by
  obtain ⟨-, -, -, -, -, -, -, -, -, -, -, -, -, hlo, hhi, -⟩ := s.params.wf_iff.mp hp
  have hmode : s.cordic.writeCsr (BitVec.ofInt 32 (cordicMode s.params.cordicPrecision ||| 1 * 2 ^ 20 : Nat)) = _ :=
    Cordic.writeCsr_mode hbusy hleft hlatched hlo hhi true rfl
  refine exec_of_done rfl ((runCall_cordicInit hp).trans ?_)
  rw [regWrite_cordic_ok (s := s.setTop _) (r := .csr) hmode]
  exact congrArg StmtResult.done (advance_expand (s.setCordic _) _ _ _)

theorem exec_cordicInit_busy (h : s.cordic.busy = true ∨ s.cordic.left ≠ 0 ∨ s.cordic.latched = true) :
    exec .cordicInit s = .next (s.raise ⟨.cordicBusy, .num (0x180001 + 16 * s.params.cordicPrecision)⟩) := by
  obtain ⟨-, -, -, -, -, -, -, -, -, -, -, -, -, -, hhi, -⟩ := s.params.wf_iff.mp hp
  have hword : (BitVec.ofInt 32 (cordicMode s.params.cordicPrecision ||| 1 * 2 ^ 20 : Nat)).toNat =
      0x180001 + 16 * s.params.cordicPrecision := by
    rw [cordicMode_two hhi, BitVec.ofInt_natCast, BitVec.toNat_ofNat, Nat.mod_eq_of_lt (by omega)]
  refine exec_of_fault rfl ((runCall_cordicInit hp).trans ?_)
  rw [regWrite_cordic_error (s := s.setTop _) (r := .csr) (Cordic.writeCsr_busy h), hword]
  rfl

/-! ### `CORDIC_COLLECT` -/

/-- The call begins with the read of `RDATA`. -/
theorem runCall_cordicCollect (sn cs : LocalName) : Cpu.runCall s (bodyCordicCollect s.params sn cs) =
    Cpu.finishRead (s.setTop (s.top.expand (bodyCordicCollect s.params sn cs))) .word
      (s.setTop (s.top.expand (bodyCordicCollect s.params sn cs))).readRdata :=
  runCall_rd_eq (r := .cordic .rdata) hp rfl

end

/-- Settles O39: the first statement of each call is an assignment, a write of `CSR`, a read of `RDATA` or a check. -/
theorem cordicXformOperationCalls : Obligations.CordicXformOperationCalls := by
  unfold Obligations.CordicXformOperationCalls
  intro s hp
  have collect_sink : (s.setTop (s.top.expand (expansion s.params .cordicCollect s.callDests))).sink = .ok (.store .cordicCollectR1) :=
    sink_rd (current_expand _ _ _)
  have collect : Cpu.runCall s (expansion s.params .cordicCollect s.callDests) = _ := runCall_cordicCollect hp _ _
  refine ⟨fun e v q he hq => exec_assign rfl rfl (eval_q31OfF32_some he hq),
    fun e v he hq => exec_operand_error rfl rfl rfl (eval_q31OfF32_none he hq),
    fun e v he => exec_assign rfl rfl (eval_f32OfQ31_ofInt he), exec_cordicInit_idle hp, exec_cordicInit_busy hp,
    fun e v q he hq => exec_conversion rfl rfl rfl (eval_q31OfF32_some he hq),
    fun e v q he hq => exec_conversion rfl rfl rfl (eval_q31OfF32_some he hq), fun e v he hq i hi => ?_,
    fun hbusy hleft hnext => exec_of_done rfl (collect.trans ?_), fun hbusy hleft hnext => exec_of_done rfl (collect.trans ?_),
    fun hbusy => ?_, fun hbusy hleft => exec_of_fault rfl (collect.trans ?_), fun op x0 x1 x2 x3 v hv hle => ?_,
    fun op x0 x1 x2 x3 v hv hgt => ?_⟩
  · simp only [List.mem_cons, List.not_mem_nil, or_false] at hi
    rcases hi with rfl | rfl <;> exact exec_operand_error rfl rfl rfl (eval_q31OfF32_none he hq)
  · rw [State.readRdata_first (s := s.setTop _) hbusy hleft hnext]
    exact finishRead_value .word collect_sink
  · rw [State.readRdata_second (s := s.setTop _) hbusy hleft hnext]
    exact finishRead_value .word collect_sink
  · rw [exec_operation _ s rfl, collect, State.readRdata_busy (s := s.setTop _) hbusy]
    exact congrArg (Cpu.outcome s) (finishRead_hold .word collect_sink)
  · rw [State.readRdata_empty (s := s.setTop _) hbusy hleft]
    exact finishRead_fault .word collect_sink
  · exact exec_of_done rfl ((runCall_checked (Expr.eval_gtE hv 5)).1 (by omega))
  · exact exec_of_fault rfl ((runCall_checked (Expr.eval_gtE hv 5)).2 hgt hv)

/-! ### `CORDIC_COMPUTE` as a whole -/

section
variable {s : State} {v x y : Nat} {q : Word} (h : s.AtCall (.cordicCompute (.num v)) [.user x, .user y])
  (hq : F32.toQ31 (BitVec.ofNat 32 v) = some q)
include h hq

/-- The angle's conversion, which is one step with the call. -/
theorem cordicCompute_begins : s.Runs [.statement] (bodyCordicCompute s.params (.num v) (.user x) (.user y)) 1 (s.setCordic s.cordic)
    (writeLocal s.top.loc .cordicComputeQ q) := by
  have hruns := h.begins_nested rfl rfl rfl (eval_q31OfF32 (Expr.eval.eq_1 _ _) hq)
  rwa [ofInt_toNat] at hruns

/-- The angle is written, the engine completes, and both results are read. -/
theorem cordicCompute_reads (hbusy : s.cordic.busy = false) (hleft : s.cordic.left = 0) (hargs : s.cordic.nargs = false)
    (hnres : s.cordic.nres = true) (hfunc : s.cordic.func = 1) :
    let sine := Config.cordicSin q 0x7FFFFFFF#32 s.cordic.precision
    let cosine := Config.cordicCos q 0x7FFFFFFF#32 s.cordic.precision
    s.Runs [.statement, .statement, .cordic, .statement, .statement] (bodyCordicCompute s.params (.num v) (.user x) (.user y)) 4
      (s.setCordic { s.cordic with
        x := q, m := 0x7FFFFFFF#32, res1 := sine, res2 := cosine, left := 0, next := 3, busy := false })
      (writeLocal (writeLocal (writeLocal s.top.loc .cordicComputeQ q) .cordicComputeR1 sine) .cordicComputeR2 cosine) := by
  intro sine cosine
  have hwritten := (cordicCompute_begins h hq).cordicWrite (r := .wdata) rfl h.1 (Expr.eval_written _ _ q)
    ((congrArg _ (ofInt_toNat q)).trans (Cordic.writeWdata_single q hbusy hleft hargs))
  have hdone : s.Runs _ _ _ (s.setCordic { s.cordic with
      x := q, m := 0x7FFFFFFF#32, res1 := sine, res2 := cosine, left := 2, next := 1, busy := false }) _ :=
    hwritten.completes (Cordic.complete_sine rfl hfunc hnres)
  have hread := (hdone.cordicResult rfl h.1 rfl (by simp)).cordicResult rfl h.1 rfl (by simp [Cordic.pop])
  rwa [Cordic.pop_pop rfl rfl] at hread

end

/-- A result's conversion inside a call, into the local it names (44_cordic.md R821). -/
theorem State.Runs.converted {s u : State} {ms : List Move} {body : Prog} {k : Nat} {env : List (LocalName × Word)} {x y : LocalName}
    {w : Word} (h : s.Runs ms body k u env) (hk : body[k]? = some (.call (.q31ToFloat (.loc y)) [x])) (hw : findLocal env y = some w) :
    s.Runs (ms ++ [.statement]) body (k + 1) u (writeLocal env x (F32.ofQ31 w)) := by
  have hruns := h.nested (x := x) hk rfl rfl (eval_f32OfQ31 (Expr.eval_loc hw))
  rwa [ofInt_toNat] at hruns

/-- Settles O43: both results are converted into the call's two locals. -/
theorem cordicComputeRun : Obligations.CordicComputeRun := by
  unfold Obligations.CordicComputeRun
  intro s v q x y h hxy hq hbusy hleft hlatched hargs hnres hfunc sine cosine
  have hread := cordicCompute_reads h hq hbusy hleft hargs hnres hfunc
  have hx := hread.converted (w := sine) rfl (by simp [findLocal_writeLocal, sine])
  have hy := hx.converted (w := cosine) rfl (by simp [findLocal_writeLocal, cosine])
  have hends := hy.ends (results := [(.user x, F32.ofQ31 sine), (.user y, F32.ofQ31 cosine)])
    (by simp [findLocal_writeLocal, hxy.symm]) fun n hn => by
      obtain ⟨hnx, hny⟩ : x ≠ n ∧ y ≠ n := by simpa using hn
      simp [findLocal_writeLocal, hnx, hny]
  simpa [State.setCordic, hbusy] using hends

end Sys2Proof.Machine
end

section
/-! SUPPORT. The Q31 conversions: a magnitude of at most 24 significant bits is a binary32 value exactly, the nearest code of a binary32
value is such a magnitude, and so the way back from a code is exact (44_cordic.md R820, R821; 00_scope.md R12). -/
namespace Sys2Proof.Machine

/-! ### Bit patterns -/

section
variable {neg : Bool} {bits : Nat} (h : bits < 2 ^ 31)
include h

theorem F32.toNat_pack : (F32.pack neg bits).toNat = bits + if neg then 2 ^ 31 else 0 := by
  rw [F32.pack, BitVec.toNat_ofNat]
  split <;> omega

theorem F32.sign_pack : F32.sign (F32.pack neg bits) = neg := by
  rw [F32.sign, BitVec.msb_eq_decide, F32.toNat_pack h]
  cases neg
  · exact decide_eq_false (by simp; omega)
  · exact decide_eq_true (by simp)

theorem F32.expo_pack : F32.expo (F32.pack neg bits) = bits / 2 ^ 23 := by
  rw [F32.expo, F32.toNat_pack h]
  split <;> omega

theorem F32.frac_pack : F32.frac (F32.pack neg bits) = bits % 2 ^ 23 := by
  rw [F32.frac, F32.toNat_pack h]
  split <;> omega

end

/-- The pattern of a 24-bit significand w at scale `sh`; a significand below 2^23 is a subnormal's, at scale 0. -/
theorem F32.mag_pack (neg : Bool) {w sh : Nat} (hw : w < 2 ^ 24) (hnormal : sh = 0 ∨ 2 ^ 23 ≤ w) (hsh : sh ≤ 253) :
    F32.mag (F32.pack neg (w + sh * 2 ^ 23)) = w * 2 ^ sh := by
  have hbits : w + sh * 2 ^ 23 < 2 ^ 31 := by omega
  rw [F32.mag, F32.expo_pack hbits, F32.frac_pack hbits]
  by_cases hlow : w < 2 ^ 23
  · obtain rfl : sh = 0 := by omega
    rw [if_pos (by omega), pow_zero]
    omega
  · have hexpo : (w + sh * 2 ^ 23) / 2 ^ 23 = sh + 1 := by omega
    rw [hexpo, if_neg (by omega), Nat.add_sub_cancel]
    congr 1
    omega

/-! ### Magnitudes of 24 significant bits -/

/-- A magnitude of at most 24 significant bits, in units of 2^-149. -/
def F32.Fits (n : Nat) : Prop := ∃ w e, w < 2 ^ 24 ∧ n = w * 2 ^ e

theorem F32.mag_fits (f : Word) : F32.Fits (F32.mag f) := by
  have hfrac : F32.frac f < 2 ^ 23 := Nat.mod_lt _ (by decide)
  unfold F32.mag
  split
  · exact ⟨F32.frac f, 0, by omega, by omega⟩
  · exact ⟨F32.frac f + 2 ^ 23, _, by omega, rfl⟩

namespace F32.Fits
variable {n k : Nat}

/-- Below the leading 24 bits there is nothing. -/
theorem dvd_of_le (h : F32.Fits n) (hk : 2 ^ (k + 23) ≤ n) : 2 ^ k ∣ n := by
  obtain ⟨w, e, hw, rfl⟩ := h
  have hlt : w * 2 ^ e < 2 ^ (24 + e) := by
    rw [pow_add]
    exact Nat.mul_lt_mul_of_pos_right hw (by positivity)
  have hexp : k + 23 < 24 + e := (Nat.pow_lt_pow_iff_right (by decide)).mp (hk.trans_lt hlt)
  exact Dvd.dvd.mul_left (Nat.pow_dvd_pow 2 (by omega)) w

theorem dvd_log2 (h : F32.Fits n) : 2 ^ (n.log2 - 23) ∣ n := by
  by_cases hlow : n.log2 < 23
  · rw [Nat.sub_eq_zero_of_le (by omega), pow_zero]
    exact one_dvd n
  · refine h.dvd_of_le ?_
    rw [Nat.sub_add_cancel (by omega)]
    exact Nat.log2_self_le fun h0 => hlow (by rw [h0]; decide)

end F32.Fits

theorem roundEven_of_dvd {n d : Nat} (hd : 0 < d) (h : d ∣ n) : roundEven n d = n / d := by
  simp [roundEven, Nat.mod_eq_zero_of_dvd h, hd.ne]

/-- A magnitude of 24 significant bits, up to 1, is rounded to itself. -/
theorem F32.scaled_round (neg : Bool) {n : Nat} (h : F32.Fits n) (hn : n ≤ 2 ^ 149) :
    F32.scaled (F32.round neg n 1) = if neg then -(n : Int) else n := by
  have hdvd := h.dvd_log2
  have hlog : n.log2 < 150 := by
    rcases eq_or_ne n 0 with rfl | h0
    · decide
    · exact (Nat.log2_lt h0).mpr (hn.trans_lt (by decide))
  have hw : n / 2 ^ (n.log2 - 23) < 2 ^ 24 := by
    refine Nat.div_lt_of_lt_mul (Nat.lt_log2_self.trans_le ?_)
    rw [← pow_add]
    exact Nat.pow_le_pow_right (by decide) (by omega)
  have hnormal : n.log2 - 23 = 0 ∨ 2 ^ 23 ≤ n / 2 ^ (n.log2 - 23) := by
    refine or_iff_not_imp_left.mpr fun hsh => ?_
    rw [Nat.le_div_iff_mul_le (by positivity), ← pow_add, Nat.add_sub_cancel' (by omega)]
    exact Nat.log2_self_le fun h0 => hsh (by rw [h0]; decide)
  have hround : F32.round neg n 1 = F32.pack neg (n / 2 ^ (n.log2 - 23) + (n.log2 - 23) * 2 ^ 23) := by
    simp only [F32.round, Nat.div_one, one_mul, roundEven_of_dvd (Nat.two_pow_pos _) hdvd]
    rw [min_eq_left (by omega)]
  rw [F32.scaled, hround, F32.sign_pack (by omega), F32.mag_pack neg hw hnormal (by omega), Nat.div_mul_cancel hdvd]

/-- The way back from a code is exact. -/
theorem F32.scaled_ofQ31 {q : Word} (h : F32.Fits (q.toInt.natAbs * 2 ^ 118)) : F32.scaled (F32.ofQ31 q) = q.toInt * 2 ^ 118 := by
  have hlo := q.le_toInt
  have hhi := q.toInt_lt
  rw [F32.ofQ31, F32.scaled_round _ h (by omega)]
  by_cases hneg : q.toInt < 0 <;> simp only [hneg, decide_true, decide_false, if_true, Bool.false_eq_true, if_false] <;> omega

/-! ### The nearest code -/

section
variable {n : Nat}

/-- The code of a magnitude is its nearest, and the farther from zero of two. -/
theorem roundHalfAway_near (n : Nat) :
    roundHalfAway n (2 ^ 118) * 2 ^ 118 ≤ n + 2 ^ 117 ∧ n < roundHalfAway n (2 ^ 118) * 2 ^ 118 + 2 ^ 117 := by
  unfold roundHalfAway
  omega

/-- From 2^-8 on, a binary32 value is a code exactly. -/
theorem F32.Fits.roundHalfAway_exact (h : F32.Fits n) (hn : 2 ^ 141 ≤ n) : roundHalfAway n (2 ^ 118) * 2 ^ 118 = n := by
  obtain ⟨k, rfl⟩ := h.dvd_of_le (k := 118) hn
  unfold roundHalfAway
  omega

theorem F32.Fits.roundHalfAway_fits (h : F32.Fits n) : F32.Fits (roundHalfAway n (2 ^ 118) * 2 ^ 118) := by
  by_cases hn : 2 ^ 141 ≤ n
  · rwa [h.roundHalfAway_exact hn]
  · have hnear := roundHalfAway_near n
    exact ⟨roundHalfAway n (2 ^ 118), 118, by omega, rfl⟩

/-- A value below 1 does not round to 1. -/
theorem F32.Fits.roundHalfAway_lt (h : F32.Fits n) (hn : n < 2 ^ 149) : roundHalfAway n (2 ^ 118) < 2 ^ 31 := by
  have hnear := roundHalfAway_near n
  by_cases hlarge : 2 ^ 141 ≤ n
  · have hexact := h.roundHalfAway_exact hlarge
    omega
  · omega

/-- The distance of the nearest code, as R820 and R821 count it. -/
theorem roundHalfAway_distance (n : Nat) :
    |(roundHalfAway n (2 ^ 118) : Int) * 2 ^ 118 - n| ≤ 2 ^ 117 ∧
    (|(roundHalfAway n (2 ^ 118) : Int) * 2 ^ 118 - n| = 2 ^ 117 → |(n : Int)| < |(roundHalfAway n (2 ^ 118) : Int) * 2 ^ 118|) := by
  obtain ⟨hhi, hlo⟩ := roundHalfAway_near n
  refine ⟨abs_le.mpr ⟨by omega, by omega⟩, fun hhalf => ?_⟩
  rw [abs_of_nonneg (by positivity), abs_of_nonneg (by positivity)]
  rcases abs_cases ((roundHalfAway n (2 ^ 118) : Int) * 2 ^ 118 - n) with h | h <;> omega

end

/-! ### The code of a binary32 value -/

section
variable {f : Word}

theorem F32.toQ31_none
    (h : F32.isNan f = true ∨ F32.isInf f = true ∨ F32.scaled f < -(2 ^ 149) ∨ 2 ^ 149 ≤ F32.scaled f) : F32.toQ31 f = none := by
  refine if_pos ?_
  by_cases hinf : F32.isInf f = true
  · cases hs : F32.sign f <;> simp [F32.key, hinf, hs]
  · have hkey : F32.key f = F32.scaled f := if_neg hinf
    simpa [hkey, hinf, or_assoc] using h

theorem F32.toQ31_some (hfin : F32.isFinite f = true) (hlo : -(2 ^ 149) ≤ F32.scaled f) (hhi : F32.scaled f < 2 ^ 149) :
    ∃ q, F32.toQ31 f = some q ∧
      q.toInt = if F32.sign f then -(roundHalfAway (F32.mag f) (2 ^ 118) : Int) else roundHalfAway (F32.mag f) (2 ^ 118) := by
  have hexpo : F32.expo f ≠ 255 := by simpa [F32.isFinite] using hfin
  have hkey : F32.key f = F32.scaled f := if_neg (by simp [F32.isInf, hexpo])
  have hin : ¬(F32.isNan f || F32.key f < -(2 ^ 149 : Int) || F32.key f ≥ 2 ^ 149) = true := by
    rw [hkey, show F32.isNan f = false by simp [F32.isNan, hexpo]]
    simpa using And.intro hlo hhi
  rw [F32.toQ31, if_neg hin]
  refine ⟨_, rfl, ?_⟩
  have hnear := roundHalfAway_near (F32.mag f)
  have hlt := (F32.mag_fits f).roundHalfAway_lt
  unfold F32.scaled at hlo hhi
  cases hs : F32.sign f <;> simp only [hs, Bool.false_eq_true, if_true, if_false] at hlo hhi ⊢
  · have hcode := hlt (by omega)
    rw [BitVec.toInt_ofInt_eq_self (by decide) (by omega) (by omega)]
    omega
  · rw [BitVec.toInt_ofInt_eq_self (by decide) (by omega) (by omega)]
    omega

end

/-- Settles O53: the code's distance is that of the magnitude's nearest, and the way back is exact. -/
theorem q31Conversions : Obligations.Q31Conversions := by
  unfold Obligations.Q31Conversions
  refine fun f => ⟨F32.toQ31_none, fun hfin hlo hhi => ?_⟩
  obtain ⟨q, hsome, hq⟩ := F32.toQ31_some hfin hlo hhi
  have hfits := (F32.mag_fits f).roundHalfAway_fits
  have habs : q.toInt.natAbs = roundHalfAway (F32.mag f) (2 ^ 118) := by
    rw [hq]
    split
    · rw [Int.natAbs_neg, Int.natAbs_natCast]
    · rw [Int.natAbs_natCast]
  have hback : F32.scaled (F32.ofQ31 q) = q.toInt * 2 ^ 118 := F32.scaled_ofQ31 (by rwa [habs])
  obtain ⟨hnear, haway⟩ := roundHalfAway_distance (F32.mag f)
  refine ⟨q, hsome, ?_⟩
  rw [hback, hq, F32.scaled]
  cases F32.sign f
  · simp only [Bool.false_eq_true, if_false]
    exact ⟨hnear, haway, hnear⟩
  · simp only [if_true, neg_mul, neg_sub_neg, abs_neg, abs_sub_comm (F32.mag f : Int)]
    exact ⟨hnear, haway, hnear⟩

end Sys2Proof.Machine
end

section
/-! SUPPORT. The transform unit: what each write leaves of it, and `XF_RUN` as a whole call (45_xform.md R850 to R852, R860 to R865, R870). -/
namespace Sys2Proof.Machine

/-! ### Writes -/

/-- An accepted write of a transform register, as the host's step. -/
theorem exec_xform_ok {s : State} {i : Instr} {r : XformReg} {v : Word} {x : Xform} (hi : Reg.wrInstr (.xform r) v = .ok i)
    (h : s.xform.write r v = .ok x) : exec i s = .next { s with xform := x }.advance := by
  rw [exec_wrInstr _ _ _ s hi, State.regWrite, State.xformWrite, h, runWrite_ok]

/-- A row of `CTRL` runs its transform, as the host's step (45_xform.md R851). -/
theorem runWrite_runXform (s : State) (f : Xform → Xform) :
    Cpu.runWrite s (s.runXform f) = .next { s with xform := f s.xform }.advance := rfl

/-- The row of SVPWM, by its outputs. -/
theorem exec_svpwm {s : State} (hi : BitVec 29) {out : Vector Word 4} (h : s.xform.svpwm.out = out) :
    exec (.xformCtrlWrSvpwm hi) s = .next { s with xform := { s.xform with op := 4, out := out } }.advance :=
  h ▸ runWrite_runXform s Xform.svpwm

theorem svpwmScale_eq (maxPwm : Word) :
    svpwmScale maxPwm = if F32.isFinite maxPwm = true ∧ F32.lt 0 maxPwm = true then maxPwm else 0 := by
  simp only [svpwmScale, Bool.and_eq_true]

/-- `SECTOR` is the table of R864; past its end it is 0 too. -/
theorem svpwmSector_eq : ∀ n : Nat, svpwmSector n = #[0#32, 2, 6, 1, 4, 3, 5, 0].getD n 0
  | 0 | 1 | 2 | 3 | 4 | 5 | 6 | 7 => rfl
  | _ + 8 => rfl

/-- Settles O32: each row is the write of its register or runs its transform. SVPWM's outputs are compared as arrays, since a vector's
proof of its size names its entries, which would keep the scale and the sector from being rewritten. -/
theorem xformWrites : Obligations.XformWrites := by
  unfold Obligations.XformWrites
  refine ⟨fun s v hi => ?_, fun s hi => ?_⟩
  · intro inp i0 i1 i2 i3 o2 o3 put beta
    exact ⟨exec_xform_ok (r := .in0) rfl rfl, exec_xform_ok (r := .in1) rfl rfl, exec_xform_ok (r := .in2) rfl rfl,
      exec_xform_ok (r := .in3) rfl rfl, exec_xform_ok (r := .out0) rfl rfl, exec_xform_ok (r := .out1) rfl rfl,
      exec_xform_ok (r := .out2) rfl rfl, exec_xform_ok (r := .out3) rfl rfl, runWrite_runXform s Xform.nop,
      runWrite_runXform s Xform.clarke, runWrite_runXform s Xform.park, runWrite_runXform s Xform.ipark,
      runWrite_runXform s Xform.clarkePark⟩
  · intro a b h r vb vc vo m duty one n
    refine exec_svpwm hi (Vector.toArray_inj.mp ?_)
    change #[svpwmDuty a vo (svpwmScale s.xform.inp[2]), svpwmDuty vb vo (svpwmScale s.xform.inp[2]),
      svpwmDuty vc vo (svpwmScale s.xform.inp[2]), svpwmSector n] = _
    rw [svpwmScale_eq, svpwmSector_eq]
    rfl

/-! ### Accesses of the transform unit in a call -/

/-- The state with transform unit x. -/
def State.setXform (s : State) (x : Xform) : State := { s with xform := x }

section
variable {s : State} {body : Prog} {k : Nat} {env : List (LocalName × Word)} {ms : List Move} {x x' : Xform}

/-- A write that the unit accepts, in a call that has changed the transform unit only. -/
theorem State.Runs.xformWrite {r : XformReg} {e : Expr} {v : Int} (h : s.Runs ms body k (s.setXform x) env)
    (hk : body[k]? = some (.wr .b4 (regE s.params (.xform r)) e)) (hp : s.params.wf = true) (he : Expr.eval env e = .ok v)
    (hw : x.write r (BitVec.ofInt 32 v) = .ok x') : s.Runs (ms ++ [.statement]) body (k + 1) (s.setXform x') env := by
  refine h.stmt hk nofun (.write (u := s.setXform x) (List.getElem?_eq_some_iff.mp hk).1 hp rfl he fun t ht => ?_)
  obtain ⟨pwm, adc1, adc2, paired, dma, mux, cordic, xform, intc, ram, trim, vec, params⟩ := ht
  exact ⟨{ t with xform := x' }, by rw [State.regWrite, State.xformWrite, xform, State.setXform, hw],
    pwm, adc1, adc2, paired, dma, mux, cordic, rfl, intc, ram, trim, vec, params⟩

/-- A read has no side effect (45_xform.md R850). -/
theorem State.Runs.xformRead {y : LocalName} {r : XformReg} (h : s.Runs ms body k (s.setXform x) env)
    (hk : body[k]? = some (.rd y .b4 (regE s.params (.xform r)))) (hp : s.params.wf = true) :
    s.Runs (ms ++ [.statement]) body (k + 1) (s.setXform x) (writeLocal env y (x.read r)) := by
  refine h.stmt hk nofun (.read (u := s.setXform x) hk hp rfl fun t ht => ⟨t, ?_, ht⟩)
  obtain ⟨-, -, -, -, -, -, -, xform, -⟩ := ht
  rw [State.regRead, xform, State.setXform]

end

/-! ### Several locals written -/

/-- The locals after several are written, one after another. -/
def writeLocals (env rs : List (LocalName × Word)) : List (LocalName × Word) := rs.foldl (fun env r => writeLocal env r.1 r.2) env

theorem findLocal_writeLocals_other {y : LocalName} :
    ∀ {rs env : List (LocalName × Word)}, (∀ r ∈ rs, r.1 ≠ y) → findLocal (writeLocals env rs) y = findLocal env y
  | [], _, _ => rfl
  | r :: rs, env, h => by
    obtain ⟨hr, hrs⟩ := List.forall_mem_cons.mp h
    exact (findLocal_writeLocals_other (rs := rs) hrs).trans (findLocal_other env r.2 hr)

/-- Each of several different locals keeps the value it is given. -/
theorem findLocal_writeLocals_mem :
    ∀ {rs env : List (LocalName × Word)}, (rs.map Prod.fst).Nodup → ∀ r ∈ rs, findLocal (writeLocals env rs) r.1 = some r.2
  | [], _, _ => List.forall_mem_nil _
  | r :: rs, env, h => by
    obtain ⟨hr, hrs⟩ := List.nodup_cons.mp h
    refine List.forall_mem_cons.mpr ⟨?_, findLocal_writeLocals_mem (rs := rs) hrs⟩
    have hother : ∀ q ∈ rs, q.1 ≠ r.1 := fun q hq he => hr (List.mem_map.mpr ⟨q, hq, he⟩)
    exact (findLocal_writeLocals_other hother).trans (findLocal_same env r.1 r.2)

/-! ### `XF_RUN` -/

/-- The unit after operation code `op` is written to `CTRL` (45_xform.md R851). -/
def Xform.transform (x : Xform) (op : Nat) : Xform := #[x.nop, x.clarke, x.park, x.ipark, x.svpwm, x.clarkePark].getD op x

theorem Xform.write_ctrl (x : Xform) {op : Nat} (hop : op ≤ 5) : x.write .ctrl (BitVec.ofInt 32 op) = .ok (x.transform op) := by
  interval_cases op <;> rfl

/-- The unit after all four inputs are written (45_xform.md R852). -/
theorem Xform.writeIn_all (x : Xform) (w0 w1 w2 w3 : Word) :
    (((x.writeIn 0 w0).writeIn 1 w1).writeIn 2 w2).writeIn 3 w3 = { x with inp := #v[w0, w1, w2, w3] } := by
  refine congrArg (fun inp => { x with inp := inp }) (Vector.ext fun i hi => ?_)
  interval_cases i <;> simp [Xform.writeIn]

/-- The check passes, the inputs are stored and the transform runs. -/
theorem xfRun_transforms {s : State} {op w0 w1 w2 w3 : Nat} {y0 y1 y2 y3 : LocalName} (hop : op ≤ 5)
    (h : s.AtCall (.xfRun (.num op) (.num w0) (.num w1) (.num w2) (.num w3)) [y0, y1, y2, y3]) :
    s.Runs (List.replicate 6 .statement) (bodyXfRun s.params (.num op) (.num w0) (.num w1) (.num w2) (.num w3) y0 y1 y2 y3) 6
      (s.setXform ({ s.xform with
        inp := #v[BitVec.ofNat 32 w0, BitVec.ofNat 32 w1, BitVec.ofNat 32 w2, BitVec.ofNat 32 w3] }.transform op)) s.top.loc := by
  have hp := h.1
  have hchecked : s.Runs _ _ _ (s.setXform s.xform) s.top.loc :=
    h.begins rfl rfl nofun (.check (Nat.succ_pos _) .xformBadOp (.num op) (Expr.eval_gtE_of_le rfl (by omega)))
  have hin0 := hchecked.xformWrite (r := .in0) rfl hp (Expr.eval.eq_1 _ w0) rfl
  have hin1 := hin0.xformWrite (r := .in1) rfl hp (Expr.eval.eq_1 _ w1) rfl
  have hin2 := hin1.xformWrite (r := .in2) rfl hp (Expr.eval.eq_1 _ w2) rfl
  have hin3 := hin2.xformWrite (r := .in3) rfl hp (Expr.eval.eq_1 _ w3) rfl
  rw [Xform.writeIn_all] at hin3
  simp only [BitVec.ofInt_natCast] at hin3
  exact hin3.xformWrite (r := .ctrl) rfl hp (Expr.eval.eq_1 _ op) (Xform.write_ctrl _ hop)

/-- Settles O44: the four outputs of the transform are read into four different locals. -/
theorem xfRunRun : Obligations.XfRunRun := by
  unfold Obligations.XfRunRun
  intro s op w0 w1 w2 w3 y0 y1 y2 y3 hop hnodup h x x'
  have hp := h.1
  have htransformed : s.Runs _ _ _ (s.setXform x') _ := xfRun_transforms hop h
  have hout0 := htransformed.xformRead (r := .out0) rfl hp
  have hout1 := hout0.xformRead (r := .out1) rfl hp
  have hout2 := hout1.xformRead (r := .out2) rfl hp
  have hout3 := hout2.xformRead (r := .out3) rfl hp
  exact hout3.ends (findLocal_writeLocals_mem hnodup) fun _ => findLocal_writeLocals_other

end Sys2Proof.Machine
end

section
/-! SUPPORT. A fatal fault: whatever answers a state keeps the record, and whatever raises records the fault in the state before the step
(60_exceptions.md R1001). -/
namespace Sys2Proof.Machine

/-! ### What the host's statements keep of the record -/

/-- A statement that is done keeps the record. -/
def StmtResult.KeepsFault (s : State) : StmtResult → Prop
  | .done t => t.fault = s.fault
  | .hold => True
  | .fault _ => True

/-- The record stays, or the state is that before with a record and no other change. -/
def State.RecordsOnly (s t : State) : Prop := t.fault = s.fault ∨ ∃ f, t = s.raise f

theorem State.BusEffect.fault {s t : State} (h : s.BusEffect t) : t.fault = s.fault := by
  cases h with
  | none => rfl
  | read h => exact (regRead_host _ _ _ _ h).fault
  | write h => exact (regWrite_host _ _ _ _ h).fault
  | mem n a v => rfl

/-- What the host does with a read's result does not touch the record. -/
theorem absorb_keepsFault {s t : State} (ht : t.fault = s.fault) (k : Sink) (r : Word) : (t.absorb k r).KeepsFault s := by
  cases k with
  | store x => exact ht
  | drop => exact ht
  | poll a m v =>
    simp only [State.absorb]
    split
    · exact ht
    · split
      · trivial
      · exact ht

theorem finishRead_keepsFault {s : State} (lane : Lane) {r : ReadResult} (hr : ∀ v t, r = .value v t → t.fault = s.fault) :
    (Cpu.finishRead s lane r).KeepsFault s := by
  simp only [Cpu.finishRead]
  split
  · trivial
  · split
    · trivial
    · trivial
    · exact absorb_keepsFault (hr _ _ rfl) _ _

theorem transact_keepsFault (s : State) (x : Transaction) : (Cpu.transact s x).KeepsFault s := by
  cases x with
  | rd n a => exact finishRead_keepsFault _ fun v t h => (hostRead_busEffect h).fault
  | wr n a d =>
    simp only [Cpu.transact]
    cases h : s.hostWrite n a d with
    | error f => trivial
    | ok t => exact (hostWrite_busEffect h).fault

theorem runRd_keepsFault (s : State) (n : Size) (a : Expr) : (Cpu.runRd s n a).KeepsFault s := by
  simp only [Cpu.runRd]
  split
  · trivial
  · exact transact_keepsFault s _

/-- A statement reaches the record through its result only. -/
theorem runStmt_keepsFault (s : State) (st : Stmt) : (Cpu.runStmt s st).KeepsFault s := by
  cases st with
  | rd x n a => exact runRd_keepsFault s n a
  | poll a m v => exact runRd_keepsFault s .b4 a
  | wr n a e =>
    simp only [Cpu.runStmt, Cpu.runWr]
    split
    · trivial
    · exact transact_keepsFault s _
  | wait n => simp only [Cpu.runStmt, Cpu.runWait]; split <;> rfl
  | set x e => simp only [Cpu.runStmt, Cpu.runSet]; split <;> trivial
  | br c l =>
    simp only [Cpu.runStmt, Cpu.runBr]
    split
    · trivial
    · split <;> rfl
  | brFault c code info =>
    simp only [Cpu.runStmt, Cpu.runBrFault]
    split
    · trivial
    · split
      · split <;> trivial
      · rfl
  | jmp l => rfl
  | call i ds => trivial
  | ret =>
    simp only [Cpu.runStmt, Cpu.runRet]
    split
    · trivial
    · obtain ⟨_, _, _, rfl, _⟩ := leaveHandler_ok s _ (by assumption)
      rfl
  | halt => simp only [Cpu.runStmt, Cpu.runHalt]; split <;> trivial

theorem outcome_recordsOnly {s t : State} {r : StmtResult} (hr : r.KeepsFault s) (h : Cpu.outcome s r = .next t) :
    s.RecordsOnly t := by
  cases r with
  | done u => cases h; exact .inl hr
  | hold => cases h; exact .inl rfl
  | fault f => cases h; exact .inr ⟨f, rfl⟩

/-- The host's step, whether its statement is its own or the first of the expansion that a CALL enters. -/
theorem hostStatement_recordsOnly {s t : State} (h : Cpu.hostStatement s = .next t) : s.RecordsOnly t := by
  cases hi : s.hostIdle with
  | true => simp only [Cpu.hostStatement, hi, if_true] at h; cases h; exact .inl rfl
  | false =>
    cases hc : s.top.current with
    | none =>
      simp only [Cpu.hostStatement, hi, hc] at h
      exact outcome_recordsOnly (runStmt_keepsFault s .halt) h
    | some st =>
      by_cases hcall : ∃ i ds, st = .call i ds
      · obtain ⟨i, ds, rfl⟩ := hcall
        simp only [Cpu.hostStatement, hi, hc, Bool.false_eq_true, if_false] at h
        split at h
        · rename_i ho
          obtain ⟨st, hl, _⟩ := leading_callStart s.params s.callDests i ho
          obtain ⟨a, _, _, _, _, hexec⟩ := exec_operation_leading ho hl
          exact outcome_recordsOnly (runStmt_keepsFault (s.setTop a) st) (hexec ▸ h)
        · cases h; exact .inl rfl
      · rw [hostStatement_eq_runStmt hi hc fun j ds e => hcall ⟨j, ds, e⟩] at h
        exact outcome_recordsOnly (runStmt_keepsFault s st) h

/-! ### What the agents keep of it -/

/-- Of a beat's two transactions only the write can raise a fault (43_dma.md R735). -/
theorem moveElement_recordsOnly {s t : State} {c : Fin 16} {n : Size} {src dst p m : Word}
    (h : s.moveElement c n src dst p m = some t) : s.RecordsOnly t := by
  simp only [State.moveElement] at h
  split at h
  · cases h
  · cases h; exact .inl rfl
  · rename_i v u hread
    have hu : u.fault = s.fault := (dmaBusRead_host hread).fault
    split at h
    · cases h; exact .inl hu
    · rename_i f _; cases h; exact .inr ⟨f, rfl⟩
    · rename_i w hwrite
      cases h
      exact .inl ((dmaBusWrite_busEffect hwrite).fault.trans hu)

theorem beatStep_recordsOnly {s t : State} (h : s.beatStep = some t) : s.RecordsOnly t := by
  simp only [State.beatStep] at h
  split at h
  · cases h
  · simp only [State.beatOf] at h
    split at h
    · cases h; exact .inl rfl
    · split at h <;> exact moveElement_recordsOnly h

theorem agentStep_recordsOnly {s t : State} {m : Move} (h : s.agentStep m = some t) : s.RecordsOnly t := by
  by_cases hm : m = .beat
  · subst hm; exact beatStep_recordsOnly h
  rcases agentStep_some s t m hm h with ⟨_, _, _, rfl⟩ | ⟨_, rfl⟩ | ⟨_, _, _, rfl⟩ | ⟨_, _, _, rfl⟩ | ⟨_, _, _, rfl⟩ | ⟨_, _, _, rfl⟩ |
    ⟨_, _, _, _, rfl⟩ | ⟨_, _, rfl⟩ | ⟨_, _, _, rfl⟩ | ⟨_, _, _, rfl⟩
  all_goals exact .inl rfl

theorem moveOrStay_recordsOnly (s : State) (m : Move) : s.RecordsOnly (s.moveOrStay m) := by
  simp only [State.moveOrStay]
  cases h : s.agentStep m with
  | none => exact .inl rfl
  | some t => exact agentStep_recordsOnly h

/-! ### The step -/

/-- A step is taken in a state without a record, and gives one without a record or that state with one. -/
theorem step_recordsOnly {s t : State} (h : step s = .next t) : s.fault = none ∧ ∃ u, s.RecordsOnly u ∧ t = u.scheduled := by
  simp only [step] at h
  split at h
  · cases h
  · refine ⟨by assumption, ?_⟩
    split at h
    · cases hh : Cpu.hostStatement s with
      | next u => rw [hh] at h; cases h; exact ⟨u, hostStatement_recordsOnly hh, rfl⟩
      | fault r => rw [hh] at h; cases h
      | refused r => rw [hh] at h; cases h
    · cases h
      exact ⟨_, moveOrStay_recordsOnly s _, rfl⟩

/-- Settles O9: every operation of a step keeps the record or raises in the state before the step; `step` looks at the record first. -/
theorem faultIsFatal : Obligations.FaultIsFatal := by
  unfold Obligations.FaultIsFatal
  refine ⟨fun s t h => ?_, fun s f hf => by simp only [step, hf]⟩
  obtain ⟨hnone, u, hkept | ⟨f, rfl⟩, rfl⟩ := step_recordsOnly h
  · exact .inl (hkept.trans hnone)
  · exact .inr ⟨f, rfl⟩

end Sys2Proof.Machine
end

section
/-! SUPPORT. The dispatcher: which line an entry takes, what masks every line, and the reads and writes of its registers (60_exceptions.md
R1010 to R1012, R1020, R1030 to R1032). -/
namespace Sys2Proof.Machine

/-! ### Entry -/

/-- A line may be entered when it is enabled, asserted and above the running level (60_exceptions.md R1030). -/
theorem State.eligible_iff (s : State) (k : Line) :
    s.eligible k = true ↔ s.intc.ier.getLsbD k.val = true ∧ s.asserted k = true ∧ Line.level k < s.intc.curlvl := by
  simp only [State.eligible, Bool.and_eq_true, decide_eq_true_eq, and_assoc]

/-- With `GEN` set, entry takes line k exactly when k is the least eligible number. -/
theorem State.entryLine_eq_some_iff {s : State} {k : Line} (hgen : s.intc.gen = true) :
    s.entryLine = some k ↔ s.eligible k = true ∧ ∀ j < k, s.eligible j = false := by
  rw [State.entryLine, if_pos hgen, ← Fin.find?_eq_find?_finRange, Fin.find?_eq_some_iff]

theorem State.eligible_of_entryLine {s : State} {k : Line} (h : s.entryLine = some k) : s.eligible k = true := by
  simp only [State.entryLine] at h
  split at h
  · exact List.find?_some h
  · cases h

/-- Line 0 has level 0, every other line level 1 (60_exceptions.md R1020). -/
theorem Line.level_eq (k : Line) : Line.level k = if k = 0 then 0 else 1 := if_congr Fin.val_eq_zero_iff rfl rfl

theorem Line.eq_zero_of_level_lt {j k : Line} (h : Line.level j < Line.level k) : j = 0 := by
  by_contra hj
  rw [Line.level_eq, Line.level_eq, if_neg hj] at h
  split at h <;> omega

/-- A line above another in level has the lower number. -/
theorem Line.lt_of_level_lt {j k : Line} (h : Line.level j < Line.level k) : j < k := by
  obtain rfl := Line.eq_zero_of_level_lt h
  exact Fin.pos_iff_ne_zero.mpr fun hk => absurd h (by rw [hk]; exact lt_irrefl _)

/-- Settles O14: the levels rise with the numbers, so the line of the lowest level, then number, is the least eligible one. -/
theorem interruptEntry : Obligations.InterruptEntry := by
  unfold Obligations.InterruptEntry
  intro s k prog hf ht hgen hier hasserted hlevel hvec hfirst
  have hleast : ∀ j < k, s.eligible j = false := fun j hj => by
    refine Bool.eq_false_iff.mpr fun hel => ?_
    obtain ⟨hierj, hassj, hlvlj⟩ := (s.eligible_iff j).mp hel
    rcases hfirst j hierj hassj hlvlj with hlt | ⟨_, hle⟩
    · exact lt_asymm hj (Line.lt_of_level_lt hlt)
    · exact not_le_of_gt hj hle
  have hline : s.entryLine = some k :=
    (State.entryLine_eq_some_iff hgen).mpr ⟨(s.eligible_iff k).mpr ⟨hier, hasserted, hlevel⟩, hleast⟩
  have hstep : step s = .next (s.enterLine k).scheduled := by
    simp only [step, hf, ht, State.moveOrStay, State.agentStep, State.entryStep, hline, Option.getD_some]
  rw [hstep, State.enterLine, State.handlerActivity, hvec]
  rfl

/-! ### Masking -/

theorem entryStep_eq_none_of_gen {s : State} (h : s.intc.gen = false) : s.entryStep = none := by
  simp only [State.entryStep, State.entryLine, h, Bool.false_eq_true, if_false]

/-- An entry is of an eligible line. -/
theorem entryStep_some {s t : State} (h : s.entryStep = some t) : ∃ k, s.eligible k = true ∧ t = s.enterLine k := by
  simp only [State.entryStep] at h
  split at h
  · cases h
  · rename_i k hk
    exact ⟨k, State.eligible_of_entryLine hk, (Option.some.inj h).symm⟩

theorem entryStep_eq_none {s : State} (h : ∀ k, s.eligible k ≠ true) : s.entryStep = none :=
  Option.eq_none_iff_forall_ne_some.mpr fun _ ht => by
    obtain ⟨k, hk, -⟩ := entryStep_some ht
    exact h k hk

/-- A line above that of the running handler has a level below its level. -/
theorem State.level_lt_of_eligible {s : State} {j k : Line} {r : List Line} (hst : s.intc.stack = k :: r)
    (hj : s.eligible j = true) : Line.level j < Line.level k := by
  obtain ⟨-, -, hlt⟩ := (s.eligible_iff j).mp hj
  rwa [Intc.curlvl, hst] at hlt

/-- Settles O15: an entry is of an eligible line, whose level is below that of the line at the head of the stack; line 0 has level 0 and
the others level 1. -/
theorem interruptMasking : Obligations.InterruptMasking := by
  unfold Obligations.InterruptMasking
  refine ⟨fun s => entryStep_eq_none_of_gen, fun s h => ?_, fun s r hst => ?_, fun s t k r hst hk h => ?_⟩
  · exact entryStep_eq_none fun k hk => h k ((s.eligible_iff k).mp hk)
  · exact entryStep_eq_none fun k hk => Nat.not_lt_zero _ (State.level_lt_of_eligible hst hk)
  · obtain ⟨j, hj, rfl⟩ := entryStep_some h
    have hlt := State.level_lt_of_eligible hst hj
    rw [State.enterLine_stack, Line.eq_zero_of_level_lt hlt]

/-! ### Writes -/

/-- An accepted write of a dispatcher register, as the host's step. -/
theorem exec_intc_ok {s t : State} {i : Instr} {r : IntcReg} {v : Word} (hi : Reg.wrInstr (.intc r) v = .ok i)
    (h : s.intcWrite r v = .ok t) : exec i s = .next t.advance := by
  rw [exec_wrInstr _ _ _ s hi, State.regWrite, h, runWrite_ok]

/-- A refused one. -/
theorem exec_intc_error {s : State} {i : Instr} {r : IntcReg} {v : Word} {f : FaultRecord} (hi : Reg.wrInstr (.intc r) v = .ok i)
    (h : s.intcWrite r v = .error f) : exec i s = .next (s.raise f) := by
  rw [exec_wrInstr _ _ _ s hi, State.regWrite, h, runWrite_error]

/-- `IER` names the least line that the word enables and that has no handler program (60_exceptions.md R1012). -/
theorem State.missingHandler_eq_some {s : State} {v : Word} {k : Line} (hk : v.getLsbD k.val = true) (hvec : s.vec[k] = none)
    (hfirst : ∀ j : Line, j < k → v.getLsbD j.val = true → s.vec[j] ≠ none) : s.missingHandler v = some k := by
  rw [State.missingHandler, ← Fin.find?_eq_find?_finRange, Fin.find?_eq_some_iff]
  refine ⟨by rw [Word.bit, hk, hvec]; rfl, fun j hj => ?_⟩
  simpa [Word.bit, ← Option.ne_none_iff_isSome] using hfirst j hj

theorem State.missingHandler_eq_none {s : State} {v : Word} (h : ∀ k : Line, v.getLsbD k.val = true → s.vec[k] ≠ none) :
    s.missingHandler v = none := by
  rw [State.missingHandler, ← Fin.find?_eq_find?_finRange, Fin.find?_eq_none_iff]
  intro k
  simpa [Word.bit, ← Option.ne_none_iff_isSome] using h k

theorem State.writeIntcIer_error {s : State} {v : Word} {k : Line} (h : s.missingHandler v = some k) :
    s.writeIntcIer v = .error ⟨.intcNoHandler, .num k.val⟩ := by
  rw [State.writeIntcIer, h]
  rfl

theorem State.writeIntcIer_ok {s : State} {v : Word} (h : s.missingHandler v = none) :
    s.writeIntcIer v = .ok { s with intc := { s.intc with ier := v.extractLsb' 0 17 } } := by
  rw [State.writeIntcIer, h]
  rfl

/-- `EOI` ends the claim when the running handler's line is the head of the stack (60_exceptions.md R1032). -/
theorem State.writeIntcEoi_ok {s : State} {h : Activity} {hs : List Activity} {k : Line} {ks : List Line}
    (hh : s.handlers = h :: hs) (hst : s.intc.stack = k :: ks) (hline : h.line = some k) :
    s.writeIntcEoi = .ok { s with intc := { s.intc with stack := ks } } := by
  have hvalid : s.eoiValid = true := by simp only [State.eoiValid, hh, hst, hline, beq_self_eq_true]
  rw [State.writeIntcEoi, if_pos hvalid, hst, List.tail_cons]

/-- It is refused with no claim, in the background, or by a handler of another line. -/
theorem State.eoiValid_eq_false {s : State} (h : s.intc.stack = [] ∨ s.handlers = [] ∨
    ∃ a rest, s.handlers = a :: rest ∧ a.line ≠ s.intc.stack.head?) : s.eoiValid = false := by
  simp only [State.eoiValid]
  split
  · rename_i a _ k _ hh hst
    rcases h with h | h | ⟨b, _, hb, hline⟩
    · rw [h] at hst; cases hst
    · rw [h] at hh; cases hh
    · rw [hh] at hb
      cases hb
      rw [hst, List.head?_cons] at hline
      exact beq_eq_false_iff_ne.mpr hline
  · rfl

theorem State.writeIntcEoi_error {s : State} (h : s.eoiValid = false) : s.writeIntcEoi = .error ⟨.intcBadEoi, .num 0⟩ := by
  rw [State.writeIntcEoi, if_neg (by rw [h]; exact Bool.false_ne_true)]
  rfl

/-- Settles O34: each row is the rule of its register, whose checks are the cases. -/
theorem intcWrites : Obligations.IntcWrites := by
  unfold Obligations.IntcWrites
  intro s v
  refine ⟨exec_intc_ok (r := .ctrl) rfl rfl, fun k hk hvec hfirst => ?_, fun h => ?_, fun a rest k ks hh hst hline => ?_, fun h => ?_,
    exec_intc_ok (r := .ipr) (v := v) rfl rfl, exec_intc_ok (r := .iabr) (v := v) rfl rfl, exec_intc_ok (r := .curpri) (v := v) rfl rfl,
    exec_intc_ok (r := .active) (v := v) rfl rfl⟩
  · exact exec_intc_error (r := .ier) rfl (State.writeIntcIer_error (State.missingHandler_eq_some hk hvec hfirst))
  · exact exec_intc_ok (r := .ier) rfl (State.writeIntcIer_ok (State.missingHandler_eq_none h))
  · exact exec_intc_ok (r := .eoi) (v := v) rfl (State.writeIntcEoi_ok hh hst hline)
  · exact exec_intc_error (r := .eoi) (v := v) rfl (State.writeIntcEoi_error (State.eoiValid_eq_false h))

/-! ### Reads -/

/-- A word with a bit for each line, by its bits. -/
theorem lineBits_eq {f : Line → Bool} {v : Word}
    (h : ∀ k : Fin 32, v.getLsbD k.val = if hk : k.val < 17 then f ⟨k.val, hk⟩ else false) :
    (BitVec.ofFnLE f).setWidth 32 = v := by
  apply BitVec.eq_of_getLsbD_eq
  intro i hi
  rw [BitVec.getLsbD_setWidth, BitVec.getLsbD_ofFnLE, h ⟨i, hi⟩, decide_eq_true hi, Bool.true_and]

theorem Intc.iabr_eq (i : Intc) : i.iabr = (BitVec.ofFnLE fun k : Line => decide (k ∈ i.stack)).setWidth 32 := by
  simp only [Intc.iabr, List.contains_eq_mem]

/-- Settles O23: each row is `State.intcRead` of its register, into the local. -/
theorem intcReads : Obligations.IntcReads := by
  unfold Obligations.IntcReads
  intro s x lane hk
  have read (r : IntcReg) {w : Word} (h : s.intcRead r = w) :
      Cpu.runRead s lane (.value (s.intcRead r) s) = .next (s.loaded x (Lane.take lane w)) := h ▸ runRead_store s s x lane _ hk
  refine ⟨read .ctrl ?_, read .ier (setWidth_eq_zero_append 15 _), read .eoi rfl, fun v hv => read .ipr (lineBits_eq hv),
    fun v hv => read .iabr (s.intc.iabr_eq.trans (lineBits_eq hv)), fun hst => ⟨read .curpri ?_, read .active ?_⟩,
    fun k r hst => ⟨read .curpri ?_, read .active ?_⟩⟩
  · simp only [State.intcRead]
    cases s.intc.gen <;> rfl
  · simp only [State.intcRead, Intc.curpri, Intc.curlvl, hst]
  · simp only [State.intcRead, Intc.active, hst]
  · simp only [State.intcRead, Intc.curpri, Intc.curlvl, hst, Line.level_eq]
    split <;> rfl
  · simp only [State.intcRead, Intc.active, hst]

end Sys2Proof.Machine
end

section
/-! SUPPORT. The state a run starts in: what each unit's registers read, and the invariants (70_reset_and_hazards.md R1100 to R1102). -/
namespace Sys2Proof.Machine

/-! ### What a unit reads at reset -/

theorem Pwm.read_reset (r : PwmReg) : Pwm.reset.read r = if r = .arr then 0xFFFF#32 else 0#32 := by
  cases r <;> decide

theorem Adc.read_reset (r : AdcReg) : Adc.reset.read r = if r = .cr then 0x20000000#32 else 0#32 := by
  cases r <;> decide

theorem DmaChannel.read_reset (r : DmaReg) : DmaChannel.reset.read r = 0#32 := by
  cases r <;> decide

theorem Xform.read_reset (r : XformReg) : Xform.reset.read r = 0#32 := by
  cases r <;> decide

theorem Cordic.readCsr_reset : Cordic.reset.readCsr = 0x50#32 := by decide

theorem DmaChannel.irq_reset : DmaChannel.reset.irq = false := by decide

theorem Intc.iabr_reset : Intc.reset.iabr = 0#32 := by decide

/-- A read of an ADC register, `DR` included, answers its value. -/
theorem regRead_adc_value (s : State) (u : AdcUnit) (r : AdcReg) : ∃ t, s.regRead (.adc u r) = .value ((s.adc u).read r) t := by
  by_cases hr : r = .dr
  · subst hr
    exact ⟨_, rfl⟩
  · exact ⟨s, regRead_adc s u hr⟩

/-! ### The invariants of a unit at reset -/

theorem Pwm.modes_reset (k : Fin 3) : ocmReserved (ccmrMode Pwm.reset.ccmr k) = false := by
  decide +revert

/-- Every rank names channel 0. -/
theorem ranksOk_zero (chMax : Nat) (len : BitVec 2) : ranksOk chMax len (Vector.replicate 4 0) := by
  intro r _
  rw [Fin.getElem_fin, Vector.getElem_replicate]
  exact Nat.zero_le chMax

theorem Adc.fieldsOk_reset (p : Params) : Adc.reset.FieldsOk p := by
  refine ⟨by decide, ranksOk_zero _ _, ranksOk_zero _ _, Nat.two_pow_pos _, fun r => ?_⟩
  have hr : Adc.reset.jdr[r] = 0 := Vector.getElem_replicate _
  rw [hr]
  exact Nat.two_pow_pos _

theorem Cordic.func_reset_lt : Cordic.reset.func.toNat < 2 := by decide

theorem Cordic.precision_reset_ne_zero : Cordic.reset.precision ≠ 0 := by decide

theorem Xform.op_reset_lt : Xform.reset.op.toNat < 6 := by decide

theorem Adc.handshakeOk_reset : Adc.reset.HandshakeOk := by
  unfold Adc.HandshakeOk
  decide

theorem Adc.sequenceOk_reset : Adc.reset.SequenceOk := by
  unfold Adc.SequenceOk
  decide

theorem DmaChannel.ok_reset : DmaChannel.reset.Ok := fun h => absurd h (by decide)

theorem Cordic.ok_reset : Cordic.reset.Ok := by
  unfold Cordic.Ok
  decide

/-! ### The state at launch -/

section
variable (p : Params) (trimValue : BitVec 16) (bg : Prog) (vec : Vector (Option Prog) 17) (first : Move)

@[simp] theorem State.launch_pwm : (State.launch p trimValue bg vec first).pwm = Pwm.reset := rfl

@[simp] theorem State.launch_xform : (State.launch p trimValue bg vec first).xform = Xform.reset := rfl

@[simp] theorem State.launch_dma (c : Fin 16) : (State.launch p trimValue bg vec first).dma[c] = DmaChannel.reset :=
  Vector.getElem_replicate _

@[simp] theorem State.launch_dmamux (c : Fin 16) : (State.launch p trimValue bg vec first).dmamux[c] = 0 :=
  Vector.getElem_replicate _

@[simp] theorem State.launch_adc (u : AdcUnit) : (State.launch p trimValue bg vec first).adc u = Adc.reset := by
  cases u <;> rfl

/-- No unit asserts its line. -/
theorem State.launch_asserted (k : Line) : (State.launch p trimValue bg vec first).asserted k = false := by
  rw [State.asserted]
  split
  · rfl
  · exact (congrArg DmaChannel.irq (Vector.getElem_replicate _)).trans DmaChannel.irq_reset

theorem State.launch_ipr : (State.launch p trimValue bg vec first).ipr = 0#32 := by
  simp only [State.ipr, State.launch_asserted]
  decide

theorem State.launch_intcRead (r : IntcReg) : (State.launch p trimValue bg vec first).intcRead r =
    if r = .curpri then 2#32 else if r = .active then 0x1F#32 else 0#32 := by
  cases r with
  | ipr => exact State.launch_ipr p trimValue bg vec first
  | iabr => exact Intc.iabr_reset
  | _ => rfl

/-- Every register but `RDATA` answers a read with its reset value (70_reset_and_hazards.md R1100). -/
theorem State.launch_regRead (r : Reg) (hr : r ≠ .cordic .rdata) :
    ∃ t, (State.launch p trimValue bg vec first).regRead r = .value
      (if r = .pwm .arr then 0xFFFF#32 else if r = .adc .one .cr ∨ r = .adc .two .cr then 0x20000000#32
        else if r = .cordic .csr then 0x50#32 else if r = .intc .curpri then 2#32
        else if r = .intc .active then 0x1F#32 else 0#32) t := by
  cases r with
  | pwm r =>
    refine ⟨_, congrArg (ReadResult.value · _) ?_⟩
    rw [State.launch_pwm, Pwm.read_reset]
    simp
  | adc u r =>
    obtain ⟨t, ht⟩ := regRead_adc_value (State.launch p trimValue bg vec first) u r
    rw [State.launch_adc, Adc.read_reset] at ht
    refine ⟨t, ?_⟩
    cases u <;> simpa using ht
  | dma c r =>
    refine ⟨_, congrArg (ReadResult.value · _) ?_⟩
    rw [State.launch_dma, DmaChannel.read_reset]
    simp
  | dmamux c =>
    refine ⟨_, congrArg (ReadResult.value · _) ?_⟩
    rw [State.readRouter, State.launch_dmamux]
    simp
  | cordic r =>
    cases r with
    | csr => exact ⟨_, congrArg (ReadResult.value · _) Cordic.readCsr_reset⟩
    | wdata => exact ⟨_, rfl⟩
    | rdata => exact absurd rfl hr
  | xform r =>
    refine ⟨_, congrArg (ReadResult.value · _) ?_⟩
    rw [State.launch_xform, Xform.read_reset]
    simp
  | intc r =>
    refine ⟨_, congrArg (ReadResult.value · _) ?_⟩
    rw [State.launch_intcRead]
    simp

theorem State.launch_memoryOk : (State.launch p trimValue bg vec first).MemoryOk := ⟨State.reset_ram_wf, rfl⟩

theorem State.launch_fieldsOk : (State.launch p trimValue bg vec first).FieldsOk := by
  refine ⟨Pwm.modes_reset, Adc.fieldsOk_reset p, Adc.fieldsOk_reset p, fun c => ?_,
    Cordic.func_reset_lt, Cordic.precision_reset_ne_zero, Xform.op_reset_lt⟩
  rw [State.launch_dmamux]
  exact Nat.zero_le 2

theorem State.launch_adcOk : (State.launch p trimValue bg vec first).AdcOk :=
  ⟨Adc.handshakeOk_reset, Adc.sequenceOk_reset, Adc.handshakeOk_reset, Adc.sequenceOk_reset⟩

theorem State.launch_dmaOk : (State.launch p trimValue bg vec first).DmaOk := fun c => by
  rw [State.launch_dma]
  exact DmaChannel.ok_reset

/-- No handler runs and no line is enabled, so nothing is nested and no handler program is asked for. -/
theorem State.launch_dispatchOk : (State.launch p trimValue bg vec first).DispatchOk := by
  refine ⟨rfl, rfl, fun h hh => absurd hh List.not_mem_nil, List.Sublist.slnil, List.Pairwise.nil, fun k hk => ?_⟩
  exact absurd (hk.symm.trans BitVec.getLsbD_zero) Bool.noConfusion

end

/-! ### Reset -/

/-- The hidden state of the PWM, whose pins are Z (70_reset_and_hazards.md R1101). -/
theorem Pwm.hidden_reset : Pwm.reset.dir = false ∧ Pwm.reset.pscAct = 0 ∧ Pwm.reset.pscCnt = 0 ∧ Pwm.reset.rep = 0 ∧
    (∀ k : Fin 5, Pwm.reset.ccrAct[k] = 0) ∧
    (∀ k : Fin 3, Pwm.reset.ocref[k] = false ∧ Pwm.reset.dtc[k] = 0 ∧ Pwm.reset.oc k = .z ∧ Pwm.reset.ocn k = .z) ∧
    Pwm.reset.trga = false ∧ Pwm.reset.trgb = false := by
  decide

/-- Settles O60: what each register reads and the invariants come from the units' reset values, the rest is the launch itself. -/
theorem resetState : Obligations.ResetState := by
  unfold Obligations.ResetState
  refine ⟨rfl, Params.default_wf, fun p trimValue bg vec first => ?_⟩
  refine ⟨rfl, rfl, rfl, rfl, State.launch_regRead p trimValue bg vec first, Pwm.hidden_reset, fun u => ?_, rfl, fun c => ?_,
    rfl, rfl, rfl, rfl, rfl, rfl, rfl, rfl, rfl, rfl, rfl, rfl, rfl, rfl, fun _ => rfl,
    State.launch_memoryOk p trimValue bg vec first, State.launch_fieldsOk p trimValue bg vec first,
    State.launch_adcOk p trimValue bg vec first, State.launch_dmaOk p trimValue bg vec first, Cordic.ok_reset,
    State.launch_dispatchOk p trimValue bg vec first⟩
  · rw [State.launch_adc]
    decide
  · rw [State.launch_dma]
    decide

end Sys2Proof.Machine
end
